-- ==== Sys2Proof/Word.lean ====
section
/-! DEFINITION. The byte of the cab line and of the tariff image, and the numbers of a few bytes that
command arguments carry (R190). -/

namespace Sys2Proof

/-- One byte of a frame or of the image (R7, R190). -/
abbrev Byte := BitVec 8

/-- A three-byte argument: amount, tendered, tip, limit, seconds, driver id, trip number (R190). -/
abbrev Word24 := BitVec 24

/-- A four-byte argument: account id (R190). -/
abbrev Word32 := BitVec 32

end Sys2Proof
end

