-- ==== Sys2Proof/Config.lean ====
section
/-! DEFINITION. What the spec leaves open: free values, constants without a body of which nothing can
be proved. Each is applied to the counter `State.draws`, so that every use has a value of its own. -/

namespace Sys2Proof

/-- DESIGN CHOICE (notes/assumptions/6.md): the byte a RESULT carries as the echo of a sequence number
or command code that the COMMAND's payload was too short to hold. R196 and R197 state no value. -/
opaque Config.missingEcho : Nat → Byte

/-- DESIGN CHOICE (notes/assumptions/7.md): whether, at a load completion, the hold monitor's start
work is taken before the start work of the fare engine and the charge sequencer. R5 and R167 leave
the order open. -/
opaque Config.monitorFirst : Nat → Bool

/-- DESIGN CHOICE (notes/assumptions/3.md): the level of the SERVICE input as a command that waited in
the FIFO reads it at an event whose row carries no level (R161, R163). -/
opaque Config.serviceLevel : Nat → Bool

end Sys2Proof
end

