-- ==== Sys2Proof/Syntax.lean ====
section
/-! DEFINITION. The commands the CF-14 takes: one constructor of `Instr` per row of the table of
operations and events. `Command` is the console's part of it, as a COMMAND frame carries it (R197). -/

namespace Sys2Proof

/-- A level of a pin. -/
inductive Level where
  | low
  | high
deriving DecidableEq, Repr

/-- A seat, numbered 1 to 4 (Conventions). -/
inductive Seat where
  | one
  | two
  | three
  | four
deriving DecidableEq, Repr

/-- The owner of a press record: the driver panel, or the panel of a seat (R122). -/
inductive PressKey where
  | driver
  | seat (s : Seat)
deriving DecidableEq, Repr

/-- The header fields of a received frame beside its kind (R187): priority class, source, destination. -/
structure Header where
  cls : BitVec 2
  source : BitVec 6
  dest : BitVec 6
deriving DecidableEq, Repr

/-- What arbitration compares of another station's frame, in this order (R188). -/
structure Contender where
  cls : BitVec 2
  kind : BitVec 6
  source : BitVec 6
deriving DecidableEq, Repr

/-- A console command with its arguments at the width their encoding gives them (R190, R197);
the owning block checks the ranges. -/
inductive Command where
  | reset
  | setClock (day : Byte) (seconds : Word24)
  | setBand (n : Byte)
  | shiftOpen (driver : Word24)
  | shiftClose
  | readTotals (page : Byte)
  | readTrip (n : Word24) (page : Byte)
  | hire (seat pool : Byte)
  | stop (seat : Byte)
  | resume (seat : Byte)
  | cancel (seat : Byte)
  | addExtra (seat kind : Byte) (amount : Word24)
  | splitExtra (kind : Byte) (amount : Word24)
  | cash (seat : Byte) (tendered tip : Word24)
  | waive (seat : Byte)
  | accountMap (scope : Byte) (account : Word32) (limit : Word24) (tips : Byte)
  | unmap (index : Byte)
  | flush
  | probeSeat (seat : Byte)
  | probeIndex (index : Byte)
  | abortCharge (seat : Byte)
  | intercomMute (seat on : Byte)
  | intercomTarget (target : Byte)
  | signMode (mode pool : Byte)
  | holdTrigger
  | clearCause (cause : Byte)
  | holdRelease
  | readHold (page : Byte)
deriving DecidableEq, Repr

/-- The commands of the table of operations and events, in the table's order.
An event carries what the outside world decides in it; a console command carries its sequence number
`seq` and its arguments. `service` is the level of the SERVICE input at the event, for a command taken
in it that reads SERVICE (R161, R163); the input has no row of its own (notes/assumptions/3.md). -/
inductive Instr where
  /-- PGOOD rises (R3). -/
  | pgoodRise
  /-- PGOOD falls (R1). -/
  | pgoodFall
  /-- RST is driven low (R3). -/
  | rstAssert
  /-- RST is released (R3). -/
  | rstRelease
  /-- The backup supply falls below its retention level (R2). -/
  | vbakLoss
  /-- The 500 ms limit of the image read expires (R7). -/
  | imageReadTimeout
  /-- The image read ends; `image` holds the bytes of the image memory from address 0 (R5, R7). -/
  | loadCompletion (image : List Byte)
  /-- The 100 ms timer of RESET expires (R6). -/
  | resetTimerExpiry
  /-- The clock advances one second (R16). -/
  | clockTick
  /-- The clock has reached a minute boundary (R16, R19). -/
  | minuteBoundary
  /-- The PULSE pin takes a level (R21). -/
  | pulseChange (level : Level)
  /-- The PULSE pin has held its new level for the minimum pulse width (R21). -/
  | settledEdge
  /-- The 200 ms interval timer expires (R26). -/
  | intervalExpiry
  /-- The TAMPER input takes a level (R158). -/
  | tamperChange (asserted : Bool)
  /-- The TAMPER input has held its new level for 20 ms (R158). -/
  | tamperSettled
  /-- The line turns idle; `others` are the frames of the other contending stations (R188). -/
  | lineIdle (others : List Contender)
  /-- The frame in transmission completes its check (R188). -/
  | transmissionComplete
  /-- A bit read back after the source field differs (R188). -/
  | transmissionAbandoned
  /-- The bytes of a received frame that the checks discard (R187, R192). -/
  | frameDiscarded (bytes : List Byte)
  /-- A frame addressed to another station (R191). -/
  | frameToOtherStation (kind : BitVec 6) (h : Header) (payload : List Byte)
  /-- A COMMAND frame (R196). -/
  | command (service : Bool) (h : Header) (payload : List Byte)
  /-- A TALK frame (R122). -/
  | talk (h : Header) (payload : List Byte)
  /-- A CARD_PRESENTED frame (R82). -/
  | cardPresented (h : Header) (payload : List Byte)
  /-- A CHARGE_RESULT frame (R104). -/
  | chargeResult (h : Header) (payload : List Byte)
  /-- A NAV_REPORT frame (R33, R146). -/
  | navReport (h : Header) (payload : List Byte)
  /-- A FAULT_REPORT frame (R159). -/
  | faultReport (h : Header) (payload : List Byte)
  /-- A HEARTBEAT frame (R193). -/
  | heartbeat (h : Header) (payload : List Byte)
  /-- The 2000 ms presence timer of a station expires (R194). -/
  | presenceTimeout (station : BitVec 6)
  /-- The 1000 ms STATUS timer expires (R201). -/
  | statusTimerExpiry
  /-- The timer of the charge in flight for a seat expires (R109). -/
  | chargeTimerExpiry (seat : Seat)
  /-- The 1500 ms lapse timer of a press record expires (R122). -/
  | pressLapse (key : PressKey)
  /-- The guard timer expires (R130). -/
  | guardExpiry
  /-- The talk-limit timer expires (R131). -/
  | talkLimitExpiry
  /-- A lamp period boundary; bit n of `sense` is SENSEn at the end of the on-time (R141, R148). -/
  | lampPeriodBoundary (sense : BitVec 8)
  /-- RESET (R6). -/
  | reset (seq : Byte)
  /-- SET_CLOCK(day, seconds) (R18). -/
  | setClock (seq day : Byte) (seconds : Word24)
  /-- SET_BAND(n) (R20). -/
  | setBand (seq n : Byte)
  /-- SHIFT_OPEN(driver id) (R173). -/
  | shiftOpen (seq : Byte) (driver : Word24)
  /-- SHIFT_CLOSE (R174). -/
  | shiftClose (seq : Byte)
  /-- READ_TOTALS(page) (R177). -/
  | readTotals (seq page : Byte)
  /-- READ_TRIP(n, page) (R184). -/
  | readTrip (seq : Byte) (n : Word24) (page : Byte)
  /-- HIRE(seat, pool) (R41). -/
  | hire (seq seat pool : Byte)
  /-- STOP(seat) (R44). -/
  | stop (seq seat : Byte)
  /-- RESUME(seat) (R45). -/
  | resume (seq seat : Byte)
  /-- CANCEL(seat) (R46). -/
  | cancel (seq seat : Byte)
  /-- ADD_EXTRA(seat, kind, amount) (R47). -/
  | addExtra (seq seat kind : Byte) (amount : Word24)
  /-- SPLIT_EXTRA(kind, amount) (R75). -/
  | splitExtra (seq kind : Byte) (amount : Word24)
  /-- CASH(seat, tendered, tip) (R48). -/
  | cash (seq seat : Byte) (tendered tip : Word24)
  /-- WAIVE(seat) (R49). -/
  | waive (seq seat : Byte)
  /-- ACCOUNT_MAP(scope, account id, limit, tips allowed) (R85). -/
  | accountMap (seq scope : Byte) (account : Word32) (limit : Word24) (tips : Byte)
  /-- UNMAP(index) (R87). -/
  | unmap (seq index : Byte)
  /-- FLUSH (R88). -/
  | flush (seq : Byte)
  /-- PROBE_SEAT(s) (R89). -/
  | probeSeat (seq seat : Byte)
  /-- PROBE_INDEX(i) (R89). -/
  | probeIndex (seq index : Byte)
  /-- ABORT_CHARGE(seat) (R110). -/
  | abortCharge (seq seat : Byte)
  /-- INTERCOM_MUTE(seat, on or off) (R135). -/
  | intercomMute (seq seat on : Byte)
  /-- INTERCOM_TARGET(target) (R136). -/
  | intercomTarget (seq target : Byte)
  /-- SIGN_MODE(mode, advertise-pool) (R142). -/
  | signMode (seq mode pool : Byte)
  /-- HOLD_TRIGGER (R160). -/
  | holdTrigger (seq : Byte)
  /-- CLEAR_CAUSE(c) (R161). -/
  | clearCause (service : Bool) (seq cause : Byte)
  /-- HOLD_RELEASE (R162). -/
  | holdRelease (seq : Byte)
  /-- READ_HOLD(page) (R163). -/
  | readHold (service : Bool) (seq page : Byte)
deriving DecidableEq, Repr

end Sys2Proof
end

