-- ==== Sys2Proof/Decode.lean ====
section
/-! DEFINITION. Reading bits: the CRC and the header of a frame on the cab line (R187, R190), and the
command a COMMAND frame's payload spells, with the payload that spells it (R190, R197). The table of
operations and events gives its rows no bits, so no word of it spells a command. -/

namespace Sys2Proof

/-- The command a table word spells: the table gives no row any bits, so there is none. -/
def decodeTableWord (_nbits _w : Nat) : Option Instr := none

/-! ### Byte order (R8, R190: high byte first) -/

/-- A number as `k` bytes, high byte first. -/
def bigEndian (n : Nat) : Nat → List Byte
  | 0 => []
  | k + 1 => BitVec.ofNat 8 (n / 256 ^ k) :: bigEndian n k

/-- The number that bytes spell, high byte first. -/
def fromBigEndian (bs : List Byte) : Nat :=
  bs.foldl (fun n b => n * 256 + b.toNat) 0

/-- The three bytes of a three-byte argument. -/
def split24 (w : Word24) : List Byte :=
  [w.extractLsb' 16 8, w.extractLsb' 8 8, w.extractLsb' 0 8]

/-- The three-byte argument of three bytes. -/
def join24 (a b c : Byte) : Word24 := a ++ b ++ c

/-- The four bytes of a four-byte argument. -/
def split32 (w : Word32) : List Byte :=
  [w.extractLsb' 24 8, w.extractLsb' 16 8, w.extractLsb' 8 8, w.extractLsb' 0 8]

/-- The four-byte argument of four bytes. -/
def join32 (a b c d : Byte) : Word32 := a ++ b ++ c ++ d

/-! ### The check (R8, R187) -/

/-- One bit of the CRC: generator x^16 + x^12 + x^5 + 1 (R8). -/
def crcShift (c : BitVec 16) : BitVec 16 :=
  if c.msb then (c <<< 1) ^^^ 0x1021#16 else c <<< 1

/-- One byte of the CRC, most significant bit first (R8). -/
def crcByte (c : BitVec 16) (b : Byte) : BitVec 16 :=
  Nat.repeat crcShift 8 (c ^^^ (b.zeroExtend 16 <<< 8))

/-- The CRC over bytes: the register starts at FFFF; the result is neither inverted nor reflected
(R8). -/
def crc16 (bs : List Byte) : BitVec 16 :=
  bs.foldl crcByte 0xFFFF#16

/-! ### Frames (R187, R190) -/

/-- A received frame whose check has been read: header and payload (R187). -/
structure RxFrame where
  cls : BitVec 2
  kind : BitVec 6
  source : BitVec 6
  dest : BitVec 6
  payload : List Byte
deriving DecidableEq, Repr

/-- The frame of a row's header, kind and payload. -/
def frameOf (kind : BitVec 6) (h : Header) (payload : List Byte) : RxFrame :=
  { cls := h.cls, kind := kind, source := h.source, dest := h.dest, payload := payload }

/-- The parts of R187's discard that the fields of a frame show: payload length, source, destination. -/
def headerOk (f : RxFrame) : Bool :=
  f.payload.length ≤ 16 && f.source ≠ 0 && f.source ≠ 63 && f.dest ≠ 0

/-- The frame that received bytes spell, or none where R187 discards it: a wrong check, a payload
length above 16, a header bit that must be 0, or a source or destination out of range. DESIGN CHOICE:
bytes that are fewer or more than the header, the announced payload and the check spell no frame
(notes/assumptions/35.md). -/
def parseFrame (bytes : List Byte) : Option RxFrame :=
  match bytes with
  | b0 :: b1 :: b2 :: len :: rest =>
    let payload := rest.take len.toNat
    let f : RxFrame :=
      { cls := b0.extractLsb' 6 2, kind := b0.extractLsb' 0 6, source := b1.extractLsb' 0 6,
        dest := b2.extractLsb' 0 6, payload := payload }
    if rest.length = len.toNat + 2
        ∧ fromBigEndian (rest.drop len.toNat) = (crc16 (b0 :: b1 :: b2 :: len :: payload)).toNat
        ∧ b1.extractLsb' 6 2 = 0 ∧ b2.extractLsb' 6 2 = 0 ∧ headerOk f = true then
      some f
    else none
  | _ => none

/-- The bytes of a frame on the line: header, payload, check (R187, R190). -/
def frameBytes (f : RxFrame) : List Byte :=
  let body := (f.cls ++ f.kind : BitVec 8) :: f.source.zeroExtend 8 :: f.dest.zeroExtend 8
    :: BitVec.ofNat 8 f.payload.length :: f.payload
  body ++ bigEndian (crc16 body).toNat 2

/-! ### Console commands (R190, R197) -/

/-- The code of a command (R197, table of console commands). -/
def Command.code : Command → Byte
  | .reset => 1
  | .setClock _ _ => 2
  | .setBand _ => 3
  | .shiftOpen _ => 4
  | .shiftClose => 5
  | .readTotals _ => 6
  | .readTrip _ _ => 7
  | .hire _ _ => 8
  | .stop _ => 9
  | .resume _ => 10
  | .cancel _ => 11
  | .addExtra _ _ _ => 12
  | .splitExtra _ _ => 13
  | .cash _ _ _ => 14
  | .waive _ => 15
  | .accountMap _ _ _ _ => 16
  | .unmap _ => 17
  | .flush => 18
  | .probeSeat _ => 19
  | .probeIndex _ => 20
  | .abortCharge _ => 21
  | .intercomMute _ _ => 22
  | .intercomTarget _ => 23
  | .signMode _ _ => 24
  | .holdTrigger => 25
  | .clearCause _ => 26
  | .holdRelease => 27
  | .readHold _ => 28

/-- The argument bytes of a command, in the order of its name (R190). -/
def Command.args : Command → List Byte
  | .reset | .shiftClose | .flush | .holdTrigger | .holdRelease => []
  | .setClock day seconds => day :: split24 seconds
  | .setBand n => [n]
  | .shiftOpen driver => split24 driver
  | .readTotals page => [page]
  | .readTrip n page => split24 n ++ [page]
  | .hire seat pool => [seat, pool]
  | .stop seat | .resume seat | .cancel seat | .waive seat => [seat]
  | .addExtra seat kind amount => seat :: kind :: split24 amount
  | .splitExtra kind amount => kind :: split24 amount
  | .cash seat tendered tip => seat :: (split24 tendered ++ split24 tip)
  | .accountMap scope account limit tips => scope :: (split32 account ++ split24 limit ++ [tips])
  | .unmap index => [index]
  | .probeSeat seat => [seat]
  | .probeIndex index => [index]
  | .abortCharge seat => [seat]
  | .intercomMute seat on => [seat, on]
  | .intercomTarget target => [target]
  | .signMode mode pool => [mode, pool]
  | .clearCause cause => [cause]
  | .readHold page => [page]

/-- The payload of the COMMAND frame that carries a command (R190). -/
def commandPayload (seq : Byte) (c : Command) : List Byte :=
  seq :: c.code :: c.args

/-- The command of a code and its argument bytes; none for an unknown code or a wrong length, which
R197 answers with RANGE. -/
def decodeArgs (code : Nat) (args : List Byte) : Option Command :=
  match code, args with
  | 1, [] => some .reset
  | 2, [day, a, b, c] => some (.setClock day (join24 a b c))
  | 3, [n] => some (.setBand n)
  | 4, [a, b, c] => some (.shiftOpen (join24 a b c))
  | 5, [] => some .shiftClose
  | 6, [page] => some (.readTotals page)
  | 7, [a, b, c, page] => some (.readTrip (join24 a b c) page)
  | 8, [seat, pool] => some (.hire seat pool)
  | 9, [seat] => some (.stop seat)
  | 10, [seat] => some (.resume seat)
  | 11, [seat] => some (.cancel seat)
  | 12, [seat, kind, a, b, c] => some (.addExtra seat kind (join24 a b c))
  | 13, [kind, a, b, c] => some (.splitExtra kind (join24 a b c))
  | 14, [seat, a, b, c, d, e, f] => some (.cash seat (join24 a b c) (join24 d e f))
  | 15, [seat] => some (.waive seat)
  | 16, [scope, a, b, c, d, e, f, g, tips] =>
    some (.accountMap scope (join32 a b c d) (join24 e f g) tips)
  | 17, [index] => some (.unmap index)
  | 18, [] => some .flush
  | 19, [seat] => some (.probeSeat seat)
  | 20, [index] => some (.probeIndex index)
  | 21, [seat] => some (.abortCharge seat)
  | 22, [seat, on] => some (.intercomMute seat on)
  | 23, [target] => some (.intercomTarget target)
  | 24, [mode, pool] => some (.signMode mode pool)
  | 25, [] => some .holdTrigger
  | 26, [cause] => some (.clearCause cause)
  | 27, [] => some .holdRelease
  | 28, [page] => some (.readHold page)
  | _, _ => none

/-- The command a COMMAND frame's payload carries, if it is a known code with arguments of the right
length (R197). -/
def decodeCommand (payload : List Byte) : Option Command :=
  match payload with
  | _ :: code :: args => decodeArgs code.toNat args
  | _ => none

end Sys2Proof
end

