-- ==== Sys2Proof/Machine/State.lean ====
section
/-! DEFINITION. The state of the CF-14: every item the spec gives the part, block by block, as plain
data, the model's queue of waiting commands, the outcomes that are no next state, and the state right
after reset. Retained items survive a warm start (R2); main-domain items take the values of
`…Start` at step 1 of every start (R4). -/

namespace Sys2Proof.Machine

/-- Why a command ends in a fault: never. The spec describes no stop of the part; its refusals are
result codes in frames and its faults are the ten causes of the hold monitor, both effects on State.
Nothing raises a `Fault`, which is safe. -/
inductive Fault where
deriving DecidableEq, Repr

/-- Why a command has no meaning. -/
inductive Refusal where
  /-- Raised by an arm of `exec` whose command has no meaning yet; safe. No arm raises it. -/
  | notModelled (mnemonic : String)
deriving DecidableEq, Repr

/-! ### Like things by name -/

/-- One item for each of the four seats. -/
structure PerSeat (α : Type) where
  one : α
  two : α
  three : α
  four : α
deriving DecidableEq, Repr

/-- The ten causes of the hold monitor, numbered 0 to 9 in this order (R153). -/
inductive Cause where
  | config
  | clock
  | overrun
  | pulseLoss
  | tamper
  | lamp
  | source
  | brk
  | console
  | peer
deriving DecidableEq, Repr

/-- One item for each cause. -/
structure PerCause (α : Type) where
  config : α
  clock : α
  overrun : α
  pulseLoss : α
  tamper : α
  lamp : α
  source : α
  brk : α
  console : α
  peer : α
deriving DecidableEq, Repr

/-- The eight lamp channels, LAMP0 to LAMP7 in this order (R139). -/
inductive Channel where
  | avail
  | hired
  | offduty
  | out
  | bar1
  | bar2
  | bar3
  | bar4
deriving DecidableEq, Repr

/-- One item for each lamp channel. -/
structure PerChannel (α : Type) where
  avail : α
  hired : α
  offduty : α
  out : α
  bar1 : α
  bar2 : α
  bar3 : α
  bar4 : α
deriving DecidableEq, Repr

/-- One item for each of the eight payer indexes 0 to 7 (R78). -/
structure PerIndex (α : Type) where
  i0 : α
  i1 : α
  i2 : α
  i3 : α
  i4 : α
  i5 : α
  i6 : α
  i7 : α
deriving DecidableEq, Repr

/-- The same item for every seat. -/
def seatsOf {α : Type} (a : α) : PerSeat α := ⟨a, a, a, a⟩

/-- The same item for every cause. -/
def causesOf {α : Type} (a : α) : PerCause α := ⟨a, a, a, a, a, a, a, a, a, a⟩

/-- The same item for every channel. -/
def channelsOf {α : Type} (a : α) : PerChannel α := ⟨a, a, a, a, a, a, a, a⟩

/-- The same item for every payer index. -/
def indexesOf {α : Type} (a : α) : PerIndex α := ⟨a, a, a, a, a, a, a, a⟩

/-- A timer: stopped (`none`), or running, with the length in milliseconds it was last started with
(notes/assumptions/14.md). -/
abbrev Timer := Option Nat

/-- A day of the week and a second of the day (R16); day 0, second 0 where a field holds no clock. -/
structure DayTime where
  day : Nat
  seconds : Nat
deriving DecidableEq, Repr

/-! ### Pins, supplies and the start -/

/-- The input pins (Pins and Electrical Summary). -/
structure Pins where
  pgood : Bool
  /-- RST is held low. -/
  rst : Bool
  tamper : Bool
  /-- SERVICE, as last sampled by a command that reads it (R161, R163; notes/assumptions/3.md). -/
  service : Bool
  pulse : Level
  /-- SENSE0 to SENSE7, as last read. -/
  sense : BitVec 8
deriving DecidableEq, Repr

/-- The kind of the last start (R3). -/
inductive StartKind where
  | cold
  | warm
deriving DecidableEq, Repr

/-- Where the part stands in its start (R4). -/
structure StartState where
  /-- Load completion has been reached (step 5). -/
  loaded : Bool
  /-- The 500 ms limit of the image read, running during step 3 (R7). -/
  imageTimer : Timer
  kind : StartKind
deriving DecidableEq, Repr

/-! ### Tariff store and clock -/

/-- The clock (R16), retained. -/
structure Clock where
  time : DayTime
  valid : Bool
deriving DecidableEq, Repr

/-- Which settled edges the edge selector passes (R22). -/
inductive EdgeMode where
  | falling
  | rising
  | both
deriving DecidableEq, Repr

/-- A band of the image, with the step sizes derived from it at load completion (R15). -/
structure Band where
  /-- F, the flag fall. -/
  flagFall : Nat
  /-- c0, the free steps. -/
  freeSteps : Nat
  /-- A, the step amount. -/
  amount : Nat
  /-- Lm, the step length in metres. -/
  length : Nat
  /-- The time step in seconds. -/
  timeStep : Nat
  /-- Np, counts per distance step. -/
  np : Nat
  /-- Nt, intervals per time step. -/
  nt : Nat
  /-- S′ = Np × Nt × 1000. -/
  size : Nat
deriving DecidableEq, Repr

/-- An entry of the band schedule: bit d − 1 of `days` stands for day d. -/
structure ScheduleEntry where
  days : BitVec 8
  start : Nat
  band : Nat
deriving DecidableEq, Repr

/-- The image in force, or the fallback of R14. The roster is the line interface's. -/
structure Tariff where
  /-- The image was accepted. -/
  good : Bool
  identity : Nat
  /-- The own station address. -/
  own : Nat
  kRaw : Nat
  edge : EdgeMode
  /-- p: 1, 2, 4 or 16. -/
  prescale : Nat
  /-- The minimum pulse width in microseconds. -/
  minWidth : Nat
  bands : List Band
  /-- share[1] to share[4], per mille. -/
  shares : List Nat
  schedule : List ScheduleEntry
  manualAllowed : Bool
  tipPercent : Nat
  /-- Milliseconds, as `guardTime` and `talkLimit`. -/
  chargeTimeout : Nat
  guardTime : Nat
  talkLimit : Nat
  vMin : Nat
  nPlaus : Nat
  /-- Units of 5 %, as `nightDuty`. -/
  dayDuty : Nat
  nightDuty : Nat
  nightBelow : Nat
  dayAbove : Nat
deriving DecidableEq, Repr

/-- The band mode (R19). -/
inductive BandMode where
  | auto
  | manual
deriving DecidableEq, Repr

/-- The band selector (R19); `selected` is 0 for none. -/
structure BandSelector where
  mode : BandMode
  selected : Nat
deriving DecidableEq, Repr

/-! ### Motion unit -/

/-- The motion unit (R37). The PULSE_LOSS condition is kept by the hold monitor (R154). -/
structure Motion where
  /-- The settled level of the filter, none while it does not run (R21). -/
  settled : Option Level
  /-- The pin is away from the settled level and the minimum width is being timed. -/
  changing : Bool
  residue : Nat
  counter : Nat
  intervalTimer : Timer
  /-- The speed window, oldest first (R29). -/
  window : List Nat
  speed : Nat
  plausibility : Nat
deriving DecidableEq, Repr

/-! ### Fare engine -/

/-- The states of a seat (R38). -/
inductive SeatState where
  | vacant
  | hired
  | due
  | paying
deriving DecidableEq, Repr

/-- The kinds of extra (R47). -/
inductive ExtraKind where
  | luggage
  | toll
  | booking
  | other
deriving DecidableEq, Repr

/-- An amount for each kind of extra. -/
structure Extras where
  luggage : Nat
  toll : Nat
  booking : Nat
  other : Nat
deriving DecidableEq, Repr

/-- How a payment was made (R38). -/
inductive Method where
  | card
  | account
  | cash
deriving DecidableEq, Repr

/-- A payment entry; `ref` is the card reference or the account id, absent for CASH (R38). -/
structure Payment where
  method : Method
  amount : Nat
  tip : Nat
  ref : Option Nat
deriving DecidableEq, Repr

/-- A seat record (R38), retained. -/
structure SeatRecord where
  state : SeatState
  exclusive : Bool
  fresh : Bool
  activeBand : Nat
  flagFall : Nat
  freeAtHire : Nat
  freeLeft : Nat
  /-- The progress Q. -/
  progress : Nat
  steps : Nat
  fare : Nat
  saturated : Bool
  extras : Extras
  paid : Nat
  tips : Nat
  payments : List Payment
  waived : Nat
  bandsUsed : List Nat
  hireClock : DayTime
  stopClock : Option DayTime
  metres : Nat
  remainder : Nat
  intervals : Nat
  pooled : Bool
  maxRiders : Nat
  heldDuring : Bool
  /-- The BREAK mark. -/
  brk : Bool
deriving DecidableEq, Repr

/-- The contents of a SEAT_DISPLAY (R54). -/
structure Display where
  state : SeatState
  fare : Nat
  extras : Nat
  due : Nat
  activeBand : Nat
  pooled : Bool
deriving DecidableEq, Repr

/-! ### Payer map -/

/-- Card or account, with what each kind alone has (R78). -/
inductive PayerKind where
  | card (reader ref : Nat)
  | account (id : Nat)
deriving DecidableEq, Repr

/-- Whom a payer serves (R78). -/
inductive Scope where
  | seat (s : Seat)
  | party
deriving DecidableEq, Repr

/-- A payer; it is CHARGING for the seat in `charging`, and IDLE without one (R78). -/
structure Payer where
  kind : PayerKind
  scope : Scope
  limit : Nat
  spent : Nat
  tipsAllowed : Bool
  charging : Option Seat
deriving DecidableEq, Repr

/-! ### Charge sequencer -/

/-- The main-domain part of a charge in flight (R96); its tag and reader are in its seat's slot. -/
structure Charge where
  index : Fin 8
  requested : Nat
  ceiling : Nat
  /-- The length of the running charge timer. -/
  timer : Nat
deriving DecidableEq, Repr

/-- A charge's tag and the reader it went to: an in-flight slot or a late-list entry (R96, R97). -/
structure Tag where
  tag : Nat
  reader : Nat
deriving DecidableEq, Repr

/-- The late-tag area (R97), retained: tag counter, late list oldest first, in-flight slots. -/
structure Tags where
  counter : Nat
  late : List Tag
  slots : PerSeat (Option Tag)
deriving DecidableEq, Repr

/-! ### Intercom switch -/

/-- The intercom state (R120). -/
inductive Talk where
  | idle
  | driverTalk
  | seatTalk (s : Seat)
  | guard
deriving DecidableEq, Repr

/-- The talk target (R136). -/
inductive Target where
  | all
  | seat (s : Seat)
deriving DecidableEq, Repr

/-- The ten audio gates, open or closed (R120). -/
structure Gates where
  dmic : Bool
  spk : PerSeat Bool
  smic : PerSeat Bool
  dspk : Bool
deriving DecidableEq, Repr

/-- The intercom switch (R121). A press record is held exactly while its lapse timer runs (R122). -/
structure Intercom where
  state : Talk
  pendingDriver : Bool
  queue : List Seat
  mute : PerSeat Bool
  needsRelease : PerSeat Bool
  target : Target
  guardTimer : Timer
  talkTimer : Timer
  driverPress : Timer
  seatPress : PerSeat Timer
  gates : Gates
deriving DecidableEq, Repr

/-! ### Sign driver -/

/-- The pattern of a lamp channel (R139). -/
inductive Pattern where
  | off
  | steady
  | slow
  | fast
deriving DecidableEq, Repr

/-- The sign mode (R142). -/
inductive SignMode where
  | onDuty
  | brk
  | offDuty
deriving DecidableEq, Repr

/-- The brightness level (R146). -/
inductive Brightness where
  | day
  | night
deriving DecidableEq, Repr

/-- A lamp channel: its patterns and duty (R139, R141) and its lamp fault record (R148). -/
structure Lamp where
  current : Pattern
  buffer : Pattern
  /-- The current duty in units of 5 %; none until the first boundary (R151). -/
  duty : Option Nat
  /-- The present period is an on-period (R140). -/
  on : Bool
  fault : Bool
  dark : Nat
  good : Nat
deriving DecidableEq, Repr

/-- The sign driver (R139 to R151). -/
structure Sign where
  /-- The 4 ms timebase. -/
  timebase : Timer
  /-- The blink clock at the opening boundary of the present period (R140). -/
  blink : Nat
  mode : SignMode
  /-- The advertise-pool flag. -/
  pool : Bool
  level : Brightness
  lamps : PerChannel Lamp
deriving DecidableEq, Repr

/-! ### Hold monitor -/

/-- The trigger record (R156). -/
structure Trigger where
  cause : Option Cause
  source : Nat
  time : DayTime
  valid : Bool
  number : Nat
deriving DecidableEq, Repr

/-- The retained part of the hold monitor (R166). -/
structure Hold where
  held : Bool
  status : PerCause Bool
  trigger : Trigger
  /-- The first-cause pointer. -/
  pointer : Option Cause
  /-- The lifetime hold count. -/
  count : Nat
deriving DecidableEq, Repr

/-- The main-domain part of the hold monitor (R153, R166). -/
structure Monitor where
  masked : PerCause Bool
  /-- The severity is NOTE. -/
  note : PerCause Bool
  condition : PerCause Bool
  lastSource : PerCause Nat
  /-- PEER's last code. -/
  lastCode : Nat
deriving DecidableEq, Repr

/-- The 20 ms filter on TAMPER, of the monitor or of the retained store (R158). -/
structure TamperFilter where
  settled : Bool
  changing : Bool
deriving DecidableEq, Repr

/-! ### Shift accounts -/

/-- The shift state (R168). -/
inductive ShiftState where
  | closed
  | opened
  | closing
deriving DecidableEq, Repr

/-- A metre accumulator with its remainder (R31). -/
structure Metres where
  metres : Nat
  rem : Nat
deriving DecidableEq, Repr

/-- The totals of a shift (R168). -/
structure Totals where
  settled : Nat
  cancelled : Nat
  pooled : Nat
  maxRiders : Nat
  fare : Nat
  extras : Extras
  tips : Nat
  card : Nat
  account : Nat
  cash : Nat
  waived : Nat
  band1 : Nat
  band2 : Nat
  band3 : Nat
  band4 : Nat
  steps : Nat
  seatSeconds : Nat
  voids : Nat
  holds : Nat
  hired : Metres
  unhired : Metres
  held : Metres
deriving DecidableEq, Repr

/-- The shift record (R168). -/
structure Shift where
  state : ShiftState
  number : Nat
  driver : Nat
  identity : Nat
  openClock : DayTime
  closeClock : Option DayTime
  totals : Totals
deriving DecidableEq, Repr

/-- The lifetime totalizers (R170). -/
structure Totalizers where
  total : Metres
  hired : Metres
  trips : Nat
  steps : Nat
  fare : Nat
  voids : Nat
deriving DecidableEq, Repr

/-- How a trip ended (R52). -/
inductive TripEnd where
  | settled
  | cancelled
deriving DecidableEq, Repr

/-- A trip record (R182). -/
structure Trip where
  number : Nat
  seat : Seat
  shift : Nat
  identity : Nat
  ending : TripEnd
  hireClock : DayTime
  stopClock : Option DayTime
  bandsUsed : List Nat
  activeBand : Nat
  flagFall : Nat
  steps : Nat
  freeUsed : Nat
  fare : Nat
  extras : Extras
  tips : Nat
  payments : List Payment
  waived : Nat
  metres : Nat
  seconds : Nat
  pooled : Bool
  saturated : Bool
  heldDuring : Bool
  brk : Bool
  maxRiders : Nat
deriving DecidableEq, Repr

/-- The shift accounts (R168 to R183), retained. -/
structure Accounts where
  shift : Shift
  totalizers : Totalizers
  tripCounter : Nat
  /-- The trip log, oldest first. -/
  log : List Trip
deriving DecidableEq, Repr

/-! ### Line interface -/

/-- The class of a roster station (image layout). -/
inductive StationClass where
  | console
  | driverPanel
  | seatPanel
  | reader
  | nav
  | aux
deriving DecidableEq, Repr

/-- A roster entry: PRESENT exactly while its presence timer runs (R194). -/
structure Station where
  addr : Nat
  cls : StationClass
  /-- 0 none, 1 to 4 a seat, 5 PARTY. -/
  binding : Nat
  timer : Timer
deriving DecidableEq, Repr

/-- A COMMAND frame in the command FIFO: its source and its payload (R196). -/
structure FifoEntry where
  source : Nat
  payload : List Byte
deriving DecidableEq, Repr

/-- The result codes (R197). -/
inductive ResultCode where
  | ok
  | busy
  | state
  | range
  /-- EXISTS. -/
  | existing
  | full
  /-- NONE. -/
  | nothing
  | hold
  | shift
  | charged
  | exclusive
  | clock
  | gone
  | limit
  | cause
  | cond
deriving DecidableEq, Repr

/-- The items of an INTERCOM_STATE (R137): the state names the talker too. -/
structure IntercomReport where
  state : Talk
  queue : List Seat
  mute : PerSeat Bool
deriving DecidableEq, Repr

/-- The items of a STATUS (R201). -/
structure StatusReport where
  shift : ShiftState
  number : Nat
  held : Bool
  pointer : Option Cause
  status : PerCause Bool
  seats : PerSeat SeatState
  mode : SignMode
  pool : Bool
  free : Nat
  faults : PerChannel Bool
  selected : Nat
  bandMode : BandMode
  speed : Nat
  presence : List Bool
deriving DecidableEq, Repr

/-- The frames the CF-14 sends, with what each carries (R189). -/
inductive TxBody where
  | holdEvent (released : Bool) (trigger pointer : Option Cause) (source : Nat)
  | chargeRequest (tag : Nat) (seat : Seat) (amount ceiling : Nat)
  | chargeCancel (tag : Nat)
  | void (tag : Nat)
  | adjust (tag amount tip : Nat)
  | result (seq : Byte) (code : ResultCode) (command : Byte) (data : List Byte)
  | cardReply (code : ResultCode) (index : Nat)
  | seatDisplay (seat : Seat) (contents : Display)
  | intercomState (report : IntercomReport)
  | report (shift page : Nat) (items : List Byte)
  | status (report : StatusReport)
deriving DecidableEq, Repr

/-- A frame to be sent: destination (63 for broadcast), contents, and whether it is the RESULT whose
answer is pending (R197; notes/assumptions/8.md). -/
structure TxFrame where
  dest : Nat
  body : TxBody
  answer : Bool
deriving DecidableEq, Repr

/-- The line interface (R202). -/
structure Line where
  roster : List Station
  /-- The command FIFO, oldest first. -/
  fifo : List FifoEntry
  answerPending : Bool
  /-- Running from the taking of RESET until its start begins (R6). -/
  resetTimer : Timer
  /-- The transmit queue in order of class, then age (R198). -/
  queue : List TxFrame
  transmitting : Option TxFrame
  statusTimer : Timer
deriving DecidableEq, Repr

/-! ### The whole -/

/-- The state of the CF-14. -/
structure State where
  pins : Pins
  start : StartState
  /-- The validity marker of the retained store (R2). -/
  markerValid : Bool
  clock : Clock
  tamperFilter : TamperFilter
  seats : PerSeat SeatRecord
  tags : Tags
  hold : Hold
  accounts : Accounts
  tariff : Tariff
  band : BandSelector
  motion : Motion
  payers : PerIndex (Option Payer)
  charges : PerSeat (Option Charge)
  intercom : Intercom
  sign : Sign
  monitor : Monitor
  /-- The display copies; none is the mark invalid (R54). -/
  display : PerSeat (Option Display)
  line : Line
  /-- The model's own: how many free values have been drawn (notes/assumptions/3.md, 6.md, 7.md). -/
  draws : Nat
  /-- The model's own: the commands that are waiting, first in, first out. -/
  pending : List Instr
deriving DecidableEq, Repr

/-! ### Initial values of the retained items, set by a cold start (R4, step 2) -/

/-- Day 0, second 0. -/
def noTime : DayTime := ⟨0, 0⟩

/-- The clock of a cold start: day 1, second 0, invalid (R17). -/
def clockCold : Clock := ⟨⟨1, 0⟩, false⟩

/-- No amount of any kind. -/
def noExtras : Extras := ⟨0, 0, 0, 0⟩

/-- The VACANT values of a seat record (R38, R56). -/
def vacantSeat : SeatRecord :=
  { state := .vacant, exclusive := false, fresh := false, activeBand := 0, flagFall := 0,
    freeAtHire := 0, freeLeft := 0, progress := 0, steps := 0, fare := 0, saturated := false,
    extras := noExtras, paid := 0, tips := 0, payments := [], waived := 0, bandsUsed := [],
    hireClock := noTime, stopClock := none, metres := 0, remainder := 0, intervals := 0,
    pooled := false, maxRiders := 0, heldDuring := false, brk := false }

/-- The late-tag area of a cold start (R118). -/
def tagsCold : Tags := { counter := 0, late := [], slots := seatsOf none }

/-- The hold monitor's retained items of a cold start (R166). -/
def holdCold : Hold :=
  { held := false, status := causesOf false,
    trigger := { cause := none, source := 0, time := noTime, valid := false, number := 0 },
    pointer := none, count := 0 }

/-- No metres and no remainder. -/
def noMetres : Metres := ⟨0, 0⟩

/-- Every total at 0 (R173, R185). -/
def noTotals : Totals :=
  { settled := 0, cancelled := 0, pooled := 0, maxRiders := 0, fare := 0, extras := noExtras,
    tips := 0, card := 0, account := 0, cash := 0, waived := 0, band1 := 0, band2 := 0, band3 := 0,
    band4 := 0, steps := 0, seatSeconds := 0, voids := 0, holds := 0, hired := noMetres,
    unhired := noMetres, held := noMetres }

/-- The shift accounts of a cold start (R185). -/
def accountsCold : Accounts :=
  { shift := { state := .closed, number := 0, driver := 0, identity := 0, openClock := noTime,
               closeClock := none, totals := noTotals },
    totalizers := { total := noMetres, hired := noMetres, trips := 0, steps := 0, fare := 0,
                    voids := 0 },
    tripCounter := 0, log := [] }

/-! ### Start values of the main-domain items (R4, step 1) -/

/-- No image: what the tariff store holds until load completion (notes/assumptions/4.md). -/
def tariffStart : Tariff :=
  { good := false, identity := 0, own := 0, kRaw := 0, edge := .falling, prescale := 0,
    minWidth := 0, bands := [], shares := [], schedule := [], manualAllowed := false,
    tipPercent := 0, chargeTimeout := 0, guardTime := 0, talkLimit := 0, vMin := 0, nPlaus := 0,
    dayDuty := 0, nightDuty := 0, nightBelow := 0, dayAbove := 0 }

/-- No band selected (R4, Start Sequences), and the mode AUTO: DESIGN CHOICE for the mode, of which no
value is given before load completion (notes/assumptions/28.md). -/
def bandStart : BandSelector := { mode := .auto, selected := 0 }

/-- The motion unit at a start (R37). -/
def motionStart : Motion :=
  { settled := none, changing := false, residue := 0, counter := 0, intervalTimer := none,
    window := [], speed := 0, plausibility := 0 }

/-- Every gate closed (R120). -/
def gatesClosed : Gates :=
  { dmic := false, spk := seatsOf false, smic := seatsOf false, dspk := false }

/-- The intercom switch at a start (R138). -/
def intercomStart : Intercom :=
  { state := .idle, pendingDriver := false, queue := [], mute := seatsOf false,
    needsRelease := seatsOf false, target := .all, guardTimer := none, talkTimer := none,
    driverPress := none, seatPress := seatsOf none, gates := gatesClosed }

/-- A lamp channel at a start (R151). -/
def lampStart : Lamp :=
  { current := .off, buffer := .off, duty := none, on := false, fault := false, dark := 0,
    good := 0 }

/-- The sign driver at a start (R151). -/
def signStart : Sign :=
  { timebase := none, blink := 0, mode := .offDuty, pool := false, level := .day,
    lamps := channelsOf lampStart }

/-- The default severities: NOTE for LAMP, SOURCE, BREAK and PEER (R13). -/
def defaultNote : PerCause Bool :=
  { config := false, clock := false, overrun := false, pulseLoss := false, tamper := false,
    lamp := true, source := true, brk := true, console := false, peer := true }

/-- The hold monitor's main-domain items at a start (R166; notes/assumptions/5.md). -/
def monitorStart : Monitor :=
  { masked := causesOf false, note := defaultNote, condition := causesOf false,
    lastSource := causesOf 0, lastCode := 0 }

/-- The line interface at a start (R202). -/
def lineStart : Line :=
  { roster := [], fifo := [], answerPending := false, resetTimer := none, queue := [],
    transmitting := none, statusTimer := none }

/-- The machine right after reset: main power has come to a part whose retained store was never
initialised, and the cold start has taken its steps 1 and 2 and reads the image (R4). -/
def State.reset : State :=
  { pins := { pgood := true, rst := false, tamper := false, service := false, pulse := .low,
              sense := 0 },
    start := { loaded := false, imageTimer := some 500, kind := .cold },
    markerValid := true, clock := clockCold,
    tamperFilter := { settled := false, changing := false },
    seats := seatsOf vacantSeat, tags := tagsCold, hold := holdCold, accounts := accountsCold,
    tariff := tariffStart, band := bandStart, motion := motionStart, payers := indexesOf none,
    charges := seatsOf none, intercom := intercomStart, sign := signStart, monitor := monitorStart,
    display := seatsOf none, line := lineStart, draws := 0, pending := [] }

end Sys2Proof.Machine
end

