-- ==== Sys2Proof/Machine/Ops.lean ====
section
/-! DEFINITION. The named operations over the state that every block uses: replacing one block's
state, reading and writing the item of a seat, cause, channel or payer index, and what the rules read
of seats, timers and the roster. -/

namespace Sys2Proof.Machine

/-! ### Replacing one field -/

/-- The state with another `pins`. -/
def State.setPins (s : State) (v : Pins) : State := { s with pins := v }

/-- The state with another `start`. -/
def State.setStart (s : State) (v : StartState) : State := { s with start := v }

/-- The state with another `markerValid`. -/
def State.setMarkerValid (s : State) (v : Bool) : State := { s with markerValid := v }

/-- The state with another `clock`. -/
def State.setClock (s : State) (v : Clock) : State := { s with clock := v }

/-- The state with another `tamperFilter`. -/
def State.setTamperFilter (s : State) (v : TamperFilter) : State := { s with tamperFilter := v }

/-- The state with another `seats`. -/
def State.setSeats (s : State) (v : PerSeat SeatRecord) : State := { s with seats := v }

/-- The state with another `tags`. -/
def State.setTags (s : State) (v : Tags) : State := { s with tags := v }

/-- The state with another `hold`. -/
def State.setHold (s : State) (v : Hold) : State := { s with hold := v }

/-- The state with another `accounts`. -/
def State.setAccounts (s : State) (v : Accounts) : State := { s with accounts := v }

/-- The state with another `tariff`. -/
def State.setTariff (s : State) (v : Tariff) : State := { s with tariff := v }

/-- The state with another `band`. -/
def State.setBand (s : State) (v : BandSelector) : State := { s with band := v }

/-- The state with another `motion`. -/
def State.setMotion (s : State) (v : Motion) : State := { s with motion := v }

/-- The state with another `payers`. -/
def State.setPayers (s : State) (v : PerIndex (Option Payer)) : State := { s with payers := v }

/-- The state with another `charges`. -/
def State.setCharges (s : State) (v : PerSeat (Option Charge)) : State := { s with charges := v }

/-- The state with another `intercom`. -/
def State.setIntercom (s : State) (v : Intercom) : State := { s with intercom := v }

/-- The state with another `sign`. -/
def State.setSign (s : State) (v : Sign) : State := { s with sign := v }

/-- The state with another `monitor`. -/
def State.setMonitor (s : State) (v : Monitor) : State := { s with monitor := v }

/-- The state with another `display`. -/
def State.setDisplay (s : State) (v : PerSeat (Option Display)) : State := { s with display := v }

/-- The state with another `line`. -/
def State.setLine (s : State) (v : Line) : State := { s with line := v }

/-- The state with another `draws`. -/
def State.setDraws (s : State) (v : Nat) : State := { s with draws := v }

/-- The state with another `pending`. -/
def State.setPending (s : State) (v : List Instr) : State := { s with pending := v }

/-! ### Items by name -/

/-- The seats in ascending number. -/
def allSeats : List Seat := [.one, .two, .three, .four]

/-- The item of a seat. -/
def PerSeat.get {α : Type} (v : PerSeat α) : Seat → α
  | .one => v.one
  | .two => v.two
  | .three => v.three
  | .four => v.four

/-- The items with another one for a seat. -/
def PerSeat.set {α : Type} (v : PerSeat α) (s : Seat) (a : α) : PerSeat α :=
  match s with
  | .one => { v with one := a }
  | .two => { v with two := a }
  | .three => { v with three := a }
  | .four => { v with four := a }

/-- The items mapped. -/
def PerSeat.map {α β : Type} (f : α → β) (v : PerSeat α) : PerSeat β :=
  ⟨f v.one, f v.two, f v.three, f v.four⟩

/-- Whether some seat's item satisfies a test. -/
def PerSeat.any {α : Type} (p : α → Bool) (v : PerSeat α) : Bool :=
  p v.one || p v.two || p v.three || p v.four

/-- How many seats' items satisfy a test. -/
def PerSeat.count {α : Type} (p : α → Bool) (v : PerSeat α) : Nat :=
  (p v.one).toNat + (p v.two).toNat + (p v.three).toNat + (p v.four).toNat

/-- The number of a seat (Conventions). -/
def seatNumber : Seat → Nat
  | .one => 1
  | .two => 2
  | .three => 3
  | .four => 4

/-- The causes in ascending number (R153). -/
def allCauses : List Cause :=
  [.config, .clock, .overrun, .pulseLoss, .tamper, .lamp, .source, .brk, .console, .peer]

/-- The number of a cause (R153). -/
def Cause.number : Cause → Nat
  | .config => 0
  | .clock => 1
  | .overrun => 2
  | .pulseLoss => 3
  | .tamper => 4
  | .lamp => 5
  | .source => 6
  | .brk => 7
  | .console => 8
  | .peer => 9

/-- The item of a cause. -/
def PerCause.get {α : Type} (v : PerCause α) : Cause → α
  | .config => v.config
  | .clock => v.clock
  | .overrun => v.overrun
  | .pulseLoss => v.pulseLoss
  | .tamper => v.tamper
  | .lamp => v.lamp
  | .source => v.source
  | .brk => v.brk
  | .console => v.console
  | .peer => v.peer

/-- The items with another one for a cause. -/
def PerCause.set {α : Type} (v : PerCause α) (c : Cause) (a : α) : PerCause α :=
  match c with
  | .config => { v with config := a }
  | .clock => { v with clock := a }
  | .overrun => { v with overrun := a }
  | .pulseLoss => { v with pulseLoss := a }
  | .tamper => { v with tamper := a }
  | .lamp => { v with lamp := a }
  | .source => { v with source := a }
  | .brk => { v with brk := a }
  | .console => { v with console := a }
  | .peer => { v with peer := a }

/-- The items of the causes in ascending number. -/
def PerCause.list {α : Type} (v : PerCause α) : List α :=
  [v.config, v.clock, v.overrun, v.pulseLoss, v.tamper, v.lamp, v.source, v.brk, v.console, v.peer]

/-- The channels in ascending number (R139). -/
def allChannels : List Channel :=
  [.avail, .hired, .offduty, .out, .bar1, .bar2, .bar3, .bar4]

/-- The number n of the output LAMPn a channel drives (R139). -/
def Channel.number : Channel → Nat
  | .avail => 0
  | .hired => 1
  | .offduty => 2
  | .out => 3
  | .bar1 => 4
  | .bar2 => 5
  | .bar3 => 6
  | .bar4 => 7

/-- The item of a channel. -/
def PerChannel.get {α : Type} (v : PerChannel α) : Channel → α
  | .avail => v.avail
  | .hired => v.hired
  | .offduty => v.offduty
  | .out => v.out
  | .bar1 => v.bar1
  | .bar2 => v.bar2
  | .bar3 => v.bar3
  | .bar4 => v.bar4

/-- The items that a function of the channel and its item gives. -/
def PerChannel.mapIdx {α β : Type} (f : Channel → α → β) (v : PerChannel α) : PerChannel β :=
  { avail := f .avail v.avail, hired := f .hired v.hired, offduty := f .offduty v.offduty,
    out := f .out v.out, bar1 := f .bar1 v.bar1, bar2 := f .bar2 v.bar2, bar3 := f .bar3 v.bar3,
    bar4 := f .bar4 v.bar4 }

/-- The items of the channels in ascending number. -/
def PerChannel.list {α : Type} (v : PerChannel α) : List α :=
  [v.avail, v.hired, v.offduty, v.out, v.bar1, v.bar2, v.bar3, v.bar4]

/-- The payer indexes in ascending order (R78). -/
def allIndexes : List (Fin 8) := [0, 1, 2, 3, 4, 5, 6, 7]

/-- The item of a payer index. -/
def PerIndex.get {α : Type} (v : PerIndex α) (i : Fin 8) : α :=
  match i with
  | 0 => v.i0
  | 1 => v.i1
  | 2 => v.i2
  | 3 => v.i3
  | 4 => v.i4
  | 5 => v.i5
  | 6 => v.i6
  | 7 => v.i7

/-- The items with another one for a payer index. -/
def PerIndex.set {α : Type} (v : PerIndex α) (i : Fin 8) (a : α) : PerIndex α :=
  match i with
  | 0 => { v with i0 := a }
  | 1 => { v with i1 := a }
  | 2 => { v with i2 := a }
  | 3 => { v with i3 := a }
  | 4 => { v with i4 := a }
  | 5 => { v with i5 := a }
  | 6 => { v with i6 := a }
  | 7 => { v with i7 := a }

/-- The items mapped. -/
def PerIndex.map {α β : Type} (f : α → β) (v : PerIndex α) : PerIndex β :=
  { i0 := f v.i0, i1 := f v.i1, i2 := f v.i2, i3 := f v.i3, i4 := f v.i4, i5 := f v.i5, i6 := f v.i6,
    i7 := f v.i7 }

/-! ### What the rules read of the state -/

/-- A seat's record. -/
def State.seat (s : State) (q : Seat) : SeatRecord := s.seats.get q

/-- The state with another record for a seat. -/
def State.setSeat (s : State) (q : Seat) (r : SeatRecord) : State := s.setSeats (s.seats.set q r)

/-- Whether a record is VACANT. -/
def SeatRecord.vacant (r : SeatRecord) : Bool := r.state = .vacant

/-- Whether a record is HIRED. -/
def SeatRecord.hired (r : SeatRecord) : Bool := r.state = .hired

/-- Whether every seat is VACANT. -/
def allVacant (v : PerSeat SeatRecord) : Bool := !v.any (fun r => !r.vacant)

/-- Whether some seat other than `q` is non-VACANT (R52). -/
def othersOccupied (v : PerSeat SeatRecord) (q : Seat) : Bool :=
  allSeats.any (fun p => p ≠ q && !(v.get p).vacant)

/-- Whether some seat whose exclusive flag is set is non-VACANT (R41, R143). -/
def exclusiveOccupied (v : PerSeat SeatRecord) : Bool := v.any (fun r => r.exclusive && !r.vacant)

/-- The number of HIRED seats (R60, R75). -/
def riders (v : PerSeat SeatRecord) : Nat := v.count (fun r => r.hired)

/-- The sum of the extras by kind (R38). -/
def Extras.total (x : Extras) : Nat := x.luggage + x.toll + x.booking + x.other

/-- The extras with an amount added to a kind. -/
def Extras.add (x : Extras) (k : ExtraKind) (n : Nat) : Extras :=
  match k with
  | .luggage => { x with luggage := x.luggage + n }
  | .toll => { x with toll := x.toll + n }
  | .booking => { x with booking := x.booking + n }
  | .other => { x with other := x.other + n }

/-- The extras summed kind by kind (R179). -/
def Extras.plus (x y : Extras) : Extras :=
  ⟨x.luggage + y.luggage, x.toll + y.toll, x.booking + y.booking, x.other + y.other⟩

/-- A seat's due: fare plus extras total, less paid, less waived (R39). -/
def SeatRecord.due (r : SeatRecord) : Nat := r.fare + r.extras.total - r.paid - r.waived

/-- A station is PRESENT while its presence timer runs (R194). -/
def Station.present (e : Station) : Bool := e.timer.isSome

/-- The roster entry with an address. -/
def stationAt (roster : List Station) (addr : Nat) : Option Station :=
  roster.find? (fun e => e.addr = addr)

/-- The roster with an entry's presence timer set. -/
def setPresence (roster : List Station) (addr : Nat) (t : Timer) : List Station :=
  roster.map (fun e => if e.addr = addr then { e with timer := t } else e)

/-- The address of the roster's CONSOLE, if it lists one. -/
def consoleAddr (roster : List Station) : Option Nat :=
  (roster.find? (fun e => e.cls = .console)).map (·.addr)

/-- The panel bound to a seat, if the roster lists one and it is PRESENT (R54). -/
def presentPanel (roster : List Station) (q : Seat) : Option Station :=
  (roster.find? (fun e => e.cls = .seatPanel && e.binding = seatNumber q)).filter (·.present)

/-- Whether a roster READER has this address and is PRESENT (R99). -/
def readerPresent (roster : List Station) (addr : Nat) : Bool :=
  roster.any (fun e => e.cls = .reader && e.addr = addr && e.present)

/-- The seat of a binding 1 to 4 (image layout). -/
def seatOfNumber : Nat → Option Seat
  | 1 => some .one
  | 2 => some .two
  | 3 => some .three
  | 4 => some .four
  | _ => none

/-- The scope a reader's binding presents for (R82). -/
def scopeOfBinding (n : Nat) : Option Scope :=
  if n = 5 then some .party else (seatOfNumber n).map .seat

/-- The largest values at which counts and metres are held. -/
def max16 : Nat := 65535
def max24 : Nat := 16777215
def max32 : Nat := 4294967295

/-- A count grown by an amount and held at its maximum. -/
def heldAdd (max n k : Nat) : Nat := min max (n + k)

end Sys2Proof.Machine
end

