-- ==== Sys2Proof/Machine/Flags.lean ====
section
/-! DEFINITION. Codes and flag bits: the numbers by which frames carry states, codes, causes and
flags (R190, R197). -/

namespace Sys2Proof.Machine

/-- A number as one byte. -/
def byte (n : Nat) : Byte := BitVec.ofNat 8 n

/-- The number whose bit i is the i-th flag. -/
def bitsOf (flags : List Bool) : Nat := flags.foldr (fun b n => b.toNat + 2 * n) 0

/-- The value of a result code (R197, table of result codes). -/
def resultValue : ResultCode → Nat
  | .ok => 0
  | .busy => 1
  | .state => 2
  | .range => 3
  | .existing => 4
  | .full => 5
  | .nothing => 6
  | .hold => 7
  | .shift => 8
  | .charged => 9
  | .exclusive => 10
  | .clock => 11
  | .gone => 12
  | .limit => 13
  | .cause => 14
  | .cond => 15

/-- A cause's number, or 15 for NONE (R190). -/
def causeValue : Option Cause → Nat
  | some c => c.number
  | none => 15

/-- The code of a shift state (R190, STATUS). -/
def shiftValue : ShiftState → Nat
  | .closed => 0
  | .opened => 1
  | .closing => 2

/-- The code of a seat state (R190, SEAT_DISPLAY). -/
def seatStateValue : SeatState → Nat
  | .vacant => 0
  | .hired => 1
  | .due => 2
  | .paying => 3

/-- The code of a sign mode (R190). -/
def modeValue : SignMode → Nat
  | .onDuty => 0
  | .brk => 1
  | .offDuty => 2

/-- The code of a band mode (R190, STATUS). -/
def bandModeValue : BandMode → Nat
  | .auto => 0
  | .manual => 1

/-- The code of a payment method (R190, trip pages). -/
def methodValue : Method → Nat
  | .card => 0
  | .account => 1
  | .cash => 2

/-- The code of an intercom state (R190, INTERCOM_STATE). -/
def talkValue : Talk → Nat
  | .idle => 0
  | .driverTalk => 1
  | .seatTalk _ => 2
  | .guard => 3

/-- The code of the talker: 0 none, 1 to 4 a seat, 5 the driver (R190, INTERCOM_STATE). -/
def talkerValue : Talk → Nat
  | .idle | .guard => 0
  | .driverTalk => 5
  | .seatTalk q => seatNumber q

/-- The code of a scope (R190). -/
def scopeValue : Scope → Nat
  | .seat q => seatNumber q
  | .party => 5

/-- The roster class code of a station (image layout, R189 HEARTBEAT). -/
def classValue : StationClass → Nat
  | .console => 0
  | .driverPanel => 1
  | .seatPanel => 2
  | .reader => 3
  | .nav => 4
  | .aux => 5

/-- The hold state and the first-cause pointer in one byte (R190, STATUS and hold page 0). -/
def holdByte (held : Bool) (pointer : Option Cause) : Byte :=
  byte (128 * held.toNat + causeValue pointer)

/-- The four seat states in one byte, two bits each, seat 1 lowest (R190, STATUS). -/
def seatStatesByte (v : PerSeat SeatState) : Byte :=
  byte (seatStateValue v.one + 4 * seatStateValue v.two + 16 * seatStateValue v.three
    + 64 * seatStateValue v.four)

/-- A clock as day, then seconds (R190). -/
def timeBytes (t : DayTime) : List Byte := byte t.day :: bigEndian t.seconds 3

/-- A clock that may be absent, which is sent as day 0, second 0 (R190). -/
def optTimeBytes (t : Option DayTime) : List Byte := timeBytes (t.getD noTime)

end Sys2Proof.Machine
end

