-- ==== Sys2Proof/Machine/Frames.lean ====
section
/-! DEFINITION. The frames the CF-14 sends: kind codes, priority classes, payload layouts and
coalescing keys (R189, R190, R199), and the bytes on the line (R187). -/

namespace Sys2Proof.Machine

/-- The kind code of a sent frame (R189). -/
def TxBody.kind : TxBody → Nat
  | .holdEvent .. => 4
  | .chargeRequest .. => 9
  | .chargeCancel .. => 10
  | .void .. => 11
  | .adjust .. => 12
  | .result .. => 19
  | .cardReply .. => 23
  | .seatDisplay .. => 33
  | .intercomState .. => 34
  | .report .. => 35
  | .status .. => 48

/-- The priority class of a sent frame (R189). -/
def TxBody.cls : TxBody → Nat
  | .holdEvent .. | .chargeRequest .. | .chargeCancel .. | .void .. | .adjust .. => 0
  | .result .. | .cardReply .. => 1
  | .seatDisplay .. | .intercomState .. | .report .. => 2
  | .status .. => 3

/-- The frames with a coalescing key replace their queued predecessor (R199). -/
inductive CoalesceKey where
  | status
  | seatDisplay (q : Seat)
  | intercomState
deriving DecidableEq, Repr

/-- The coalescing key of a frame, if its kind has one (R199). -/
def TxBody.key : TxBody → Option CoalesceKey
  | .status .. => some .status
  | .seatDisplay q _ => some (.seatDisplay q)
  | .intercomState .. => some .intercomState
  | _ => none

/-- The payload of a SEAT_DISPLAY (R190). -/
def displayBytes (q : Seat) (d : Display) : List Byte :=
  byte (seatNumber q) :: byte (seatStateValue d.state) :: (bigEndian d.fare 3
    ++ bigEndian d.extras 3 ++ bigEndian d.due 3 ++ [byte d.activeBand, byte d.pooled.toNat])

/-- The seats of a call queue in four bytes, 0 beyond its length (R190). -/
def queueBytes (queue : List Seat) : List Byte :=
  ((queue.map (fun q => byte (seatNumber q))) ++ List.replicate 4 0).take 4

/-- The payload of an INTERCOM_STATE (R190). DESIGN CHOICE: bits 7 to 4 of the muted seats, to which the
layout gives neither a meaning nor 0, are 0 (notes/assumptions/36.md). -/
def intercomBytes (r : IntercomReport) : List Byte :=
  byte (talkValue r.state) :: byte (talkerValue r.state) :: byte r.queue.length
    :: (queueBytes r.queue ++ [byte (bitsOf (allSeats.map r.mute.get))])

/-- The payload of a STATUS (R190). DESIGN CHOICE: bits 15 to 10 of the cause statuses and bit 3 of byte 7,
to which the layout gives neither a meaning nor 0, are 0 (notes/assumptions/36.md). -/
def statusBytes (r : StatusReport) : List Byte :=
  byte (shiftValue r.shift) :: (bigEndian r.number 2 ++ [holdByte r.held r.pointer]
    ++ bigEndian (bitsOf r.status.list) 2
    ++ [seatStatesByte r.seats,
        byte (modeValue r.mode + 4 * r.pool.toNat + 16 * r.free),
        byte (bitsOf r.faults.list),
        byte (r.selected + 128 * bandModeValue r.bandMode)]
    ++ bigEndian r.speed 2 ++ bigEndian (bitsOf r.presence) 2)

/-- The payload of a sent frame (R190). -/
def TxBody.payload : TxBody → List Byte
  | .holdEvent released trigger pointer source =>
    [byte released.toNat, byte (causeValue trigger), byte (causeValue pointer), byte source]
  | .chargeRequest tag seat amount ceiling =>
    byte tag :: byte (seatNumber seat) :: (bigEndian amount 3 ++ bigEndian ceiling 3)
  | .chargeCancel tag => [byte tag]
  | .void tag => [byte tag]
  | .adjust tag amount tip => byte tag :: (bigEndian amount 3 ++ bigEndian tip 3)
  | .result seq code command data => seq :: byte (resultValue code) :: command :: data
  | .cardReply code index => [byte (resultValue code), byte index]
  | .seatDisplay seat contents => displayBytes seat contents
  | .intercomState r => intercomBytes r
  | .report shift page items => bigEndian shift 2 ++ byte page :: items
  | .status r => statusBytes r

/-- A sent frame as the line carries it, with the own station address as its source (R187). -/
def wireFrame (own : Nat) (f : TxFrame) : RxFrame :=
  { cls := BitVec.ofNat 2 f.body.cls, kind := BitVec.ofNat 6 f.body.kind,
    source := BitVec.ofNat 6 own, dest := BitVec.ofNat 6 f.dest, payload := f.body.payload }

/-- The bytes of the frame in transmission (R187, R188). -/
def lineBytes (s : State) : Option (List Byte) :=
  s.line.transmitting.map (fun f => frameBytes (wireFrame s.tariff.own f))

end Sys2Proof.Machine
end

