-- ==== Sys2Proof/Machine/Operands.lean ====
section
/-! DEFINITION. The arguments of console commands, read from their encodings (R190): none where the
encoded value is outside the argument's range, which the owning block answers with RANGE. -/

namespace Sys2Proof.Machine

/-- What an owning block returns for a command: one result code and its data (R197). -/
structure Reply where
  code : ResultCode
  data : List Byte
deriving DecidableEq, Repr

/-- A command's refusal: no change, and no data (R190). -/
def refuse (s : State) (c : ResultCode) : State × Reply := (s, ⟨c, []⟩)

/-- A command done, with its data. -/
def done (s : State) (data : List Byte) : State × Reply := (s, ⟨.ok, data⟩)

/-- A seat, 1 to 4. -/
def seatArg (b : Byte) : Option Seat := seatOfNumber b.toNat

/-- Yes or no, on or off: 1 or 0. -/
def flagArg (b : Byte) : Option Bool :=
  match b.toNat with
  | 0 => some false
  | 1 => some true
  | _ => none

/-- A kind of extra, 0 to 3. -/
def kindArg (b : Byte) : Option ExtraKind :=
  match b.toNat with
  | 0 => some .luggage
  | 1 => some .toll
  | 2 => some .booking
  | 3 => some .other
  | _ => none

/-- A sign mode, 0 to 2. -/
def modeArg (b : Byte) : Option SignMode :=
  match b.toNat with
  | 0 => some .onDuty
  | 1 => some .brk
  | 2 => some .offDuty
  | _ => none

/-- A talk target: 0 ALL, 1 to 4 a seat. -/
def targetArg (b : Byte) : Option Target :=
  if b.toNat = 0 then some .all else (seatOfNumber b.toNat).map .seat

/-- A scope: 1 to 4 SEAT(s), 5 PARTY. -/
def scopeArg (b : Byte) : Option Scope := scopeOfBinding b.toNat

/-- A cause, 0 to 9. -/
def causeArg (b : Byte) : Option Cause := allCauses[b.toNat]?

/-- A payer index, 0 to 7. -/
def indexArg (b : Byte) : Option (Fin 8) :=
  if h : b.toNat < 8 then some ⟨b.toNat, h⟩ else none

/-- A number within a range. -/
def inRange (lo hi n : Nat) : Bool := lo ≤ n && n ≤ hi

end Sys2Proof.Machine
end

