-- ==== Sys2Proof/Machine/Sign.lean ====
section
/-! DEFINITION. The sign driver's computation: the free-seat count (R143), the sign state (R144), the
brightness level (R146) and the blink clock (R140), and SIGN_MODE (R142). -/

namespace Sys2Proof.Machine

/-- The free-seat count f of a sign mode's pool flag and the seat records (R143). -/
def freeSeats (pool : Bool) (seats : PerSeat SeatRecord) : Nat :=
  if pool && !exclusiveOccupied seats then seats.count (fun r => r.vacant)
  else if allVacant seats then 4
  else 0

/-- STEADY where a condition holds, OFF elsewhere. -/
def steadyIf (b : Bool) : Pattern := if b then .steady else .off

/-- The sign state: the first row of R144 whose condition holds. -/
def signPatterns (held : Bool) (shift : ShiftState) (mode : SignMode) (pool : Bool)
    (seats : PerSeat SeatRecord) : PerChannel Pattern :=
  let f := freeSeats pool seats
  let occupied := !allVacant seats
  let dark := channelsOf Pattern.off
  if held then { dark with out := .steady }
  else if shift = .closed ∨ mode = .offDuty then { dark with offduty := .steady }
  else if mode = .brk then { dark with offduty := .slow }
  else if shift = .closing then { dark with hired := steadyIf occupied }
  else
    { dark with
      avail := steadyIf (1 ≤ f), hired := steadyIf occupied,
      bar1 := steadyIf (pool && occupied && 1 ≤ f), bar2 := steadyIf (pool && occupied && 2 ≤ f),
      bar3 := steadyIf (pool && occupied && 3 ≤ f), bar4 := steadyIf (pool && occupied && 4 ≤ f) }

/-- A computation of the sign state, from every input as it stands: it writes each channel's buffer
(R141, R144, R145). -/
def computeSign (s : State) : State :=
  let p := signPatterns s.hold.held s.accounts.shift.state s.sign.mode s.sign.pool s.seats
  s.setSign { s.sign with lamps := s.sign.lamps.mapIdx (fun c l => { l with buffer := p.get c }) }

/-- The brightness level after the ambient part of a NAV_REPORT (R146). -/
def ambientLevel (t : Tariff) (valid : Bool) (ambient : Nat) (level : Brightness) : Brightness :=
  if valid && ambient < t.nightBelow then .night
  else if valid && t.dayAbove < ambient then .day
  else level

/-- The duty of a level, in units of 5 % (R147). -/
def levelDuty (t : Tariff) : Brightness → Nat
  | .day => t.dayDuty
  | .night => t.nightDuty

/-- Whether a period that opens at a blink clock is an on-period of a pattern (R139, R140). -/
def onPeriod (blink : Nat) : Pattern → Bool
  | .off => false
  | .steady => true
  | .slow => blink < 500
  | .fast => blink % 250 < 125

/-- SIGN_MODE(mode, advertise-pool) (R142). -/
def signModeCommand (mode pool : Byte) (s : State) : State × Reply :=
  match modeArg mode, flagArg pool with
  | some m, some p =>
    let t := computeSign (s.setSign { s.sign with mode := m, pool := p })
    done t [byte (freeSeats t.sign.pool t.seats)]
  | _, _ => refuse s .range

end Sys2Proof.Machine
end

