-- ==== Sys2Proof/Machine/Queue.lean ====
section
/-! DEFINITION. The transmit queue: taking a new frame by coalescing, joining or discarding, with the
notices of a discard (R198 to R200), and the STATUS broadcast (R201). -/

namespace Sys2Proof.Machine

/-- The broadcast address (Terms). -/
def broadcast : Nat := 63

/-- The places of the transmit queue (R198). -/
def queuePlaces : Nat := 16

/-- A frame placed behind the frames of its class and the more urgent ones (R198). -/
def insertByClass (f : TxFrame) : List TxFrame → List TxFrame
  | [] => [f]
  | g :: gs => if g.body.cls ≤ f.body.cls then g :: insertByClass f gs else f :: g :: gs

/-- The state with another transmit queue. -/
def setQueue (s : State) (q : List TxFrame) : State := s.setLine { s.line with queue := q }

/-- The notice of a discarded or abandoned frame (R188, R200): a SEAT_DISPLAY makes its seat's display
copy invalid, the RESULT whose answer is pending clears the mark, any other frame gives none. -/
def discardNotice (f : TxFrame) (s : State) : State :=
  match f.body with
  | .seatDisplay q _ => s.setDisplay (s.display.set q none)
  | .result .. => if f.answer then s.setLine { s.line with answerPending := false } else s
  | _ => s

/-- A new frame without a queued predecessor of its key (R200): it joins, or, in a full queue, the
youngest frame of the highest class number is discarded for a more urgent one, or it is discarded. -/
def joinQueue (f : TxFrame) (s : State) : State :=
  if s.line.queue.length < queuePlaces then setQueue s (insertByClass f s.line.queue)
  else
    match s.line.queue.getLast? with
    | some g =>
      if f.body.cls < g.body.cls then
        discardNotice g (setQueue s (insertByClass f s.line.queue.dropLast))
      else discardNotice f s
    | none => discardNotice f s

/-- A frame of the same coalescing key replaced in its place and at its age (R199). -/
def replaceKey (f : TxFrame) (q : List TxFrame) : List TxFrame :=
  q.map (fun g => if g.body.key = f.body.key then f else g)

/-- The queue takes a new frame (R199, R200). -/
def enqueue (f : TxFrame) (s : State) : State :=
  if f.body.key.isSome && s.line.queue.any (fun g => g.body.key = f.body.key) then
    setQueue s (replaceKey f s.line.queue)
  else joinQueue f s

/-- A frame of a block to a destination. -/
def send (dest : Nat) (body : TxBody) (s : State) : State :=
  enqueue { dest := dest, body := body, answer := false } s

/-- The contents of a STATUS as they stand (R201). -/
def statusReport (s : State) : StatusReport :=
  { shift := s.accounts.shift.state, number := s.accounts.shift.number, held := s.hold.held,
    pointer := s.hold.pointer, status := s.hold.status, seats := s.seats.map (·.state),
    mode := s.sign.mode, pool := s.sign.pool, free := freeSeats s.sign.pool s.seats,
    faults := s.sign.lamps.mapIdx (fun _ l => l.fault), selected := s.band.selected,
    bandMode := s.band.mode, speed := s.motion.speed,
    presence := s.line.roster.map (fun e => e.present) }

/-- A STATUS broadcast is queued (R201). -/
def queueStatus (s : State) : State := send broadcast (.status (statusReport s)) s

end Sys2Proof.Machine
end

