-- ==== Sys2Proof/Machine/Accounts.lean ====
section
/-! DEFINITION. The shift accounts: the distance converter (R31) and the attribution of an interval's
distance (R171), shift state changes and the report (R169, R173 to R176), taking a closed trip (R178
to R180), voids (R181), and READ_TOTALS and READ_TRIP (R177, R184). -/

namespace Sys2Proof.Machine

/-! ### Distance -/

/-- e: 2 in edge mode BOTH, 1 otherwise (R10). -/
def edgeFactor : EdgeMode → Nat
  | .both => 2
  | _ => 1

/-- K_raw × e, the modulus of the distance converter (R31). -/
def pulsesPerKm (t : Tariff) : Nat := t.kRaw * edgeFactor t.edge

/-- An interval's Δp added to a metre accumulator through its remainder, the metres held at a maximum
(R31, R74); a Δp of 0 leaves both unchanged. -/
def addDistance (t : Tariff) (max dp : Nat) (m : Metres) : Metres :=
  if dp = 0 then m
  else
    let r := m.rem + dp * 1000 * t.prescale
    { metres := heldAdd max m.metres (r / pulsesPerKm t), rem := r % pulsesPerKm t }

/-- The shift's metre total that a delivery goes to (R171, step 3). -/
def shareDistance (t : Tariff) (dp : Nat) (someHired held : Bool) (x : Totals) : Totals :=
  if someHired && held then { x with held := addDistance t max32 dp x.held }
  else if someHired then { x with hired := addDistance t max32 dp x.hired }
  else { x with unhired := addDistance t max32 dp x.unhired }

/-- The shift accounts take an interval delivery (R171). -/
def deliverDistance (dp : Nat) (s : State) : State :=
  let a := s.accounts
  let someHired := s.seats.any (fun r => r.hired)
  let z := a.totalizers
  let total := addDistance s.tariff max32 dp z.total
  let hired :=
    if someHired && !s.hold.held then addDistance s.tariff max32 dp z.hired else z.hired
  let totals :=
    if a.shift.state = .closed then a.shift.totals
    else shareDistance s.tariff dp someHired s.hold.held a.shift.totals
  s.setAccounts { a with
    shift := { a.shift with totals := totals },
    totalizers := { z with total := total, hired := hired } }

/-! ### Shift state, report and pages -/

/-- The shift record with another one. -/
def setShift (s : State) (sh : Shift) : State := s.setAccounts { s.accounts with shift := sh }

/-- A change of the shift state with its notices: the sign driver computes the sign state, and the
line interface queues a STATUS (R169). -/
def changeShift (sh : Shift) (s : State) : State := queueStatus (computeSign (setShift s sh))

/-- The pages of the report (R176). -/
def reportPages : Nat := 13

/-- The items of a totals page, 0 to 15 (R176, R177, R190). -/
def totalsPage (a : Accounts) (page : Nat) : List Byte :=
  let sh := a.shift
  let x := sh.totals
  let z := a.totalizers
  match page with
  | 0 => bigEndian sh.number 2 ++ bigEndian sh.driver 3 ++ bigEndian sh.identity 2
      ++ [byte reportPages]
  | 1 => timeBytes sh.openClock ++ optTimeBytes sh.closeClock
  | 2 => bigEndian x.settled 3 ++ bigEndian x.cancelled 3 ++ bigEndian x.pooled 3
      ++ [byte x.maxRiders]
  | 3 => bigEndian x.voids 2 ++ bigEndian x.holds 2 ++ bigEndian a.tripCounter 3
  | 4 => bigEndian x.fare 6 ++ bigEndian x.tips 6
  | 5 => bigEndian x.extras.luggage 6 ++ bigEndian x.extras.toll 6
  | 6 => bigEndian x.extras.booking 6 ++ bigEndian x.extras.other 6
  | 7 => bigEndian x.card 6 ++ bigEndian x.account 6
  | 8 => bigEndian x.cash 6 ++ bigEndian x.waived 6
  | 9 => bigEndian x.band1 6 ++ bigEndian x.band2 6
  | 10 => bigEndian x.band3 6 ++ bigEndian x.band4 6
  | 11 => bigEndian x.hired.metres 4 ++ bigEndian x.unhired.metres 4 ++ bigEndian x.held.metres 4
  | 12 => bigEndian x.seatSeconds 6 ++ bigEndian x.steps 6
  | 13 => bigEndian z.total.metres 4 ++ bigEndian z.hired.metres 4
  | 14 => bigEndian z.trips 4 ++ bigEndian z.steps 4
  | _ => bigEndian z.fare 4 ++ bigEndian z.voids 4 ++ bigEndian a.tripCounter 3

/-- One page of the report, sent to an address (R176). -/
def sendPage (dest : Nat) (s : State) (page : Nat) : State :=
  send dest (.report s.accounts.shift.number page (totalsPage s.accounts page)) s

/-- The report: thirteen pages in page order to the roster's CONSOLE, if it lists one (R176). -/
def queueReport (s : State) : State :=
  match consoleAddr s.line.roster with
  | none => s
  | some dest => (List.range reportPages).foldl (sendPage dest) s

/-- The shift becomes CLOSED, with its close clock, its notices and its report (R174, R175). -/
def closeShift (s : State) : State :=
  queueReport
    (changeShift { s.accounts.shift with state := .closed, closeClock := some s.clock.time } s)

/-- The shift becomes CLOSING (R174, R175). -/
def startClosing (s : State) : State :=
  changeShift { s.accounts.shift with state := .closing } s

/-! ### Taking a closed trip -/

/-- The sum of the payment amounts of a method (R179). -/
def paidBy (m : Method) (ps : List Payment) : Nat :=
  ((ps.filter (fun p => p.method = m)).map (·.amount)).sum

/-- The trip added to a shift's totals (R179). -/
def addTrip (t : Trip) (x : Totals) : Totals :=
  { x with
    settled := if t.ending = .settled then heldAdd max24 x.settled 1 else x.settled,
    cancelled := if t.ending = .cancelled then heldAdd max24 x.cancelled 1 else x.cancelled,
    pooled := if t.pooled then heldAdd max24 x.pooled 1 else x.pooled,
    maxRiders := max x.maxRiders t.maxRiders,
    fare := x.fare + t.fare,
    extras := x.extras.plus t.extras,
    tips := x.tips + t.tips,
    card := x.card + paidBy .card t.payments,
    account := x.account + paidBy .account t.payments,
    cash := x.cash + paidBy .cash t.payments,
    waived := x.waived + t.waived,
    band1 := if t.activeBand = 1 then x.band1 + t.fare else x.band1,
    band2 := if t.activeBand = 2 then x.band2 + t.fare else x.band2,
    band3 := if t.activeBand = 3 then x.band3 + t.fare else x.band3,
    band4 := if t.activeBand = 4 then x.band4 + t.fare else x.band4,
    steps := x.steps + t.steps,
    seatSeconds := x.seatSeconds + t.seconds }

/-- The trip added to the lifetime totalizers (R180). -/
def addLifetime (t : Trip) (z : Totalizers) : Totalizers :=
  { z with
    trips := heldAdd max32 z.trips 1, steps := heldAdd max32 z.steps t.steps,
    fare := heldAdd max32 z.fare t.fare }

/-- The trip counter advanced by one, from 16,777,215 to 1 (R178). -/
def nextTripNumber (n : Nat) : Nat := if n = max24 then 1 else n + 1

/-- The places of the trip log (R183). -/
def logPlaces : Nat := 64

/-- A record appended to the trip log, the oldest removed first from a full one (R183). -/
def appendTrip (t : Trip) (log : List Trip) : List Trip :=
  (if log.length < logPlaces then log else log.drop 1) ++ [t]

/-- Steps 1 to 4 of R178: the trip is numbered, completed, logged and added. -/
def recordTrip (t : Trip) (a : Accounts) (identity : Nat) : Accounts :=
  let n := nextTripNumber a.tripCounter
  let r := { t with number := n, shift := a.shift.number, identity := identity }
  let totals := if a.shift.state = .closed then a.shift.totals else addTrip r a.shift.totals
  { a with
    tripCounter := n, log := appendTrip r a.log,
    shift := { a.shift with totals := totals }, totalizers := addLifetime r a.totalizers }

/-- Settled plus cancelled trips at which an OPEN shift goes to CLOSING (R175). -/
def tripLimit : Nat := 16777212

/-- What a close does to the shift state (R175, R178 step 5); `others` says whether another seat is
non-VACANT. DESIGN CHOICE: the shift's notices to the sign driver, those of the trip limit in an OPEN shift
too, come before the seat's and in the one step of the close, so no lamp boundary falls between them
(R145; notes/assumptions/34.md). -/
def afterTrip (others : Bool) (s : State) : State :=
  let sh := s.accounts.shift
  match sh.state with
  | .closed => s
  | .closing => if others then s else closeShift s
  | .opened =>
    if sh.totals.settled + sh.totals.cancelled = tripLimit then
      if others then startClosing s else closeShift (startClosing s)
    else s

/-- The shift accounts take a closed trip (R178). -/
def takeTrip (t : Trip) (others : Bool) (s : State) : State :=
  afterTrip others (s.setAccounts (recordTrip t s.accounts s.tariff.identity))

/-- A void is counted, in the shift while it is OPEN or CLOSING, and in the totalizer (R114, R181). -/
def countVoid (s : State) : State :=
  let a := s.accounts
  let x := a.shift.totals
  let totals :=
    if a.shift.state = .closed then x else { x with voids := heldAdd max16 x.voids 1 }
  s.setAccounts { a with
    shift := { a.shift with totals := totals },
    totalizers := { a.totalizers with voids := heldAdd max32 a.totalizers.voids 1 } }

/-! ### Console commands -/

/-- The shift number after an opening, from 65,535 to 1 (R173). -/
def nextShiftNumber (n : Nat) : Nat := if n = max16 then 1 else n + 1

/-- SHIFT_OPEN(driver id) (R173). -/
def shiftOpenCommand (driver : Word24) (s : State) : State × Reply :=
  if 999999 < driver.toNat then refuse s .range
  else if s.accounts.shift.state ≠ .closed then refuse s .state
  else if !s.clock.valid then refuse s .clock
  else
    let n := nextShiftNumber s.accounts.shift.number
    done (changeShift
      { state := .opened, number := n, driver := driver.toNat, identity := s.tariff.identity,
        openClock := s.clock.time, closeClock := none, totals := noTotals } s) (bigEndian n 2)

/-- SHIFT_CLOSE (R174). -/
def shiftCloseCommand (s : State) : State × Reply :=
  if s.accounts.shift.state ≠ .opened then refuse s .state
  else
    let t := if allVacant s.seats then closeShift s else startClosing s
    done t [byte (shiftValue t.accounts.shift.state)]

/-- READ_TOTALS(page) (R177). -/
def readTotalsCommand (page : Byte) (s : State) : State × Reply :=
  let sh := s.accounts.shift
  if 15 < page.toNat then refuse s .range
  else if page.toNat < reportPages ∧ sh.state = .closed ∧ sh.number = 0 then refuse s .nothing
  else done s (totalsPage s.accounts page.toNat)

/-- A payment entry's page (R190). -/
def paymentPage (p : Payment) : List Byte :=
  byte (methodValue p.method) :: (bigEndian p.amount 3 ++ bigEndian p.tip 3
    ++ bigEndian (p.ref.getD 0) 4)

/-- A trip's bands used in four bytes, 0 beyond the list (R190). -/
def bandBytes (bands : List Nat) : List Byte := (bands.map byte ++ List.replicate 4 0).take 4

/-- A page of a trip record; none for a payment page beyond its entries (R184, R190). DESIGN CHOICE: bits
7 to 4 of the marks, to which the layout gives neither a meaning nor 0, are 0 (notes/assumptions/36.md). -/
def tripPage (t : Trip) (page : Nat) : Option (List Byte) :=
  match page with
  | 0 => some (bigEndian t.number 3
      ++ [byte (seatNumber t.seat), byte (if t.ending = .settled then 0 else 1)]
      ++ bigEndian t.shift 2 ++ bigEndian t.identity 2
      ++ [byte (bitsOf [t.pooled, t.saturated, t.heldDuring, t.brk]), byte t.maxRiders])
  | 1 => some (timeBytes t.hireClock ++ optTimeBytes t.stopClock ++ bandBytes t.bandsUsed
      ++ [byte t.activeBand])
  | 2 => some (bigEndian t.flagFall 2 ++ bigEndian t.steps 3 ++ [byte t.freeUsed]
      ++ bigEndian t.fare 3)
  | 3 => some (bigEndian t.extras.luggage 3 ++ bigEndian t.extras.toll 3
      ++ bigEndian t.extras.booking 3 ++ bigEndian t.extras.other 3)
  | 4 => some (bigEndian t.tips 3 ++ bigEndian t.waived 3 ++ bigEndian t.metres 3
      ++ bigEndian t.seconds 3 ++ [byte t.payments.length])
  | n + 5 => t.payments[n]?.map paymentPage

/-- READ_TRIP(n, page) (R184). -/
def readTripCommand (n : Word24) (page : Byte) (s : State) : State × Reply :=
  if n.toNat = 0 ∨ 10 < page.toNat then refuse s .range
  else
    match s.accounts.log.find? (fun t => t.number = n.toNat) with
    | none => refuse s .gone
    | some t =>
      match tripPage t page.toNat with
      | none => refuse s .nothing
      | some data => done s data

end Sys2Proof.Machine
end

