-- ==== Sys2Proof/Machine/Hold.lean ====
section
/-! DEFINITION. The metrology hold: raising a cause and entering HELD (R155, R156), conditions (R154),
the TAMPER filter (R158), the monitor's start work (R167) and its four console commands (R160 to
R163). -/

namespace Sys2Proof.Machine

/-- The shift accounts count an entry to HELD in an OPEN or CLOSING shift (R181). -/
def countHold (s : State) : State :=
  let sh := s.accounts.shift
  if sh.state = .closed then s
  else
    s.setAccounts { s.accounts with
      shift := { sh with totals := { sh.totals with holds := heldAdd max16 sh.totals.holds 1 } } }

/-- The monitor enters HELD by a cause (R156). -/
def enterHeld (c : Cause) (src : Nat) (s : State) : State :=
  let n := heldAdd max24 s.hold.count 1
  let t := s.setHold { s.hold with
    held := true, count := n, pointer := some c,
    trigger := { cause := some c, source := src, time := s.clock.time, valid := s.clock.valid,
                 number := n } }
  let t := send broadcast (.holdEvent false (some c) (some c) src) t
  countHold (computeSign (queueStatus t))

/-- A cause's status set, and its last source recorded (R155, step 1). -/
def markRaised (c : Cause) (src : Nat) (s : State) : State :=
  (s.setHold { s.hold with status := s.hold.status.set c true }).setMonitor
    { s.monitor with lastSource := s.monitor.lastSource.set c src }

/-- A raise of a cause (R155). -/
def raiseCause (c : Cause) (src : Nat) (s : State) : State :=
  let t := markRaised c src s
  if t.monitor.masked.get c then t
  else if !t.monitor.note.get c && !t.hold.held then enterHeld c src t
  else if t.hold.pointer = none then t.setHold { t.hold with pointer := some c }
  else t

/-- A report of a cause's condition, present or absent (R154). -/
def reportCondition (c : Cause) (present : Bool) (s : State) : State :=
  s.setMonitor { s.monitor with condition := s.monitor.condition.set c present }

/-- A cause's status cleared; the pointer becomes NONE if it names the cause (R157, R161). -/
def clearStatus (c : Cause) (s : State) : State :=
  s.setHold { s.hold with
    status := s.hold.status.set c false,
    pointer := if s.hold.pointer = some c then none else s.hold.pointer }

/-- Whether a cause is unmasked, of HOLD severity and has its status set (R162, R167). -/
def holdsNow (s : State) (c : Cause) : Bool :=
  s.hold.status.get c && !s.monitor.masked.get c && !s.monitor.note.get c

/-! ### The TAMPER input (R158) -/

/-- A filter begins to watch and takes the input's level as its settled level. -/
def watchTamper (s : State) : State :=
  s.setTamperFilter { settled := s.pins.tamper, changing := false }

/-- The input takes a level: a change away from the settled level begins, or is discarded. -/
def tamperLevel (asserted : Bool) (s : State) : State :=
  let t := s.setPins { s.pins with tamper := asserted }
  t.setTamperFilter { t.tamperFilter with changing := asserted ≠ t.tamperFilter.settled }

/-- What a settled level does: from load completion the monitor raises TAMPER with its condition
present, or makes the condition absent; before it the retained store sets TAMPER's status alone. -/
def tamperEffect (asserted : Bool) (s : State) : State :=
  if s.start.loaded then
    if asserted then reportCondition .tamper true (raiseCause .tamper s.tariff.own s)
    else reportCondition .tamper false s
  else if asserted then s.setHold { s.hold with status := s.hold.status.set .tamper true }
  else s

/-- A change of the input has held for 20 ms. -/
def settleTamper (s : State) : State :=
  if s.tamperFilter.changing then
    let t := s.setTamperFilter { settled := s.pins.tamper, changing := false }
    tamperEffect t.pins.tamper t
  else s

/-! ### Start work (R167) -/

/-- Step 1: the masks and severities of the image in force are taken. -/
def takeSettings (masked note : PerCause Bool) (s : State) : State :=
  s.setMonitor { s.monitor with masked := masked, note := note }

/-- Step 2: the conditions as the blocks hand them over; PULSE_LOSS and LAMP are reported absent. -/
def startConditions (s : State) : State :=
  s.setMonitor { s.monitor with
    condition := { causesOf false with
      config := !s.tariff.good, clock := !s.clock.valid, tamper := s.pins.tamper } }

/-- A raise where a cause's condition is present (step 4). -/
def raiseIfPresent (c : Cause) (s : State) : State :=
  if s.monitor.condition.get c then raiseCause c s.tariff.own s else s

/-- Step 5: while RUNNING, the lowest-numbered unmasked HOLD cause whose status is set enters HELD. -/
def enterIfCalled (s : State) : State :=
  if s.hold.held then s
  else
    match allCauses.find? (holdsNow s) with
    | some c => enterHeld c s.tariff.own s
    | none => s

/-- The monitor's start work after the settings are taken, steps 2 to 5. -/
def monitorStartWork (s : State) : State :=
  let t := startConditions s
  let t := if t.tariff.good then clearStatus .config t else t
  enterIfCalled (raiseIfPresent .tamper (raiseIfPresent .clock (raiseIfPresent .config t)))

/-! ### Console commands -/

/-- HOLD_TRIGGER, with the console's address (R160). -/
def holdTriggerCommand (src : Nat) (s : State) : State × Reply :=
  done (raiseCause .console src s) []

/-- CLEAR_CAUSE(c) (R161). -/
def clearCauseCommand (cause : Byte) (s : State) : State × Reply :=
  match causeArg cause with
  | none => refuse s .range
  | some c =>
    if c = .config then refuse s .state
    else if s.monitor.condition.get c then refuse s .cond
    else if c = .tamper ∧ !s.pins.service then refuse s .state
    else done (clearStatus c s) []

/-- The part leaves HELD (R162, steps 1 to 3). -/
def releaseHold (s : State) : State :=
  let t := s.setHold { s.hold with held := false }
  let t := send broadcast
    (.holdEvent true t.hold.trigger.cause t.hold.pointer t.hold.trigger.source) t
  computeSign (queueStatus t)

/-- HOLD_RELEASE (R162). -/
def holdReleaseCommand (s : State) : State × Reply :=
  if !s.hold.held then refuse s .state
  else if allCauses.any (holdsNow s) then refuse s .cause
  else done (releaseHold s) []

/-- One cause's byte of hold page 1 (R190). DESIGN CHOICE: bits 7 to 4, to which the layout gives neither a
meaning nor 0, are 0 (notes/assumptions/36.md). -/
def causeFlags (s : State) (c : Cause) : Byte :=
  byte (bitsOf [s.hold.status.get c, s.monitor.masked.get c, s.monitor.note.get c,
    s.monitor.condition.get c])

/-- A page of the monitor's records (R163, R190). DESIGN CHOICE: bits 6 to 3 of page 0's trigger day and bits
7 to 2 of page 2's inputs, to which the layout gives neither a meaning nor 0, are 0
(notes/assumptions/36.md). -/
def holdPage (s : State) : Nat → List Byte
  | 0 =>
    let t := s.hold.trigger
    [holdByte s.hold.held s.hold.pointer, byte (causeValue t.cause), byte t.source,
      byte (t.time.day + 128 * t.valid.toNat)]
      ++ bigEndian t.time.seconds 3 ++ bigEndian t.number 3 ++ bigEndian s.hold.count 3
  | 1 => allCauses.map (causeFlags s)
  | _ =>
    (s.monitor.lastSource.list.map byte)
      ++ [byte s.monitor.lastCode, byte (bitsOf [s.pins.tamper, s.pins.service])]

/-- READ_HOLD(page) (R163). -/
def readHoldCommand (page : Byte) (s : State) : State × Reply :=
  if 2 < page.toNat then refuse s .range else done s (holdPage s page.toNat)

end Sys2Proof.Machine
end

