-- ==== Sys2Proof/Machine/Intercom.lean ====
section
/-! DEFINITION. The intercom switch: gates (R120), press records (R122, R123), the driver (R124,
R125), seat presses and releases (R126, R127), the guard (R129, R130), the talk limit (R131),
occupancy (R133), reporting (R137) and its two console commands (R135, R136). -/

namespace Sys2Proof.Machine

/-- The lapse timer of a press record, in milliseconds (R122). -/
def lapseTime : Nat := 1500

/-- Whether a seat is within the talk target (R136). -/
def withinTarget (t : Target) (q : Seat) : Bool :=
  match t with
  | .all => true
  | .seat p => p = q

/-- A flag for each seat, computed from the seat. -/
def seatFlags (f : Seat → Bool) : PerSeat Bool := ⟨f .one, f .two, f .three, f .four⟩

/-- The gates that a state, a talk target and the seats' occupancy open (R120). -/
def gatesOf (state : Talk) (target : Target) (seats : PerSeat SeatRecord) : Gates :=
  match state with
  | .driverTalk =>
    { gatesClosed with
      dmic := true, spk := seatFlags (fun q => withinTarget target q && !(seats.get q).vacant) }
  | .seatTalk q => { gatesClosed with smic := (seatsOf false).set q true, dspk := true }
  | .idle | .guard => gatesClosed

/-- The items an INTERCOM_STATE carries (R137). -/
def intercomReport (i : Intercom) : IntercomReport :=
  { state := i.state, queue := i.queue, mute := i.mute }

/-- An INTERCOM_STATE broadcast is queued (R137). -/
def sendIntercom (s : State) : State :=
  send broadcast (.intercomState (intercomReport s.intercom)) s

/-- A change of the switch: the gates follow at once (R120), and an INTERCOM_STATE is queued if a
carried item changed (R137). -/
def changeIntercom (f : Intercom → Intercom) (s : State) : State :=
  let i := f s.intercom
  let t := s.setIntercom { i with gates := gatesOf i.state i.target s.seats }
  if intercomReport i = intercomReport s.intercom then t else sendIntercom t

/-! ### Transitions of the switch -/

/-- The state becomes GUARD: the guard timer starts from its full length, and the talk-limit timer
stops (R129, R131). -/
def startGuard (guardTime : Nat) (i : Intercom) : Intercom :=
  { i with state := .guard, guardTimer := some guardTime, talkTimer := none }

/-- A seat's talk begins, with the talk-limit timer (R131). -/
def startTalk (limit : Nat) (q : Seat) (i : Intercom) : Intercom :=
  { i with state := .seatTalk q, talkTimer := some limit }

/-- A seat joins the call queue at its tail, if it is not in it (R128). -/
def joinCalls (q : Seat) (i : Intercom) : Intercom :=
  if q ∈ i.queue then i else { i with queue := i.queue ++ [q] }

/-- A seat leaves the call queue (R128). -/
def leaveCalls (q : Seat) (i : Intercom) : Intercom :=
  { i with queue := i.queue.filter (fun p => p ≠ q) }

/-- A seat's talk ends into GUARD, if it is talking (R127, R133). -/
def endTalk (guardTime : Nat) (q : Seat) (i : Intercom) : Intercom :=
  if i.state = .seatTalk q then startGuard guardTime i else i

/-- A seat's talk is ended by force, if it is talking: it needs a release (R132). -/
def cutOff (guardTime : Nat) (q : Seat) (i : Intercom) : Intercom :=
  if i.state = .seatTalk q then
    { startGuard guardTime i with needsRelease := i.needsRelease.set q true }
  else i

/-- A driver press (R124). -/
def driverPress (guardTime : Nat) (i : Intercom) : Intercom :=
  match i.state with
  | .idle => { i with state := .driverTalk }
  | .driverTalk => i
  | .seatTalk q => { cutOff guardTime q i with pendingDriver := true }
  | .guard =>
    if i.pendingDriver then i else { i with pendingDriver := true, guardTimer := some guardTime }

/-- A driver release (R125). -/
def driverRelease (guardTime : Nat) (i : Intercom) : Intercom :=
  if i.state = .driverTalk then startGuard guardTime i else i

/-- A seat press that counts (R126). -/
def seatPress (guardTime limit : Nat) (q : Seat) (i : Intercom) : Intercom :=
  match i.state with
  | .idle => startTalk limit q i
  | .driverTalk => joinCalls q i
  | .seatTalk p => if p = q then i else joinCalls q i
  | .guard =>
    if i.queue = [] ∧ !i.pendingDriver then { joinCalls q i with guardTimer := some guardTime }
    else joinCalls q i

/-- A seat release (R127). -/
def seatRelease (guardTime : Nat) (q : Seat) (i : Intercom) : Intercom :=
  leaveCalls q (endTalk guardTime q { i with needsRelease := i.needsRelease.set q false })

/-- Guard expiry: the pending driver if still held, else the head of the call queue, else IDLE
(R130). -/
def guardEnds (limit : Nat) (i : Intercom) : Intercom :=
  let j := { i with pendingDriver := false, guardTimer := none }
  if i.pendingDriver && i.driverPress.isSome then { j with state := .driverTalk }
  else
    match i.queue with
    | q :: rest => startTalk limit q { j with queue := rest }
    | [] => { j with state := .idle }

/-- A seat turned VACANT (R133). -/
def seatEmptied (guardTime : Nat) (q : Seat) (i : Intercom) : Intercom :=
  let j := leaveCalls q (endTalk guardTime q i)
  { j with mute := j.mute.set q false }

/-- A seat's mute set, with what that does at once (R135). -/
def muteSeat (guardTime : Nat) (q : Seat) (i : Intercom) : Intercom :=
  let j := leaveCalls q (cutOff guardTime q i)
  { j with mute := j.mute.set q true }

/-! ### Press records -/

/-- The lapse timer of a press record: running while the record is held (R122). -/
def pressRecord (i : Intercom) : PressKey → Timer
  | .driver => i.driverPress
  | .seat q => i.seatPress.get q

/-- The switch with a press record set. -/
def setPress (k : PressKey) (t : Timer) (i : Intercom) : Intercom :=
  match k with
  | .driver => { i with driverPress := t }
  | .seat q => { i with seatPress := i.seatPress.set q t }

/-- A press: the record is held and its lapse timer restarts; then the driver's press is taken by
R124, and a seat's by R126, where a VACANT seat's and a press that needs a release are ignored and a
muted seat's is reported. -/
def takePress (k : PressKey) (s : State) : State :=
  let t := s.setIntercom (setPress k (some lapseTime) s.intercom)
  match k with
  | .driver => changeIntercom (driverPress t.tariff.guardTime) t
  | .seat q =>
    if (t.seat q).vacant || t.intercom.needsRelease.get q then t
    else if t.intercom.mute.get q then sendIntercom t
    else changeIntercom (seatPress t.tariff.guardTime t.tariff.talkLimit q) t

/-- A record that is held goes to not held, which is a release (R122, R123, R125, R127). -/
def takeRelease (k : PressKey) (s : State) : State :=
  if (pressRecord s.intercom k).isSome then
    let t := s.setIntercom (setPress k none s.intercom)
    match k with
    | .driver => changeIntercom (driverRelease t.tariff.guardTime) t
    | .seat q => changeIntercom (seatRelease t.tariff.guardTime q) t
  else s

/-! ### Timers, occupancy and commands -/

/-- The guard timer expires (R130); a stopped timer does not. -/
def guardExpires (s : State) : State :=
  if s.intercom.guardTimer.isSome then changeIntercom (guardEnds s.tariff.talkLimit) s else s

/-- The talk-limit timer expires and the talking seat is cut off (R131). -/
def talkLimitExpires (s : State) : State :=
  if s.intercom.talkTimer.isSome then
    match s.intercom.state with
    | .seatTalk q => changeIntercom (cutOff s.tariff.guardTime q) s
    | _ => s
  else s

/-- The switch is told of a seat's change, already made in its record: it acts on a seat that turned
VACANT and on one that turned non-VACANT (R133). -/
def occupancyNotice (q : Seat) (wasVacant : Bool) (s : State) : State :=
  if (s.seat q).vacant = wasVacant then s
  else if (s.seat q).vacant then changeIntercom (seatEmptied s.tariff.guardTime q) s
  else changeIntercom id s

/-- INTERCOM_MUTE(seat, on or off) (R135). -/
def intercomMuteCommand (seat on : Byte) (s : State) : State × Reply :=
  match seatArg seat, flagArg on with
  | some q, some true =>
    if (s.seat q).vacant then refuse s .state
    else done (changeIntercom (muteSeat s.tariff.guardTime q) s) []
  | some q, some false =>
    done (changeIntercom (fun i => { i with mute := i.mute.set q false }) s) []
  | _, _ => refuse s .range

/-- INTERCOM_TARGET(target) (R136). -/
def intercomTargetCommand (target : Byte) (s : State) : State × Reply :=
  match targetArg target with
  | some t => done (changeIntercom (fun i => { i with target := t }) s) []
  | none => refuse s .range

end Sys2Proof.Machine
end

