-- ==== Sys2Proof/Machine/Payers.lean ====
section
/-! DEFINITION. The payer map: which payer serves a seat (R80), the checks of an installation (R82,
R85), the charge sequencer's requests (R90), removals (R91 to R93) and the payer record on the line
(R190). -/

namespace Sys2Proof.Machine

/-- The eight payer records (R78). -/
abbrev PayerMap := PerIndex (Option Payer)

/-- A payer's remaining limit (R78). -/
def Payer.remaining (p : Payer) : Nat := p.limit - p.spent

/-- The index of the payer with a scope, if one is installed. -/
def findScope (m : PayerMap) (sc : Scope) : Option (Fin 8) :=
  allIndexes.find? (fun i => (m.get i).any (fun p => p.scope = sc))

/-- The index of the payer that serves a seat: its seat-scoped payer, else the party payer (R80). -/
def resolve (m : PayerMap) (q : Seat) : Option (Fin 8) :=
  match findScope m (.seat q) with
  | some i => some i
  | none => findScope m .party

/-- The lowest free index (R79). -/
def lowestFree (m : PayerMap) : Option (Fin 8) := allIndexes.find? (fun i => (m.get i).isNone)

/-- Whether a scope has someone to pay for: its seat is non-VACANT, or, for PARTY, some seat is
(R82). -/
def scopeOccupied (seats : PerSeat SeatRecord) : Scope → Bool
  | .seat q => !(seats.get q).vacant
  | .party => !allVacant seats

/-- A payer record replaced or removed. -/
def setPayer (i : Fin 8) (p : Option Payer) (s : State) : State := s.setPayers (s.payers.set i p)

/-- A payer whose remaining limit is 0 is removed (R93). -/
def keepUnlessSpent (p : Payer) : Option Payer := if p.remaining = 0 then none else some p

/-- The request "begin charge" (R90), taken for a CARD payer that is IDLE. -/
def beginCharge (i : Fin 8) (q : Seat) (s : State) : State :=
  match s.payers.get i with
  | some p =>
    match p.kind, p.charging with
    | .card _ _, none => setPayer i (some { p with charging := some q }) s
    | _, _ => s
  | none => s

/-- The request "end charge" (R90), taken for a CHARGING payer: spent grows; the payer is removed if
the charge was not full (R92) or its limit is spent (R93), and is IDLE otherwise. -/
def endCharge (i : Fin 8) (charged : Nat) (full : Bool) (s : State) : State :=
  match s.payers.get i with
  | some p =>
    if p.charging.isSome then
      let r := { p with spent := p.spent + charged, charging := none }
      setPayer i (if full then keepUnlessSpent r else none) s
    else s
  | none => s

/-- The request "settle" (R90), taken for an ACCOUNT payer that is IDLE. -/
def settlePayer (i : Fin 8) (charged : Nat) (s : State) : State :=
  match s.payers.get i with
  | some p =>
    match p.kind, p.charging with
    | .account _, none => setPayer i (keepUnlessSpent { p with spent := p.spent + charged }) s
    | _, _ => s
  | none => s

/-- The payer of a scope removed, if one is installed (R91). -/
def removeScope (sc : Scope) (s : State) : State :=
  match findScope s.payers sc with
  | some i => setPayer i none s
  | none => s

/-- What the map does at a close: the seat's payer is removed, and the party payer with it when no
other seat is non-VACANT (R91). -/
def payersAtClose (q : Seat) (others : Bool) (s : State) : State :=
  let t := removeScope (.seat q) s
  if others then t else removeScope .party t

/-- A payer record on the line; `viaParty` says that PROBE_SEAT found it through PARTY (R190). -/
def payerBytes (i : Fin 8) (viaParty : Bool) (p : Payer) : List Byte :=
  let isAccount := match p.kind with
    | .card _ _ => false
    | .account _ => true
  let readerRef := match p.kind with
    | .card reader ref => (reader, ref)
    | .account id => (0, id)
  let charging := match p.charging with
    | some q => seatNumber q
    | none => 0
  byte (i.val + 8 * isAccount.toNat + 16 * p.charging.isSome.toNat + 32 * p.tipsAllowed.toNat
      + 64 * viaParty.toNat)
    :: byte (scopeValue p.scope + 16 * charging) :: byte readerRef.1
    :: (bigEndian readerRef.2 4 ++ bigEndian p.limit 3 ++ bigEndian p.spent 3)

/-- PROBE_SEAT(s) (R89). -/
def probeSeatCommand (seat : Byte) (s : State) : State × Reply :=
  match seatArg seat with
  | none => refuse s .range
  | some q =>
    match resolve s.payers q with
    | none => refuse s .nothing
    | some i =>
      match s.payers.get i with
      | none => refuse s .nothing
      | some p => done s (payerBytes i (p.scope = .party) p)

/-- PROBE_INDEX(i) (R89). -/
def probeIndexCommand (index : Byte) (s : State) : State × Reply :=
  match indexArg index with
  | none => refuse s .range
  | some i =>
    match s.payers.get i with
    | none => refuse s .nothing
    | some p => done s (payerBytes i false p)

end Sys2Proof.Machine
end

