-- ==== Sys2Proof/Machine/Fare.lean ====
section
/-! DEFINITION. The fare engine's seat records: display (R54, R55), announcements (R40), the close of a
seat (R52), the charge sequencer's requests (R50, R51), and what a warm start does (R57, R58). -/

namespace Sys2Proof.Machine

/-! ### Display -/

/-- The contents of a seat's SEAT_DISPLAY (R54). -/
def displayOf (r : SeatRecord) : Display :=
  { state := r.state, fare := r.fare, extras := r.extras.total, due := r.due,
    activeBand := r.activeBand, pooled := r.pooled }

/-- The comparison of a seat's contents with its display copy (R54): the frame is queued, and the copy
takes the contents, if they differ and a panel bound to the seat is PRESENT. -/
def compareDisplay (s : State) (q : Seat) : State :=
  let d := displayOf (s.seat q)
  match presentPanel s.line.roster q with
  | none => s
  | some e =>
    if s.display.get q = some d then s
    else send e.addr (.seatDisplay q d) (s.setDisplay (s.display.set q (some d)))

/-- The comparison for all four seats (R54). -/
def compareDisplays (s : State) : State := allSeats.foldl compareDisplay s

/-- The comparison after an event of the fare engine that changed a seat record (R54). -/
def compareIfChanged (before after : State) : State :=
  if after.seats = before.seats then after else compareDisplays after

/-! ### Announcements -/

/-- The announcement of a seat's change, already made in its record, to the sign driver, the intercom
switch and the line interface (R40). -/
def announce (q : Seat) (wasVacant : Bool) (s : State) : State :=
  queueStatus (occupancyNotice q wasVacant (computeSign s))

/-- A seat's record replaced with a change of its state, and announced. -/
def changeSeat (q : Seat) (r : SeatRecord) (s : State) : State :=
  announce q (s.seat q).vacant (s.setSeat q r)

/-! ### Closing a seat -/

/-- The trip composed from a seat record (R52, step 1); its number, shift and image identity are the
shift accounts' (R178). -/
def composeTrip (q : Seat) (ending : TripEnd) (r : SeatRecord) : Trip :=
  { number := 0, seat := q, shift := 0, identity := 0, ending := ending, hireClock := r.hireClock,
    stopClock := if ending = .cancelled then none else r.stopClock, bandsUsed := r.bandsUsed,
    activeBand := r.activeBand, flagFall := r.flagFall, steps := r.steps,
    freeUsed := r.freeAtHire - r.freeLeft, fare := r.fare, extras := r.extras, tips := r.tips,
    payments := r.payments, waived := r.waived, metres := r.metres, seconds := r.intervals / 5,
    pooled := r.pooled, saturated := r.saturated, heldDuring := r.heldDuring, brk := r.brk,
    maxRiders := r.maxRiders }

/-- The close of a seat (R52): the trip is handed over, the payers are told, the record takes its
VACANT values, and the change is announced and the display compared. DESIGN CHOICE: at a close
that changes the shift state (the last in CLOSING, the trip limit's in OPEN) the sign driver has the
shift's notices before the seat's, all in this one step, so no lamp boundary falls between them (R144,
R145, R175; notes/assumptions/34.md). -/
def closeSeat (q : Seat) (ending : TripEnd) (s : State) : State :=
  let others := othersOccupied s.seats q
  let t := payersAtClose q others (takeTrip (composeTrip q ending (s.seat q)) others s)
  compareDisplay (changeSeat q vacantSeat t) q

/-- A DUE seat whose due is 0 closes in the same event (R39, R52). -/
def closeIfPaid (q : Seat) (s : State) : State :=
  if (s.seat q).state = .due ∧ (s.seat q).due = 0 then closeSeat q .settled s else s

/-! ### Payments -/

/-- The places of a payments list (R38). -/
def paymentPlaces : Nat := 6

/-- The most a payment entry's tip may hold (R38). -/
def tipPlaces : Nat := 99999

/-- A record with a payment entry appended (R48, R51). -/
def addPayment (p : Payment) (r : SeatRecord) : SeatRecord :=
  { r with payments := r.payments ++ [p], paid := r.paid + p.amount, tips := r.tips + p.tip }

/-- The request "enter PAYING" (R50). -/
def enterPaying (q : Seat) (s : State) : State :=
  let r := s.seat q
  if r.state = .due ∧ 0 < r.due ∧ r.payments.length < paymentPlaces then
    changeSeat q { r with state := .paying } s
  else s

/-- The request "leave PAYING" (R50). -/
def leavePaying (q : Seat) (s : State) : State :=
  let r := s.seat q
  if r.state = .paying then changeSeat q { r with state := .due } s else s

/-- The credit of a card charge to its PAYING seat (R51). -/
def creditCard (q : Seat) (p : Payment) (s : State) : State :=
  let r := s.seat q
  if r.state = .paying then
    closeIfPaid q (changeSeat q { addPayment p r with state := .due } s)
  else s

/-- The credit of an account settlement to its DUE seat (R51). -/
def creditAccount (q : Seat) (p : Payment) (s : State) : State :=
  let r := s.seat q
  if r.state = .due then closeIfPaid q (s.setSeat q (addPayment p r)) else s

/-! ### Warm start -/

/-- A retained record at a warm start (R57): Q becomes 0, the fresh flag is cleared, and a HIRED or
PAYING seat turns to DUE with the BREAK mark and the clock as its stop clock. -/
def warmSeat (time : DayTime) (r : SeatRecord) : SeatRecord :=
  match r.state with
  | .vacant => r
  | .due => { r with progress := 0, fresh := false }
  | .hired | .paying =>
    { r with state := .due, progress := 0, fresh := false, brk := true, stopClock := some time }

/-- Whether a warm start breaks a seat's trip (R57, R58). -/
def openFare (r : SeatRecord) : Bool := r.state = .hired || r.state = .paying

/-- A seat at a warm start: its record turned and announced, and closed if it owes nothing (R57,
R58). -/
def warmStartSeat (s : State) (q : Seat) : State :=
  let r := s.seat q
  if openFare r then closeIfPaid q (changeSeat q (warmSeat s.clock.time r) s)
  else s.setSeat q (warmSeat s.clock.time r)

/-- The fare engine's start work on the records at a warm start (R57, R58). DESIGN CHOICE: seats that owe
nothing close in ascending seat number (notes/assumptions/31.md). -/
def warmStartSeats (s : State) : State := allSeats.foldl warmStartSeat s

end Sys2Proof.Machine
end

