-- ==== Sys2Proof/Machine/Accrual.lean ====
section
/-! DEFINITION. Fare accrual: what an interval's delivery does to each HIRED seat (R59 to R74). -/

namespace Sys2Proof.Machine

/-- A band of the image by its number, 1 to the band count. -/
def bandAt (t : Tariff) (n : Nat) : Option Band := if n = 0 then none else t.bands[n - 1]?

/-- share[k], per mille (R65). -/
def shareOf (t : Tariff) (k : Nat) : Nat := t.shares.getD (k - 1) 0

/-- The base gain g of a band (R64). -/
def baseGain (b : Band) (dp : Nat) : Nat := max (dp * b.nt) b.np

/-- The shared gain g′ (R65). -/
def sharedGain (t : Tariff) (b : Band) (dp k : Nat) : Nat := baseGain b dp * shareOf t k

/-- The most a fare holds (R69). -/
def maxFare : Nat := 999999

/-- A chargeable step's money (R69). -/
def chargeStep (amount : Nat) (r : SeatRecord) : SeatRecord :=
  if maxFare < r.fare + amount then { r with fare := maxFare, saturated := true }
  else { r with fare := r.fare + amount }

/-- A step counted, free or chargeable (R68). -/
def countStep (amount : Nat) (r : SeatRecord) : SeatRecord :=
  let c := { r with steps := heldAdd max24 r.steps 1 }
  if 0 < r.freeLeft then { c with freeLeft := r.freeLeft - 1 } else chargeStep amount c

/-- A band appended to a bands-used list, if absent (R70). -/
def useBand (n : Nat) (bands : List Nat) : List Nat := if n ∈ bands then bands else bands ++ [n]

/-- The transfer from a band to the selected band, if they differ (R70). -/
def transferBand (t : Tariff) (selected : Nat) (b : Band) (r : SeatRecord) : SeatRecord :=
  if r.activeBand = selected then r
  else
    match bandAt t selected with
    | none => r
    | some n =>
      { r with
        progress := r.progress * n.size / b.size, activeBand := selected,
        bandsUsed := useBand selected r.bandsUsed }

/-- A step reached at a band (R67). -/
def reachStep (t : Tariff) (selected : Nat) (b : Band) (r : SeatRecord) : SeatRecord :=
  transferBand t selected b (countStep b.amount { r with progress := r.progress - b.size })

/-- The steps of one delivery, one at a time, while Q is at least S′ of the active band (R66, R67). -/
def reachSteps (t : Tariff) (selected : Nat) : Nat → SeatRecord → SeatRecord
  | 0, r => r
  | fuel + 1, r =>
    match bandAt t r.activeBand with
    | none => r
    | some b =>
      if r.progress < b.size then r else reachSteps t selected fuel (reachStep t selected b r)

/-- One more than the most steps a delivery reaches, 85 (R67). -/
def stepFuel : Nat := 86

/-- The gain and the steps of a non-fresh HIRED seat while RUNNING (R66). -/
def progressSeat (t : Tariff) (selected dp k : Nat) (r : SeatRecord) : SeatRecord :=
  match bandAt t r.activeBand with
  | none => r
  | some b =>
    reachSteps t selected stepFuel { r with progress := r.progress + sharedGain t b dp k }

/-- The marks and counts that every HIRED seat takes at a delivery (R73, R74). -/
def markSeat (t : Tariff) (dp k : Nat) (r : SeatRecord) : SeatRecord :=
  let m := addDistance t max24 dp { metres := r.metres, rem := r.remainder }
  { r with
    pooled := r.pooled || 2 ≤ k, maxRiders := if 2 ≤ k then max r.maxRiders k else r.maxRiders,
    intervals := heldAdd max24 r.intervals 1, metres := m.metres, remainder := m.rem }

/-- A seat's accrual at a delivery (R59): frozen while HELD (R62), else without progress while fresh
(R61), else with its gain (R66); only a HIRED seat is changed. -/
def accrueSeat (t : Tariff) (selected : Nat) (held : Bool) (dp k : Nat) (r : SeatRecord) :
    SeatRecord :=
  if r.hired then
    let m := markSeat t dp k r
    if held then { m with heldDuring := true, fresh := false }
    else if r.fresh then { m with fresh := false }
    else progressSeat t selected dp k m
  else r

/-- The fare engine takes an interval delivery (R59, R60). -/
def deliverFare (dp : Nat) (s : State) : State :=
  let k := riders s.seats
  compareDisplays
    (s.setSeats (s.seats.map (accrueSeat s.tariff s.band.selected s.hold.held dp k)))

end Sys2Proof.Machine
end

