-- ==== Sys2Proof/Machine/Charges.lean ====
section
/-! DEFINITION. The charge sequencer: tags (R101) and the late list (R113), the examination of a seat
and the charge-start pass (R98, R99), card charges and account settlements (R102, R103), results
(R104 to R108, R114), ends without a result (R109, R111), ABORT_CHARGE (R110) and the start (R119). -/

namespace Sys2Proof.Machine

/-! ### Tags and the late list -/

/-- The tag after a tag: 255 is followed by 1 (R101). -/
def nextTag (n : Nat) : Nat := if n = 255 then 1 else n + 1

/-- Whether a tag is that of a charge in flight or of a late-list entry (R101). -/
def tagUsed (t : Tags) (n : Nat) : Bool :=
  t.slots.any (fun o => o.any (fun e => e.tag = n)) || t.late.any (fun e => e.tag = n)

/-- The first unused tag from a candidate on, with a bound on the tags passed over (R101). -/
def freeTag (t : Tags) : Nat → Nat → Nat
  | 0, n => n
  | fuel + 1, n => if tagUsed t n then freeTag t fuel (nextTag n) else n

/-- The tag that a charge start takes (R101). -/
def newTag (t : Tags) : Nat := freeTag t 255 (nextTag t.counter)

/-- The places of the late list (R97). -/
def latePlaces : Nat := 4

/-- A tag joins the late list behind the newest entry, the oldest removed first from a full list; a
tag already on it is not added again (R113). -/
def addLate (e : Tag) (late : List Tag) : List Tag :=
  if late.any (fun x => x.tag = e.tag) then late
  else (if late.length < latePlaces then late else late.drop 1) ++ [e]

/-! ### The examination of a seat -/

/-- Whether a charge in flight names a reader (R99). -/
def readerBusy (t : Tags) (reader : Nat) : Bool :=
  t.slots.any (fun o => o.any (fun e => e.reader = reader))

/-- The two checks of R99 for a CARD payer's reader. -/
def readerReady (s : State) (p : Payer) : Bool :=
  match p.kind with
  | .card reader _ => readerPresent s.line.roster reader && !readerBusy s.tags reader
  | .account _ => true

/-- The examination of a seat: the payer to charge, when every check of R99 passes. -/
def examine (s : State) (q : Seat) : Option (Fin 8 × Payer) :=
  let r := s.seat q
  if r.state = .due ∧ 0 < r.due ∧ r.payments.length < paymentPlaces then
    match resolve s.payers q with
    | none => none
    | some i =>
      match s.payers.get i with
      | none => none
      | some p =>
        if p.charging = none ∧ 0 < p.remaining ∧ readerReady s p then some (i, p) else none
  else none

/-! ### Starting -/

/-- The amount a charge asks for or a settlement credits (R102, R103). -/
def chargeAmount (due : Nat) (p : Payer) : Nat := min due p.remaining

/-- The tip ceiling of an amount: the image's percentage of it, within the remaining limit after it,
at most 99,999 (R102, R103). -/
def tipCeiling (t : Tariff) (amount : Nat) (p : Payer) : Nat :=
  min (min (amount * t.tipPercent / 100) (p.remaining - amount)) tipPlaces

/-- The in-flight slot and the main-domain part of a seat's charge record set (R96). -/
def setCharge (q : Seat) (c : Option Charge) (e : Option Tag) (s : State) : State :=
  (s.setCharges (s.charges.set q c)).setTags { s.tags with slots := s.tags.slots.set q e }

/-- A card charge starts (R102, steps 1 to 8). -/
def startCharge (q : Seat) (i : Fin 8) (p : Payer) (reader : Nat) (s : State) : State :=
  let tag := newTag s.tags
  let amount := chargeAmount (s.seat q).due p
  let ceiling := tipCeiling s.tariff amount p
  let t := s.setTags { s.tags with counter := tag }
  let t := send reader (.chargeRequest tag q amount ceiling) t
  let t := setCharge q
    (some { index := i, requested := amount, ceiling := ceiling, timer := t.tariff.chargeTimeout })
    (some { tag := tag, reader := reader }) t
  enterPaying q (beginCharge i q t)

/-- The tip of a settlement (R103, step 2). -/
def accountTip (t : Tariff) (amount : Nat) (p : Payer) : Nat :=
  if p.tipsAllowed then tipCeiling t amount p else 0

/-- An ACCOUNT payer settles a seat (R103). -/
def settle (q : Seat) (i : Fin 8) (p : Payer) (id : Nat) (s : State) : State :=
  let amount := chargeAmount (s.seat q).due p
  let tip := accountTip s.tariff amount p
  creditAccount q { method := .account, amount := amount, tip := tip, ref := some id }
    (settlePayer i (amount + tip) s)

/-- The pass at one seat: a settlement that leaves the seat DUE is followed by another examination, at
most as often as a payments list has places (R98). -/
def passSeat (q : Seat) : Nat → State → State
  | 0, s => s
  | fuel + 1, s =>
    match examine s q with
    | none => s
    | some (i, p) =>
      match p.kind with
      | .card reader _ => startCharge q i p reader s
      | .account id => passSeat q fuel (settle q i p id s)

/-- Examinations of one seat in one pass: six payments and the examination that finds the list full
(R98, R99). -/
def passFuel : Nat := paymentPlaces + 1

/-- The charge-start pass: the seats in ascending number (R98). -/
def chargePass (s : State) : State := allSeats.foldl (fun t q => passSeat q passFuel t) s

/-- A pass, and the display comparison if it changed a seat (R54, R98). -/
def passAndCompare (s : State) : State := compareIfChanged s (chargePass s)

/-! ### What a pass charges an account (for ACCOUNT_MAP's answer, R85) -/

/-- What the pass at one seat charges the payer at an index by settlements. -/
def settledAt (j : Fin 8) (q : Seat) : Nat → State → Nat
  | 0, _ => 0
  | fuel + 1, s =>
    match examine s q with
    | none => 0
    | some (i, p) =>
      match p.kind with
      | .card _ _ => 0
      | .account id =>
        let amount := chargeAmount (s.seat q).due p
        (if i = j then amount + accountTip s.tariff amount p else 0)
          + settledAt j q fuel (settle q i p id s)

/-- What a pass charges the payer at an index by settlements. -/
def settledInPass (j : Fin 8) (s : State) : Nat :=
  (allSeats.foldl
    (fun x q => (x.1 + settledAt j q passFuel x.2, passSeat q passFuel x.2)) (0, s)).1

/-! ### Ending without a result -/

/-- A seat's charge ends without a result: the tag joins the late list, the reader is sent a
CHARGE_CANCEL, the payer is removed, the seat returns to DUE, and a pass is run (R109). -/
def endWithoutResult (q : Seat) (s : State) : State :=
  match s.charges.get q, s.tags.slots.get q with
  | some c, some e =>
    let t := setCharge q none none s
    let t := t.setTags { t.tags with late := addLate e t.tags.late }
    let t := send e.reader (.chargeCancel e.tag) t
    let t := leavePaying q (endCharge c.index 0 false t)
    compareDisplays (chargePass t)
  | _, _ => s

/-- The seat whose charge in flight is at a reader (R111). -/
def chargeAtReader (s : State) (reader : Nat) : Option Seat :=
  allSeats.find? (fun q =>
    (s.charges.get q).isSome && (s.tags.slots.get q).any (fun e => e.reader = reader))

/-- A reader turns SILENT: the charge in flight at it ends as at its timer's expiry (R111). -/
def readerSilent (reader : Nat) (s : State) : State :=
  match chargeAtReader s reader with
  | some q => endWithoutResult q s
  | none => s

/-- ABORT_CHARGE(seat) (R110). -/
def abortChargeCommand (seat : Byte) (s : State) : State × Reply :=
  match seatArg seat with
  | none => refuse s .range
  | some q =>
    if (s.seat q).state = .paying then
      match s.tags.slots.get q with
      | some e => done (endWithoutResult q s) [byte e.tag]
      | none => refuse s .state
    else refuse s .state

/-! ### Results -/

/-- The card reference a payment entry takes from its payer (R106). -/
def payerRef (s : State) (i : Fin 8) : Option Nat :=
  match s.payers.get i with
  | some p =>
    match p.kind with
    | .card _ ref => some ref
    | .account id => some id
  | none => none

/-- The amount an approval credits (R105). -/
def approvedAmount (c : Charge) (amount : Nat) : Nat := min amount c.requested

/-- The tip an approval credits (R105). -/
def approvedTip (c : Charge) (amount tip : Nat) : Nat :=
  if approvedAmount c amount = 0 then 0 else min tip c.ceiling

/-- An APPROVED result for a seat's charge: clamped (R105), then completed (R106). -/
def approve (q : Seat) (c : Charge) (e : Tag) (amount tip : Nat) (s : State) : State :=
  let credited := approvedAmount c amount
  let tipped := approvedTip c amount tip
  let t :=
    if credited < amount ∨ tipped < tip then send e.reader (.adjust e.tag credited tipped) s else s
  let ref := payerRef t c.index
  let t := endCharge c.index (credited + tipped) (credited = c.requested) (setCharge q none none t)
  let t :=
    if 0 < credited then
      creditCard q { method := .card, amount := credited, tip := tipped, ref := ref } t
    else leavePaying q t
  compareDisplays (chargePass t)

/-- A DECLINED or CANCELLED result for a seat's charge (R108). -/
def decline (q : Seat) (c : Charge) (s : State) : State :=
  let t := endCharge c.index 0 false (setCharge q none none s)
  compareDisplays (chargePass (leavePaying q t))

/-- A result for a late-list entry, from its reader: an approval is voided, and the entry leaves the
list (R114). -/
def lateResult (e : Tag) (approved : Bool) (s : State) : State :=
  let t := if approved then countVoid (send e.reader (.void e.tag) s) else s
  t.setTags { t.tags with late := t.tags.late.filter (fun x => x.tag ≠ e.tag) }

/-- The seat whose charge in flight has a tag (R104). -/
def seatOfTag (s : State) (tag : Nat) : Option Seat :=
  allSeats.find? (fun q =>
    (s.charges.get q).isSome && (s.tags.slots.get q).any (fun e => e.tag = tag))

/-- A result for a seat's charge in flight, from an address (R104). -/
def chargeAnswer (q : Seat) (src outcome amount tip : Nat) (s : State) : State :=
  match s.charges.get q, s.tags.slots.get q with
  | some c, some e =>
    if e.reader = src then
      if outcome = 0 then approve q c e amount tip s else decline q c s
    else raiseCause .source src s
  | _, _ => s

/-- A CHARGE_RESULT from an address, matched by its tag (R104); outcomes are 0 APPROVED, 1 DECLINED,
2 CANCELLED (R190). -/
def takeResult (src tag outcome amount tip : Nat) (s : State) : State :=
  if 2 < outcome ∨ tag = 0 then s
  else
    match seatOfTag s tag with
    | some q => chargeAnswer q src outcome amount tip s
    | none =>
      match s.tags.late.find? (fun e => e.tag = tag) with
      | some e => if e.reader = src then lateResult e (outcome = 0) s else raiseCause .source src s
      | none => s

/-! ### The start -/

/-- Whether the roster lists an address as a READER (R119). -/
def listsReader (roster : List Station) (addr : Nat) : Bool :=
  roster.any (fun e => e.cls = .reader && e.addr = addr)

/-- A seat's in-flight slot at a warm start (R119). -/
def retireSlot (s : State) (q : Seat) : State :=
  match s.tags.slots.get q with
  | none => s
  | some e =>
    let t := s.setTags { s.tags with
      late := addLate e s.tags.late, slots := s.tags.slots.set q none }
    if listsReader t.line.roster e.reader then send e.reader (.chargeCancel e.tag) t else t

/-- The sequencer's start work (R119). -/
def retireSlots (s : State) : State := allSeats.foldl retireSlot s

end Sys2Proof.Machine
end

