-- ==== Sys2Proof/Machine/FareCommands.lean ====
section
/-! DEFINITION. The console commands of the fare engine: HIRE (R41, R42), STOP (R44), RESUME (R45),
CANCEL (R46), ADD_EXTRA (R47), SPLIT_EXTRA (R75, R76), CASH (R48) and WAIVE (R49). -/

namespace Sys2Proof.Machine

/-! ### HIRE -/

/-- What a hire reads of a band: F and c0; zeros where no band is selected, which no reachable state
hires at (R41; notes/assumptions/19.md). -/
def hireTerms (t : Tariff) (n : Nat) : Nat × Nat :=
  match bandAt t n with
  | some b => (b.flagFall, b.freeSteps)
  | none => (0, 0)

/-- The record of a seat hired at a band (R42, steps 1 to 7). -/
def hiredSeat (s : State) (pool : Bool) : SeatRecord :=
  let terms := hireTerms s.tariff s.band.selected
  { vacantSeat with
    state := .hired, fresh := true, exclusive := !pool, activeBand := s.band.selected,
    bandsUsed := [s.band.selected], flagFall := terms.1, fare := terms.1, freeAtHire := terms.2,
    freeLeft := terms.2, hireClock := s.clock.time, maxRiders := 1 }

/-- The first check of R41 that fails, if one does. -/
def hireRefusal (s : State) (q : Seat) (pool : Bool) : Option ResultCode :=
  if s.accounts.shift.state ≠ .opened then some .shift
  else if s.hold.held then some .hold
  else if !(s.seat q).vacant then some .state
  else if !pool && othersOccupied s.seats q then some .exclusive
  else if exclusiveOccupied s.seats then some .exclusive
  else none

/-- HIRE(seat, pool) (R41, R42). -/
def hireCommand (seat pool : Byte) (s : State) : State × Reply :=
  match seatArg seat, flagArg pool with
  | some q, some p =>
    match hireRefusal s q p with
    | some c => refuse s c
    | none =>
      let r := hiredSeat s p
      done (compareDisplays (changeSeat q r s))
        (byte (seatNumber q) :: byte r.activeBand :: bigEndian r.fare 3)
  | _, _ => refuse s .range

/-! ### STOP, RESUME and CANCEL -/

/-- A HIRED seat's record at STOP (R44). -/
def stoppedSeat (time : DayTime) (r : SeatRecord) : SeatRecord :=
  { r with state := .due, stopClock := some time, fresh := false }

/-- A HIRED seat is stopped: it enters DUE, closes if it owes nothing, and a pass is run (R44, R98). -/
def stopSeat (q : Seat) (s : State) : State :=
  compareDisplays
    (chargePass (closeIfPaid q (changeSeat q (stoppedSeat s.clock.time (s.seat q)) s)))

/-- STOP(seat) (R44); the due is the one that stands at the stop (notes/assumptions/9.md). -/
def stopCommand (seat : Byte) (s : State) : State × Reply :=
  match seatArg seat with
  | none => refuse s .range
  | some q =>
    let r := s.seat q
    match r.state with
    | .hired => done (stopSeat q s) (bigEndian r.due 3)
    | .due => done s (bigEndian r.due 3)
    | .paying => refuse s .busy
    | .vacant => refuse s .state

/-- The active band at a resume: a band the image in force does not define gives way to the selected
band (R45). -/
def resumeBand (s : State) (r : SeatRecord) : SeatRecord :=
  if s.tariff.bands.length < r.activeBand then
    { r with activeBand := s.band.selected, bandsUsed := useBand s.band.selected r.bandsUsed }
  else r

/-- A DUE seat's record at RESUME (R45). -/
def resumedSeat (s : State) (r : SeatRecord) : SeatRecord :=
  resumeBand s { r with state := .hired, fresh := true, stopClock := none }

/-- The first check of R45 that fails, if one does. -/
def resumeRefusal (s : State) (q : Seat) : Option ResultCode :=
  let r := s.seat q
  if r.state = .paying then some .busy
  else if r.state ≠ .due then some .state
  else if r.payments ≠ [] then some .state
  else if s.accounts.shift.state = .closed then some .shift
  else if s.hold.held then some .hold
  else none

/-- RESUME(seat) (R45). -/
def resumeCommand (seat : Byte) (s : State) : State × Reply :=
  match seatArg seat with
  | none => refuse s .range
  | some q =>
    match resumeRefusal s q with
    | some c => refuse s c
    | none =>
      let r := resumedSeat s (s.seat q)
      done (compareDisplays (changeSeat q r s)) (bigEndian r.fare 3)

/-- The charged steps of a record: the steps less the free steps used (R46). -/
def chargedSteps (r : SeatRecord) : Nat := r.steps - (r.freeAtHire - r.freeLeft)

/-- CANCEL(seat) (R46). -/
def cancelCommand (seat : Byte) (s : State) : State × Reply :=
  match seatArg seat with
  | none => refuse s .range
  | some q =>
    let r := s.seat q
    if r.state ≠ .hired then refuse s .state
    else if 0 < chargedSteps r ∨ 0 < r.extras.total then refuse s .charged
    else
      done (compareDisplays (closeSeat q .cancelled (s.setSeat q { r with fare := 0 }))) []

/-! ### Extras -/

/-- The most an extras total holds (R47). -/
def maxExtras : Nat := 99999

/-- The part of an amount that a record's extras take (R47). -/
def extraApplied (amount : Nat) (r : SeatRecord) : Nat := min amount (maxExtras - r.extras.total)

/-- A record with an amount applied to its extras of a kind (R47). -/
def applyExtra (k : ExtraKind) (amount : Nat) (r : SeatRecord) : SeatRecord :=
  { r with extras := r.extras.add k (extraApplied amount r) }

/-- An extra applied to a seat; a DUE seat whose due grows is followed by a pass (R47, R98). -/
def addExtra (q : Seat) (k : ExtraKind) (amount : Nat) (s : State) : State :=
  let r := s.seat q
  let t := s.setSeat q (applyExtra k amount r)
  compareIfChanged s (if r.state = .due ∧ 0 < extraApplied amount r then chargePass t else t)

/-- ADD_EXTRA(seat, kind, amount) (R47). -/
def addExtraCommand (seat kind : Byte) (amount : Word24) (s : State) : State × Reply :=
  match seatArg seat, kindArg kind with
  | some q, some k =>
    let n := amount.toNat
    let r := s.seat q
    if !inRange 1 9999 n then refuse s .range
    else if r.vacant then refuse s .state
    else
      done (addExtra q k n s)
        (bigEndian (extraApplied n r) 2 ++ bigEndian (applyExtra k n r).extras.total 3)
  | _, _ => refuse s .range

/-- How many HIRED seats stand before a seat in ascending number. -/
def hiredBefore (v : PerSeat SeatRecord) (q : Seat) : Nat :=
  (allSeats.filter (fun p => seatNumber p < seatNumber q && (v.get p).hired)).length

/-- A seat's share of an amount: the quotient, and one of the remainder's units for each of the
lowest-numbered HIRED seats; no share for a seat that is not HIRED (R75). -/
def splitShare (v : PerSeat SeatRecord) (amount : Nat) (q : Seat) : Nat :=
  let k := riders v
  if (v.get q).hired then
    amount / k + (if hiredBefore v q < amount % k then 1 else 0)
  else 0

/-- What a split applies to a seat (R76). -/
def splitApplied (v : PerSeat SeatRecord) (amount : Nat) (q : Seat) : Nat :=
  extraApplied (splitShare v amount q) (v.get q)

/-- A seat's record after a split (R76). -/
def splitSeat (v : PerSeat SeatRecord) (k : ExtraKind) (amount : Nat) (q : Seat) : SeatRecord :=
  applyExtra k (splitShare v amount q) (v.get q)

/-- The seat records after a split (R76). -/
def splitSeats (v : PerSeat SeatRecord) (k : ExtraKind) (amount : Nat) : PerSeat SeatRecord :=
  ⟨splitSeat v k amount .one, splitSeat v k amount .two, splitSeat v k amount .three,
    splitSeat v k amount .four⟩

/-- The total that a split applies (R76). -/
def splitTotal (v : PerSeat SeatRecord) (amount : Nat) : Nat :=
  (allSeats.map (splitApplied v amount)).sum

/-- SPLIT_EXTRA(kind, amount) (R75, R76). -/
def splitExtraCommand (kind : Byte) (amount : Word24) (s : State) : State × Reply :=
  let n := amount.toNat
  match kindArg kind with
  | none => refuse s .range
  | some k =>
    if !inRange 1 9999 n then refuse s .range
    else if riders s.seats = 0 then refuse s .state
    else
      done (compareIfChanged s (s.setSeats (splitSeats s.seats k n)))
        (bigEndian (splitTotal s.seats n) 2
          ++ (allSeats.map (fun q => bigEndian (splitApplied s.seats n q) 2)).flatten)

/-! ### Cash and waivers -/

/-- The payment entry of a CASH (R48, steps 1 to 3). -/
def cashPayment (tendered tip : Nat) (r : SeatRecord) : Payment :=
  { method := .cash, amount := min tendered r.due, tip := min tip tipPlaces, ref := none }

/-- A seat still DUE after an event is followed by a pass (R98). -/
def passIfDue (q : Seat) (s : State) : State :=
  if (s.seat q).state = .due then chargePass s else s

/-- A cash payment credited to a DUE seat (R48). -/
def creditCash (q : Seat) (p : Payment) (s : State) : State :=
  compareDisplays (passIfDue q (closeIfPaid q (s.setSeat q (addPayment p (s.seat q)))))

/-- The first check of R48 that fails, if one does. -/
def cashRefusal (r : SeatRecord) : Option ResultCode :=
  if r.state = .paying then some .busy
  else if r.state ≠ .due then some .state
  else if paymentPlaces ≤ r.payments.length then some .limit
  else none

/-- CASH(seat, tendered, tip) (R48). -/
def cashCommand (seat : Byte) (tendered tip : Word24) (s : State) : State × Reply :=
  match seatArg seat with
  | none => refuse s .range
  | some q =>
    if !inRange 1 999999 tendered.toNat || !inRange 0 999999 tip.toNat then refuse s .range
    else
      match cashRefusal (s.seat q) with
      | some c => refuse s c
      | none =>
        let p := cashPayment tendered.toNat tip.toNat (s.seat q)
        done (creditCash q p s)
          (bigEndian p.amount 3 ++ bigEndian (tendered.toNat - p.amount) 3 ++ bigEndian p.tip 3)

/-- WAIVE(seat) (R49). -/
def waiveCommand (seat : Byte) (s : State) : State × Reply :=
  match seatArg seat with
  | none => refuse s .range
  | some q =>
    let r := s.seat q
    match r.state with
    | .paying => refuse s .busy
    | .hired | .vacant => refuse s .state
    | .due =>
      let t := s.setSeat q { r with waived := r.waived + r.due }
      done (compareDisplays (closeSeat q .settled t)) (bigEndian r.due 3)

end Sys2Proof.Machine
end

