-- ==== Sys2Proof/Machine/PayerCommands.lean ====
section
/-! DEFINITION. Installing and removing payers from outside: card presentation (R82, R83),
ACCOUNT_MAP (R85), UNMAP (R87) and FLUSH (R88), each with the charge-start pass of its notice (R98). -/

namespace Sys2Proof.Machine

/-- The most a payer's limit may be (R78). -/
def maxLimit : Nat := 999999

/-- A payer as it is installed: spent 0 and IDLE (R78). -/
def newPayer (kind : PayerKind) (sc : Scope) (limit : Nat) (tips : Bool) : Payer :=
  { kind := kind, scope := sc, limit := limit, spent := 0, tipsAllowed := tips, charging := none }

/-! ### Cards -/

/-- The index of a repeat: the scope is served by the same card at the same reader (R83). -/
def repeatIndex (m : PayerMap) (sc : Scope) (reader ref : Nat) : Option (Fin 8) :=
  match findScope m sc with
  | none => none
  | some i => if (m.get i).any (fun p => p.kind = .card reader ref) then some i else none

/-- The CARD_REPLY to a reader (R82). -/
def cardReply (reader : Nat) (code : ResultCode) (index : Nat) (s : State) : State :=
  send reader (.cardReply code index) s

/-- A card is installed, answered, and its notice given (R82). -/
def installCard (i : Fin 8) (sc : Scope) (reader ref limit : Nat) (s : State) : State :=
  passAndCompare
    (cardReply reader .ok i.val (setPayer i (some (newPayer (.card reader ref) sc limit true)) s))

/-- A card presented at a reader for a scope (R82, R83). -/
def presentCard (reader : Nat) (sc : Scope) (ref limit : Nat) (s : State) : State :=
  if !inRange 1 maxLimit limit then cardReply reader .range 0 s
  else if !scopeOccupied s.seats sc then cardReply reader .state 0 s
  else
    match repeatIndex s.payers sc reader ref with
    | some i => cardReply reader .ok i.val s
    | none =>
      if (findScope s.payers sc).isSome then cardReply reader .existing 0 s
      else
        match lowestFree s.payers with
        | none => cardReply reader .full 0 s
        | some i => installCard i sc reader ref limit s

/-! ### Accounts -/

/-- The first check of R85 after the ranges that fails, if one does, else the index to install at. -/
def accountPlace (s : State) (sc : Scope) : Except ResultCode (Fin 8) :=
  if !scopeOccupied s.seats sc then .error .state
  else if (findScope s.payers sc).isSome then .error .existing
  else
    match lowestFree s.payers with
    | none => .error .full
    | some i => .ok i

/-- What ACCOUNT_MAP's answer says of the payer after the pass: whether it is still installed, and its
remaining limit, which for a removed payer is the limit less what the pass charged it
(notes/assumptions/10.md). -/
def mappedBytes (i : Fin 8) (limit spent : Nat) (s : State) : List Byte :=
  match s.payers.get i with
  | some p => byte i.val :: 1 :: bigEndian p.remaining 3
  | none => byte i.val :: 0 :: bigEndian (limit - spent) 3

/-- An account is installed at an index and its notice given (R85). -/
def installAccount (i : Fin 8) (p : Payer) (s : State) : State × Reply :=
  let t := setPayer i (some p) s
  let u := passAndCompare t
  done u (mappedBytes i p.limit (settledInPass i t) u)

/-- The most an account id may be (R78). -/
def maxAccount : Nat := 99999999

/-- ACCOUNT_MAP(scope, account id, limit, tips allowed) (R85). -/
def accountMapCommand (scope : Byte) (account : Word32) (limit : Word24) (tips : Byte) (s : State) :
    State × Reply :=
  match scopeArg scope, flagArg tips with
  | some sc, some tip =>
    if !inRange 0 maxAccount account.toNat || !inRange 1 maxLimit limit.toNat then refuse s .range
    else
      match accountPlace s sc with
      | .error c => refuse s c
      | .ok i => installAccount i (newPayer (.account account.toNat) sc limit.toNat tip) s
  | _, _ => refuse s .range

/-! ### Removals -/

/-- UNMAP(index) (R87). -/
def unmapCommand (index : Byte) (s : State) : State × Reply :=
  match indexArg index with
  | none => refuse s .range
  | some i =>
    match s.payers.get i with
    | none => refuse s .nothing
    | some p =>
      if p.charging.isSome then refuse s .busy
      else done (passAndCompare (setPayer i none s)) (payerBytes i false p)

/-- The payer a FLUSH leaves at an index: one that is CHARGING (R88). -/
def flushed (o : Option Payer) : Option Payer := o.filter (fun p => p.charging.isSome)

/-- The indexes that hold a payer. -/
def installedAt (m : PayerMap) : List (Fin 8) := allIndexes.filter (fun i => (m.get i).isSome)

/-- FLUSH (R88). -/
def flushCommand (s : State) : State × Reply :=
  let m := s.payers.map flushed
  let before := installedAt s.payers
  let kept := installedAt m
  let t := s.setPayers m
  done (if kept.length < before.length then passAndCompare t else t)
    [byte (before.length - kept.length), byte kept.length,
      byte (bitsOf (allIndexes.map (fun i => (m.get i).isSome)))]

end Sys2Proof.Machine
end

