-- ==== Sys2Proof/Machine/Image.lean ====
section
/-! DEFINITION. The tariff image: its layout, its checks (R7 to R13), the derived step sizes (R15), the
fallback (R14), and what load completion hands to the blocks. -/

namespace Sys2Proof.Machine

/-- What a start brings into force: the tariff store's part, the roster, and the mask and severity of
each cause (R5). -/
structure Loaded where
  tariff : Tariff
  roster : List Station
  masked : PerCause Bool
  note : PerCause Bool
deriving DecidableEq, Repr

/-! ### Fields -/

/-- The byte at an offset. -/
def u8 (b : List Byte) (off : Nat) : Nat := (b.getD off 0).toNat

/-- The two bytes at an offset, high byte first (R8, image layout). -/
def u16 (b : List Byte) (off : Nat) : Nat := u8 b off * 256 + u8 b (off + 1)

/-- The length of the image (R7). -/
def imageLength : Nat := 147

/-- The offsets of the first entries of an area that are in use. -/
def offsets (base size count : Nat) : List Nat := (List.range count).map (fun i => base + size * i)

/-- The class of a roster entry's code (image layout). -/
def classOf : Nat → Option StationClass
  | 0 => some .console
  | 1 => some .driverPanel
  | 2 => some .seatPanel
  | 3 => some .reader
  | 4 => some .nav
  | 5 => some .aux
  | _ => none

/-- The edge mode of its code (image layout). -/
def edgeOf : Nat → EdgeMode
  | 0 => .falling
  | 1 => .rising
  | _ => .both

/-- What the prescaler divides by, of its code (image layout). -/
def prescaleOf : Nat → Nat
  | 0 => 1
  | 1 => 2
  | 2 => 4
  | _ => 16

/-- The unit of a timeout byte's scale, in milliseconds (R12). -/
def scaleOf : Nat → Nat
  | 0 => 10
  | 1 => 100
  | 2 => 1000
  | _ => 10000

/-- A timeout byte in milliseconds: its default for 00, none where it rejects the image (R12). -/
def timeoutOf (lo hi default n : Nat) : Option Nat :=
  let product := n % 64 * scaleOf (n / 64)
  if n = 0 then some default
  else if n % 64 ≠ 0 ∧ lo ≤ product ∧ product ≤ hi then some product
  else none

/-- The charge timeout, 10 to 250 s, 60 s by default (R12). -/
def chargeTimeoutOf : Nat → Option Nat := timeoutOf 10000 250000 60000

/-- The intercom guard time, 50 to 500 ms, 150 ms by default (R12). -/
def guardTimeOf : Nat → Option Nat := timeoutOf 50 500 150

/-- The seat talk limit, 5 to 120 s, 30 s by default (R12). -/
def talkLimitOf : Nat → Option Nat := timeoutOf 5000 120000 30000

/-- Whether a cause setting masks its cause; the default 0 does not (R13). -/
def settingMasked (n : Nat) : Bool := n = 3 || n = 4

/-- The severity NOTE of a cause setting, with the cause's default for 0 (R13). -/
def settingNote (default : Bool) (n : Nat) : Bool :=
  if n = 0 then default else n = 2 || n = 4

/-! ### The parts of an image -/

/-- The roster entries in use, with their class codes (image layout). -/
def rosterEntries (b : List Byte) : List (Nat × Nat × Nat) :=
  (offsets 6 3 (u8 b 5)).map (fun o => (u8 b o, u8 b (o + 1), u8 b (o + 2)))

/-- The roster in image order, each entry SILENT (R5, R202). -/
def rosterOf (b : List Byte) : List Station :=
  (rosterEntries b).filterMap (fun e =>
    (classOf e.2.1).map (fun c => { addr := e.1, cls := c, binding := e.2.2, timer := none }))

/-- e of the image's edge mode (R10). -/
def imageEdge (b : List Byte) : Nat := if u8 b 44 = 2 then 2 else 1

/-- p of the image's prescale code (R10). -/
def imagePrescale (b : List Byte) : Nat := prescaleOf (u8 b 45)

/-- Np of a step length: the counts in it, to the nearest whole count (R15). -/
def deriveNp (kRaw e p length : Nat) : Nat := (kRaw * e * length + 500 * p) / (1000 * p)

/-- Nt of a time step: its 200 ms intervals (R15). -/
def deriveNt (timeStep : Nat) : Nat := timeStep * 5

/-- A band with its derived step sizes (R15). -/
def deriveBand (kRaw e p flagFall freeSteps amount length timeStep : Nat) : Band :=
  let np := deriveNp kRaw e p length
  let nt := deriveNt timeStep
  { flagFall := flagFall, freeSteps := freeSteps, amount := amount, length := length,
    timeStep := timeStep, np := np, nt := nt, size := np * nt * 1000 }

/-- The band at an offset. -/
def bandFrom (b : List Byte) (o : Nat) : Band :=
  deriveBand (u16 b 42) (imageEdge b) (imagePrescale b) (u16 b o) (u8 b (o + 2)) (u16 b (o + 3))
    (u16 b (o + 5)) (u16 b (o + 7))

/-- The bands in use (image layout). -/
def bandsOf (b : List Byte) : List Band := (offsets 49 9 (u8 b 48)).map (bandFrom b)

/-- The share table (image layout). -/
def sharesOf (b : List Byte) : List Nat := (offsets 85 2 4).map (u16 b)

/-- The schedule entries in use (image layout). -/
def scheduleOf (b : List Byte) : List ScheduleEntry :=
  (offsets 94 4 (u8 b 93)).map (fun o =>
    { days := BitVec.ofNat 8 (u8 b o), start := u16 b (o + 1), band := u8 b (o + 3) })

/-- The masks of an image's cause settings (R13). -/
def masksOf (b : List Byte) : PerCause Bool :=
  { causesOf false with
    clock := settingMasked (u8 b 138), overrun := settingMasked (u8 b 139),
    pulseLoss := settingMasked (u8 b 140), lamp := settingMasked (u8 b 141),
    source := settingMasked (u8 b 142), brk := settingMasked (u8 b 143),
    peer := settingMasked (u8 b 144) }

/-- The severities of an image's cause settings (R13). -/
def notesOf (b : List Byte) : PerCause Bool :=
  { causesOf false with
    clock := settingNote defaultNote.clock (u8 b 138),
    overrun := settingNote defaultNote.overrun (u8 b 139),
    pulseLoss := settingNote defaultNote.pulseLoss (u8 b 140),
    lamp := settingNote defaultNote.lamp (u8 b 141),
    source := settingNote defaultNote.source (u8 b 142),
    brk := settingNote defaultNote.brk (u8 b 143),
    peer := settingNote defaultNote.peer (u8 b 144) }

/-! ### The checks -/

/-- The image is there: its mark, its length, and all its bytes (R7). -/
def imagePresent (b : List Byte) : Bool :=
  b.length = imageLength && u16 b 0 = 0x5A3C && u16 b 2 = imageLength

/-- The CRC over every byte before it (R8). -/
def imageCrc (b : List Byte) : Nat := (crc16 (b.take (imageLength - 2))).toNat

/-- The stored CRC is the computed one (R8). -/
def crcOk (b : List Byte) : Bool := u16 b 145 = imageCrc b

/-- The fields of the whole image are in their ranges (R9, image layout). -/
def rangesOk (b : List Byte) : Bool :=
  inRange 1 62 (u8 b 4) && inRange 0 12 (u8 b 5) && inRange 500 40000 (u16 b 42)
    && inRange 0 2 (u8 b 44) && inRange 0 3 (u8 b 45) && inRange 20 500 (u16 b 46)
    && inRange 1 4 (u8 b 48) && inRange 0 8 (u8 b 93) && inRange 0 1 (u8 b 126)
    && inRange 0 50 (u8 b 127) && inRange 50 300 (u16 b 131) && inRange 2 20 (u8 b 133)
    && inRange 1 20 (u8 b 134) && inRange 1 20 (u8 b 135) && (u8 b 136 ≤ u8 b 137)

/-- A roster entry stands on its own: address, class and binding (R9). -/
def entryOk (own : Nat) (e : Nat × Nat × Nat) : Bool :=
  inRange 1 62 e.1 && e.1 ≠ own && inRange 0 5 e.2.1 && inRange 0 5 e.2.2
    && (if e.2.1 = 2 then inRange 1 4 e.2.2 else if e.2.1 = 3 then e.2.2 ≠ 0 else e.2.2 = 0)

/-- Two roster entries may stand together: other addresses, and, for two seat panels or two readers,
other bindings (R9). -/
def entriesApart (e f : Nat × Nat × Nat) : Bool :=
  e.1 ≠ f.1 && !((e.2.1 = 2 || e.2.1 = 3) && e.2.1 = f.2.1 && e.2.2 = f.2.2)

/-- A roster has at most so many entries of a class (R9). -/
def atMost (es : List (Nat × Nat × Nat)) (cls most : Nat) : Bool :=
  (es.filter (fun e => e.2.1 = cls)).length ≤ most

/-- The roster's checks (R9). -/
def rosterOk (b : List Byte) : Bool :=
  let es := rosterEntries b
  es.all (entryOk (u8 b 4)) && decide (es.Pairwise (fun e f => entriesApart e f = true))
    && atMost es 0 1 && atMost es 1 1 && atMost es 4 1 && atMost es 5 4

/-- The pulse constants' check: K_raw × e against 250 × p and 20,000 × p (R10). -/
def pulsesOk (kRaw e p : Nat) : Bool := 250 * p ≤ kRaw * e && kRaw * e ≤ 20000 * p

/-- A band's ranges (image layout, R11). -/
def bandOk (d : Band) : Bool :=
  inRange 0 9999 d.flagFall && inRange 0 99 d.freeSteps && inRange 1 9999 d.amount
    && inRange 10 2000 d.length && inRange 1 600 d.timeStep

/-- The share table's check (R11). -/
def sharesOk (v : List Nat) : Bool :=
  v.head? = some 1000 && v.all (inRange 100 1000) && decide (v.Pairwise (fun x y => y ≤ x))

/-- A schedule entry's ranges (image layout, R11). -/
def scheduleEntryOk (bandCount : Nat) (e : ScheduleEntry) : Bool :=
  inRange 1 127 e.days.toNat && inRange 0 1439 e.start && inRange 1 bandCount e.band

/-- The timeouts and the cause settings (R12, R13). -/
def settingsOk (b : List Byte) : Bool :=
  (chargeTimeoutOf (u8 b 128)).isSome && (guardTimeOf (u8 b 129)).isSome
    && (talkLimitOf (u8 b 130)).isSome && (offsets 138 1 7).all (fun o => u8 b o ≤ 4)

/-- The image passes every check of R7 to R13. -/
def imageOk (b : List Byte) : Bool :=
  imagePresent b && crcOk b && rangesOk b && rosterOk b
    && pulsesOk (u16 b 42) (imageEdge b) (imagePrescale b) && (bandsOf b).all bandOk
    && sharesOk (sharesOf b) && (scheduleOf b).all (scheduleEntryOk (u8 b 48)) && settingsOk b

/-! ### What comes into force -/

/-- The tariff store's part of a good image. -/
def tariffOf (b : List Byte) : Tariff :=
  { good := true, identity := imageCrc b, own := u8 b 4, kRaw := u16 b 42, edge := edgeOf (u8 b 44),
    prescale := imagePrescale b, minWidth := u16 b 46, bands := bandsOf b, shares := sharesOf b,
    schedule := scheduleOf b, manualAllowed := u8 b 126 = 1, tipPercent := u8 b 127,
    chargeTimeout := (chargeTimeoutOf (u8 b 128)).getD 0, guardTime := (guardTimeOf (u8 b 129)).getD 0,
    talkLimit := (talkLimitOf (u8 b 130)).getD 0, vMin := u16 b 131, nPlaus := u8 b 133,
    dayDuty := u8 b 134, nightDuty := u8 b 135, nightBelow := u8 b 136, dayAbove := u8 b 137 }

/-- The fallback of R14. -/
def tariffFallback : Tariff :=
  { tariffStart with
    own := 62, chargeTimeout := 60000, guardTime := 150, talkLimit := 30000, vMin := 100,
    nPlaus := 5, dayDuty := 20, nightDuty := 8, nightBelow := 40, dayAbove := 60 }

/-- What the fallback brings into force (R14). -/
def fallback : Loaded :=
  { tariff := tariffFallback, roster := [], masked := causesOf false, note := defaultNote }

/-- What the bytes that the image read gave bring into force: the image they hold, or the fallback
(R7 to R14). -/
def loadImage (bytes : List Byte) : Loaded :=
  let b := bytes.take imageLength
  if imageOk b then
    { tariff := tariffOf b, roster := rosterOf b, masked := masksOf b, note := notesOf b }
  else fallback

end Sys2Proof.Machine
end

