-- ==== Sys2Proof/Machine/Band.lean ====
section
/-! DEFINITION. The clock and the band selector: the clock's second (R16), SET_CLOCK (R18), the
evaluation of the band schedule (R19) and SET_BAND (R20). -/

namespace Sys2Proof.Machine

/-- The seconds of a day (R16). -/
def daySeconds : Nat := 86400

/-- The clock a second later (R16). -/
def nextSecond (t : DayTime) : DayTime :=
  if t.seconds + 1 < daySeconds then { t with seconds := t.seconds + 1 }
  else { day := if t.day = 7 then 1 else t.day + 1, seconds := 0 }

/-- The day before a day (R19). -/
def dayBefore (d : Nat) : Nat := if d = 1 then 7 else d - 1

/-- Whether a schedule entry's day set includes a day (image layout). -/
def coversDay (e : ScheduleEntry) (d : Nat) : Bool := e.days.getLsbD (d - 1)

/-- The entry with the latest start minute, the last such entry in image order (R19). -/
def latestEntry (es : List ScheduleEntry) : Option ScheduleEntry :=
  es.foldl
    (fun best e =>
      match best with
      | none => some e
      | some b => if b.start ≤ e.start then some e else some b) none

/-- The band that the evaluation selects, 0 for none (R19). -/
def evaluateBand (t : Tariff) (c : Clock) : Nat :=
  let minute := c.time.seconds / 60
  if !t.good then 0
  else if !c.valid || t.schedule.isEmpty then 1
  else
    match latestEntry
        (t.schedule.filter (fun e => coversDay e c.time.day && e.start ≤ minute)) with
    | some e => e.band
    | none =>
      match latestEntry (t.schedule.filter (fun e => coversDay e (dayBefore c.time.day))) with
      | some e => e.band
      | none => 1

/-- The selection evaluated in AUTO; in MANUAL no evaluation is made (R19). -/
def evaluateAuto (s : State) : State :=
  match s.band.mode with
  | .auto => s.setBand { s.band with selected := evaluateBand s.tariff s.clock }
  | .manual => s

/-- The clock's value passed to the band selector where it is a minute boundary, while the main domain
runs (R16, R19). -/
def passMinute (s : State) : State :=
  if s.start.loaded && s.clock.time.seconds % 60 = 0 then evaluateAuto s else s

/-- AUTO taken, and the selection evaluated (R5, R20). -/
def selectAuto (s : State) : State := evaluateAuto (s.setBand { s.band with mode := .auto })

/-- SET_CLOCK(day, seconds) (R18). -/
def setClockCommand (day : Byte) (seconds : Word24) (s : State) : State × Reply :=
  if !inRange 1 7 day.toNat || !inRange 0 86399 seconds.toNat then refuse s .range
  else if !allVacant s.seats then refuse s .state
  else
    let t := s.setClock { time := { day := day.toNat, seconds := seconds.toNat }, valid := true }
    done (evaluateAuto (reportCondition .clock false t)) []

/-- SET_BAND(n) (R20). -/
def setBandCommand (n : Byte) (s : State) : State × Reply :=
  if 4 < n.toNat then refuse s .range
  else if n.toNat = 0 then done (selectAuto s) []
  else if !s.tariff.manualAllowed then refuse s .state
  else if s.tariff.bands.length < n.toNat then refuse s .range
  else done (s.setBand { mode := .manual, selected := n.toNat }) []

end Sys2Proof.Machine
end

