-- ==== Sys2Proof/Machine/Motion.lean ====
section
/-! DEFINITION. The motion unit: filter, edge selector and prescaler (R21 to R24), the interval expiry
(R26 to R28), the speed window (R29, R30) and the plausibility check (R33 to R36). -/

namespace Sys2Proof.Machine

/-! ### The pulse input chain -/

/-- The PULSE pin takes a level: a running filter begins a change away from its settled level, or
discards it (R21). -/
def pulseLevel (level : Level) (s : State) : State :=
  let t := s.setPins { s.pins with pulse := level }
  match t.motion.settled with
  | none => t
  | some l => t.setMotion { t.motion with changing := decide (level ≠ l) }

/-- Whether the edge selector passes the settled edge to a level (R22). -/
def passesEdge (mode : EdgeMode) (level : Level) : Bool :=
  match mode with
  | .both => true
  | .falling => level = .low
  | .rising => level = .high

/-- The most the interval counter holds (R24). -/
def maxCount : Nat := 255

/-- The prescaler takes a passed edge (R23), and the interval counter a count (R24). -/
def countEdge (prescale : Nat) (m : Motion) : Motion :=
  if m.residue + 1 < prescale then { m with residue := m.residue + 1 }
  else { m with residue := 0, counter := heldAdd maxCount m.counter 1 }

/-- The pin has held its new level for the minimum width: a settled edge is taken (R21, R22). -/
def settlePulse (s : State) : State :=
  if s.motion.changing then
    let m := { s.motion with settled := some s.pins.pulse, changing := false }
    s.setMotion (if passesEdge s.tariff.edge s.pins.pulse then countEdge s.tariff.prescale m else m)
  else s

/-! ### The interval -/

/-- The speed window with a new count, the oldest removed first from a full one (R29). -/
def pushWindow (dp : Nat) (w : List Nat) : List Nat :=
  (if w.length < 5 then w else w.drop 1) ++ [dp]

/-- The pulse speed of a window, in 0.1 km/h (R30). -/
def pulseSpeed (t : Tariff) (w : List Nat) : Nat :=
  min max16 (w.sum * 36000 * t.prescale / pulsesPerKm t)

/-- Step 4 of the expiry (R26). -/
def updateSpeed (dp : Nat) (s : State) : State :=
  let w := pushWindow dp s.motion.window
  s.setMotion { s.motion with window := w, speed := pulseSpeed s.tariff w }

/-- The plausibility count becomes 0 and the PULSE_LOSS condition absent (R35). -/
def clearPulseLoss (s : State) : State :=
  reportCondition .pulseLoss false (s.setMotion { s.motion with plausibility := 0 })

/-- The interval timer expires: the five steps of R26. DESIGN CHOICE: the fare engine and the shift
accounts take the delivery in one step, so a command is before both or after both, of the orders that
R172 allows (notes/assumptions/33.md). -/
def expireInterval (s : State) : State :=
  if s.motion.intervalTimer.isSome then
    let dp := s.motion.counter
    let t := s.setMotion { s.motion with counter := 0 }
    let t := if dp = maxCount then raiseCause .overrun t.tariff.own t else t
    let t := updateSpeed dp (deliverDistance dp (deliverFare dp t))
    if 0 < dp then clearPulseLoss t else t
  else s

/-! ### The plausibility check -/

/-- A report above the threshold while the pulse speed is 0 (R33, R34). -/
def doubtPulses (s : State) : State :=
  if s.motion.plausibility < s.tariff.nPlaus then
    let n := s.motion.plausibility + 1
    let t := s.setMotion { s.motion with plausibility := n }
    if n = t.tariff.nPlaus then
      reportCondition .pulseLoss true (raiseCause .pulseLoss t.tariff.own t)
    else t
  else s

/-- The speed part of a NAV_REPORT (R33). -/
def navSpeed (valid : Bool) (speed : Nat) (s : State) : State :=
  if !valid then s.setMotion { s.motion with plausibility := 0 }
  else if speed < s.tariff.vMin then clearPulseLoss s
  else if 0 < s.motion.speed then s.setMotion { s.motion with plausibility := 0 }
  else doubtPulses s

/-- The NAV station turns SILENT: the count is 0 and the condition is left (R36). -/
def navSilent (s : State) : State := s.setMotion { s.motion with plausibility := 0 }

end Sys2Proof.Machine
end

