-- ==== Sys2Proof/Machine/Start.lean ====
section
/-! DEFINITION. Supplies and starts: the fall and rise of PGOOD (R1, R3), RST (R3), the marker (R2), a
start's steps 1 to 3 (R4), and load completion with the blocks' start work (R5, R37, R57, R58, R119,
R138, R151, R167, R202). -/

namespace Sys2Proof.Machine

/-! ### Steps 1 to 3 (R4) -/

/-- Every main-domain item at its start value (R4, step 1; R37, R55, R95, R138, R151, R166, R202). -/
def clearMain (s : State) : State :=
  { s with
    tariff := tariffStart, band := bandStart, motion := motionStart, payers := indexesOf none,
    charges := seatsOf none, intercom := intercomStart, sign := signStart, monitor := monitorStart,
    display := seatsOf none, line := lineStart }

/-- Every retained item at its initial value, and the marker valid (R4, step 2, cold start; R17, R56,
R118, R166, R185). DESIGN CHOICE: the marker is written valid also while VBAK is still below its level,
which is no item of the state (notes/assumptions/29.md). -/
def coldInit (s : State) : State :=
  { s with
    clock := clockCold, seats := seatsOf vacantSeat, tags := tagsCold, hold := holdCold,
    accounts := accountsCold, markerValid := true }

/-- The kind of the start that reads a marker (R2, R3). -/
def startKindOf (marker : Bool) : StartKind := if marker then .warm else .cold

/-- The retained store after step 2 (R4). -/
def readMarker (s : State) : State := if s.markerValid then s else coldInit s

/-- The monitor's TAMPER filter gives way to the retained store's, which begins to watch; the retained
store's own goes on (R158). -/
def handOverTamper (s : State) : State := if s.start.loaded then watchTamper s else s

/-- Main-domain work ends: the part no longer runs, and no start step is taken (R1, R3). DESIGN CHOICE:
what is lost stands at its start values at once, the monitor's conditions among it (R152;
notes/assumptions/32.md). -/
def stopMain (s : State) : State :=
  (clearMain (handOverTamper s)).setStart { s.start with loaded := false, imageTimer := none }

/-- The limit of the image read, in milliseconds (R7). -/
def imageTime : Nat := 500

/-- A start begins: steps 1 and 2, and step 3 as far as the image read is under way (R3, R4, R7). -/
def beginStart (s : State) : State :=
  (readMarker (stopMain s)).setStart
    { loaded := false, imageTimer := some imageTime, kind := startKindOf s.markerValid }

/-! ### Supplies and RST -/

/-- The supplies hold a main domain that may run: PGOOD asserted and RST released (R3). -/
def startIfFree (s : State) : State := if s.pins.pgood && !s.pins.rst then beginStart s else s

/-- PGOOD rises: a start begins if RST is released (R3). -/
def pgoodRises (s : State) : State :=
  if s.pins.pgood then s else startIfFree (s.setPins { s.pins with pgood := true })

/-- PGOOD falls: the main domain stops and its state is lost (R1). -/
def pgoodFalls (s : State) : State :=
  if s.pins.pgood then stopMain (s.setPins { s.pins with pgood := false }) else s

/-- RST is driven low: the main domain is held at its start values (R3). DESIGN CHOICE: from here the
retained store's filter watches TAMPER (R158; notes/assumptions/20.md). -/
def rstFalls (s : State) : State :=
  if s.pins.rst then s else stopMain (s.setPins { s.pins with rst := true })

/-- RST is released: a start begins if PGOOD is asserted (R3). -/
def rstRises (s : State) : State :=
  if s.pins.rst then startIfFree (s.setPins { s.pins with rst := false }) else s

/-- The backup supply falls below its retention level (R2). -/
def backupFails (s : State) : State := s.setMarkerValid false

/-- The 100 ms timer of RESET expires (R6). -/
def resetExpires (s : State) : State := if s.line.resetTimer.isSome then beginStart s else s

/-! ### Load completion (R5) -/

/-- The STATUS timer's period, in milliseconds (R201). -/
def statusTime : Nat := 1000

/-- The interval timer's period, in milliseconds (R25). -/
def intervalTime : Nat := 200

/-- The lamp period, in milliseconds (R140). -/
def lampTime : Nat := 4

/-- Step 4's outcome and each block's part are in force: own address and roster (R202), the motion
unit's filter and interval timer with a good image (R21, R25, R37), the lamp timebase (R151), the
masks and severities (R167, step 1), and the monitor's filter on TAMPER (R158). -/
def putInForce (l : Loaded) (s : State) : State :=
  let t := s.setTariff l.tariff
  let t := t.setStart { t.start with loaded := true, imageTimer := none }
  let t := t.setLine { t.line with roster := l.roster, statusTimer := some statusTime }
  let t :=
    if l.tariff.good then
      t.setMotion { t.motion with settled := some t.pins.pulse, intervalTimer := some intervalTime }
    else t
  let t := t.setSign { t.sign with timebase := some lampTime }
  selectAuto (watchTamper (takeSettings l.masked l.note t))

/-- The BREAK raise of a warm start that found open fares (R58). -/
def raiseBreak (someOpen : Bool) (s : State) : State :=
  if someOpen then raiseCause .brk s.tariff.own s else s

/-- The start work of the fare engine and the charge sequencer at a warm start (R57, R58, R119). DESIGN
CHOICE: BREAK is raised after the closes of the seats that owe nothing (notes/assumptions/30.md). -/
def resumeTrips (s : State) : State :=
  retireSlots (raiseBreak (s.seats.any openFare) (warmStartSeats s))

/-- Whether a warm start finds work that other blocks' start work may come before or after. -/
def tripsOpen (s : State) : Bool := s.seats.any openFare || s.tags.slots.any Option.isSome

/-- The monitor's steps 2 to 5 and the trips' start work, in the order that is left open (R5, R167;
notes/assumptions/7.md). -/
def warmWork (s : State) : State :=
  if tripsOpen s then
    let t := s.setDraws (s.draws + 1)
    if Config.monitorFirst s.draws then resumeTrips (monitorStartWork t)
    else monitorStartWork (resumeTrips t)
  else monitorStartWork (warmStartSeats s)

/-- The start work on retained items, by the kind of the start (R56, R57, R167). -/
def retainedWork (s : State) : State :=
  match s.start.kind with
  | .cold => monitorStartWork s
  | .warm => warmWork s

/-- The intercom switch's start work: an INTERCOM_STATE with a good image (R138). -/
def intercomStartWork (s : State) : State := if s.tariff.good then sendIntercom s else s

/-- Step 5 of a start (R4, R5); the STATUS of load completion is queued last (R201, R202;
notes/assumptions/7.md). -/
def startWork (l : Loaded) (s : State) : State :=
  queueStatus (computeSign (retainedWork (intercomStartWork (putInForce l s))))

/-- The image read ends, with the bytes it gave; nothing where no read is under way (R4, R5, R7). -/
def completeLoad (bytes : List Byte) (s : State) : State :=
  if s.start.imageTimer.isSome then startWork (loadImage bytes) s else s

/-- The 500 ms limit expires: the image is missing (R7). -/
def imageReadExpires (s : State) : State := completeLoad [] s

end Sys2Proof.Machine
end

