-- ==== Sys2Proof/Machine/Intake.lean ====
section
/-! DEFINITION. The command intake of the line interface: the FIFO and BUSY (R196), taking the head and
its RESULT (R197), RESET (R6), and the console's commands as they reach the intake. -/

namespace Sys2Proof.Machine

/-! ### The owning blocks -/

/-- The timer of RESET, in milliseconds (R6). -/
def resetTime : Nat := 100

/-- RESET: its start awaits the RESULT's transmission or the timer (R6). -/
def resetCommand (s : State) : State × Reply :=
  done (s.setLine { s.line with resetTimer := some resetTime }) []

/-- A command handed to its owning block, with the console's address (R197, table of console
commands). -/
def perform (src : Nat) (c : Command) (s : State) : State × Reply :=
  match c with
  | .reset => resetCommand s
  | .setClock day seconds => setClockCommand day seconds s
  | .setBand n => setBandCommand n s
  | .shiftOpen driver => shiftOpenCommand driver s
  | .shiftClose => shiftCloseCommand s
  | .readTotals page => readTotalsCommand page s
  | .readTrip n page => readTripCommand n page s
  | .hire seat pool => hireCommand seat pool s
  | .stop seat => stopCommand seat s
  | .resume seat => resumeCommand seat s
  | .cancel seat => cancelCommand seat s
  | .addExtra seat kind amount => addExtraCommand seat kind amount s
  | .splitExtra kind amount => splitExtraCommand kind amount s
  | .cash seat tendered tip => cashCommand seat tendered tip s
  | .waive seat => waiveCommand seat s
  | .accountMap scope account limit tips => accountMapCommand scope account limit tips s
  | .unmap index => unmapCommand index s
  | .flush => flushCommand s
  | .probeSeat seat => probeSeatCommand seat s
  | .probeIndex index => probeIndexCommand index s
  | .abortCharge seat => abortChargeCommand seat s
  | .intercomMute seat on => intercomMuteCommand seat on s
  | .intercomTarget target => intercomTargetCommand target s
  | .signMode mode pool => signModeCommand mode pool s
  | .holdTrigger => holdTriggerCommand src s
  | .clearCause cause => clearCauseCommand cause s
  | .holdRelease => holdReleaseCommand s
  | .readHold page => readHoldCommand page s

/-- A command that reads the SERVICE input as it is taken (R161, R163). -/
def readsService : Command → Bool
  | .clearCause _ | .readHold _ => true
  | _ => false

/-- The SERVICE input read at the moment a command is taken: the level that the event's row carries,
else a free value, since SERVICE has no row of its own (R161, R163; notes/assumptions/3.md). -/
def sampleService (level : Option Bool) (s : State) : State :=
  match level with
  | some b => s.setPins { s.pins with service := b }
  | none =>
    (s.setPins { s.pins with service := Config.serviceLevel s.draws }).setDraws (s.draws + 1)

/-- The state a command is performed on: SERVICE is sampled for a command that reads it. -/
def withService (level : Option Bool) (c : Command) (s : State) : State :=
  if readsService c then sampleService level s else s

/-- A decoded command performed; what does not decode is answered with RANGE (R197). -/
def performDecoded (level : Option Bool) (src : Nat) (c : Option Command) (s : State) :
    State × Reply :=
  match c with
  | some c => perform src c (withService level c s)
  | none => refuse s .range

/-! ### The RESULT -/

/-- The byte echoed for a place of a COMMAND's payload, a free value where the payload has no such
byte (R196, R197; notes/assumptions/6.md). -/
def echoByte (payload : List Byte) (place : Nat) (draws : Nat) : Byte :=
  payload.getD place (Config.missingEcho draws)

/-- The RESULT to a COMMAND (R190, R197). -/
def resultFrame (e : FifoEntry) (r : Reply) (answer : Bool) (draws : Nat) : TxFrame :=
  { dest := e.source, answer := answer,
    body := .result (echoByte e.payload 0 draws) r.code (echoByte e.payload 1 (draws + 1)) r.data }

/-- The free values that an echo of a payload has drawn. -/
def drawEcho (payload : List Byte) (s : State) : State :=
  if payload.length < 2 then s.setDraws (s.draws + 2) else s

/-- The RESULT of a command that was taken: the answer-pending mark is set, and a RESULT that the
queue discards on arrival clears it (R197, R200). -/
def answerCommand (e : FifoEntry) (x : State × Reply) : State :=
  let s := x.1
  let t := s.setLine { s.line with answerPending := true }
  drawEcho e.payload (enqueue (resultFrame e x.2 true s.draws) t)

/-- The answer BUSY of a COMMAND that finds a full FIFO; it does not set the mark (R196). -/
def answerBusy (e : FifoEntry) (s : State) : State :=
  drawEcho e.payload (enqueue (resultFrame e ⟨.busy, []⟩ false s.draws) s)

/-! ### The FIFO -/

/-- The places of the command FIFO (R196). -/
def fifoPlaces : Nat := 4

/-- Whether the head of the FIFO is taken: the mark is clear, and no RESET waits for its start (R197). -/
def canTake (s : State) : Bool :=
  s.start.loaded && !s.line.answerPending && s.line.resetTimer.isNone

/-- A COMMAND arrives at the FIFO (R196). -/
def arrive (e : FifoEntry) (s : State) : State :=
  if s.line.fifo.length < fifoPlaces then s.setLine { s.line with fifo := s.line.fifo ++ [e] }
  else answerBusy e s

/-- The command of an entry taken out of the FIFO: performed, and answered (R197). -/
def takeEntry (level : Option Bool) (e : FifoEntry) (s : State) : State :=
  answerCommand e (performDecoded level e.source (decodeCommand e.payload) s)

/-- The FIFO's head is taken, if it may be, and the next as long as each answer was discarded on
arrival (R197). -/
def drain (level : Option Bool) : Nat → State → State
  | 0, s => s
  | fuel + 1, s =>
    if canTake s then
      match s.line.fifo with
      | [] => s
      | e :: rest => drain level fuel (takeEntry level e (s.setLine { s.line with fifo := rest }))
    else s

/-- Commands are taken at the end of an event, as many as it has let be taken (R197;
notes/assumptions/12.md); `level` is the level of SERVICE where the event's row carries it. -/
def takeCommands (level : Option Bool) (s : State) : State := drain level s.line.fifo.length s

/-! ### Console commands as rows -/

/-- A command of the roster's CONSOLE reaches the intake as its COMMAND frame would (R196, R197;
notes/assumptions/16.md); nothing is received before load completion, nor without a CONSOLE (R4,
R192). -/
def consoleRow (level : Option Bool) (seq : Byte) (c : Command) (s : State) : State :=
  if s.start.loaded then
    match consoleAddr s.line.roster with
    | some a => takeCommands level (arrive { source := a, payload := commandPayload seq c } s)
    | none => s
  else s

end Sys2Proof.Machine
end

