-- ==== Sys2Proof/Machine/Console.lean ====
section
/-! DEFINITION. The console's commands, one meaning per row of the table: each reaches the command intake and is
performed by its owning block. -/

namespace Sys2Proof.Machine

/-- RESET (R6), reaching the intake. -/
def execReset (seq : Byte) (s : State) : Host.Outcome State Fault Refusal :=
  .next (consoleRow none seq .reset s)

/-- SET_CLOCK(day, seconds) (R18), reaching the intake. -/
def execSetClock (seq day : Byte) (seconds : Word24) (s : State) :
    Host.Outcome State Fault Refusal :=
  .next (consoleRow none seq (.setClock day seconds) s)

/-- SET_BAND(n) (R20), reaching the intake. -/
def execSetBand (seq n : Byte) (s : State) : Host.Outcome State Fault Refusal :=
  .next (consoleRow none seq (.setBand n) s)

/-- SHIFT_OPEN(driver id) (R173), reaching the intake. -/
def execShiftOpen (seq : Byte) (driver : Word24) (s : State) : Host.Outcome State Fault Refusal :=
  .next (consoleRow none seq (.shiftOpen driver) s)

/-- SHIFT_CLOSE (R174), reaching the intake. -/
def execShiftClose (seq : Byte) (s : State) : Host.Outcome State Fault Refusal :=
  .next (consoleRow none seq .shiftClose s)

/-- READ_TOTALS(page) (R177), reaching the intake. -/
def execReadTotals (seq page : Byte) (s : State) : Host.Outcome State Fault Refusal :=
  .next (consoleRow none seq (.readTotals page) s)

/-- READ_TRIP(n, page) (R184), reaching the intake. -/
def execReadTrip (seq : Byte) (n : Word24) (page : Byte) (s : State) :
    Host.Outcome State Fault Refusal :=
  .next (consoleRow none seq (.readTrip n page) s)

/-- HIRE(seat, pool) (R41, R42), reaching the intake. -/
def execHire (seq seat pool : Byte) (s : State) : Host.Outcome State Fault Refusal :=
  .next (consoleRow none seq (.hire seat pool) s)

/-- STOP(seat) (R44), reaching the intake. -/
def execStop (seq seat : Byte) (s : State) : Host.Outcome State Fault Refusal :=
  .next (consoleRow none seq (.stop seat) s)

/-- RESUME(seat) (R45), reaching the intake. -/
def execResume (seq seat : Byte) (s : State) : Host.Outcome State Fault Refusal :=
  .next (consoleRow none seq (.resume seat) s)

/-- CANCEL(seat) (R46), reaching the intake. -/
def execCancel (seq seat : Byte) (s : State) : Host.Outcome State Fault Refusal :=
  .next (consoleRow none seq (.cancel seat) s)

/-- ADD_EXTRA(seat, kind, amount) (R47), reaching the intake. -/
def execAddExtra (seq seat kind : Byte) (amount : Word24) (s : State) :
    Host.Outcome State Fault Refusal :=
  .next (consoleRow none seq (.addExtra seat kind amount) s)

/-- SPLIT_EXTRA(kind, amount) (R75, R76), reaching the intake. -/
def execSplitExtra (seq kind : Byte) (amount : Word24) (s : State) :
    Host.Outcome State Fault Refusal :=
  .next (consoleRow none seq (.splitExtra kind amount) s)

/-- CASH(seat, tendered, tip) (R48), reaching the intake. -/
def execCash (seq seat : Byte) (tendered tip : Word24) (s : State) :
    Host.Outcome State Fault Refusal :=
  .next (consoleRow none seq (.cash seat tendered tip) s)

/-- WAIVE(seat) (R49), reaching the intake. -/
def execWaive (seq seat : Byte) (s : State) : Host.Outcome State Fault Refusal :=
  .next (consoleRow none seq (.waive seat) s)

/-- ACCOUNT_MAP(scope, account id, limit, tips allowed) (R85), reaching the intake. -/
def execAccountMap (seq scope : Byte) (account : Word32) (limit : Word24) (tips : Byte) (s : State) :
    Host.Outcome State Fault Refusal :=
  .next (consoleRow none seq (.accountMap scope account limit tips) s)

/-- UNMAP(index) (R87), reaching the intake. -/
def execUnmap (seq index : Byte) (s : State) : Host.Outcome State Fault Refusal :=
  .next (consoleRow none seq (.unmap index) s)

/-- FLUSH (R88), reaching the intake. -/
def execFlush (seq : Byte) (s : State) : Host.Outcome State Fault Refusal :=
  .next (consoleRow none seq .flush s)

/-- PROBE_SEAT(s) (R89), reaching the intake. -/
def execProbeSeat (seq seat : Byte) (s : State) : Host.Outcome State Fault Refusal :=
  .next (consoleRow none seq (.probeSeat seat) s)

/-- PROBE_INDEX(i) (R89), reaching the intake. -/
def execProbeIndex (seq index : Byte) (s : State) : Host.Outcome State Fault Refusal :=
  .next (consoleRow none seq (.probeIndex index) s)

/-- ABORT_CHARGE(seat) (R110), reaching the intake. -/
def execAbortCharge (seq seat : Byte) (s : State) : Host.Outcome State Fault Refusal :=
  .next (consoleRow none seq (.abortCharge seat) s)

/-- INTERCOM_MUTE(seat, on or off) (R135), reaching the intake. -/
def execIntercomMute (seq seat on : Byte) (s : State) : Host.Outcome State Fault Refusal :=
  .next (consoleRow none seq (.intercomMute seat on) s)

/-- INTERCOM_TARGET(target) (R136), reaching the intake. -/
def execIntercomTarget (seq target : Byte) (s : State) : Host.Outcome State Fault Refusal :=
  .next (consoleRow none seq (.intercomTarget target) s)

/-- SIGN_MODE(mode, advertise-pool) (R142), reaching the intake. -/
def execSignMode (seq mode pool : Byte) (s : State) : Host.Outcome State Fault Refusal :=
  .next (consoleRow none seq (.signMode mode pool) s)

/-- HOLD_TRIGGER (R160), reaching the intake. -/
def execHoldTrigger (seq : Byte) (s : State) : Host.Outcome State Fault Refusal :=
  .next (consoleRow none seq .holdTrigger s)

/-- CLEAR_CAUSE(c) (R161), reaching the intake. -/
def execClearCause (service : Bool) (seq cause : Byte) (s : State) :
    Host.Outcome State Fault Refusal :=
  .next (consoleRow (some service) seq (.clearCause cause) s)

/-- HOLD_RELEASE (R162), reaching the intake. -/
def execHoldRelease (seq : Byte) (s : State) : Host.Outcome State Fault Refusal :=
  .next (consoleRow none seq .holdRelease s)

/-- READ_HOLD(page) (R163), reaching the intake. -/
def execReadHold (service : Bool) (seq page : Byte) (s : State) :
    Host.Outcome State Fault Refusal :=
  .next (consoleRow (some service) seq (.readHold page) s)

end Sys2Proof.Machine
end

