-- ==== Sys2Proof/Machine/Lamps.lean ====
section
/-! DEFINITION. The lamp period: samples and lamp faults (R148, R149), the LAMP cause (R150), and the
boundary at which buffered patterns and the level's duty become current (R140, R141, R147). -/

namespace Sys2Proof.Machine

/-- Samples in a row that set or clear a fault (R149). -/
def faultSamples : Nat := 3

/-- A lamp's fault record after a sample (R149). -/
def sampleLamp (lit : Bool) (l : Lamp) : Lamp :=
  if lit then
    let g := heldAdd faultSamples l.good 1
    { l with dark := 0, good := g, fault := if g = faultSamples then false else l.fault }
  else
    let d := heldAdd faultSamples l.dark 1
    { l with dark := d, good := 0, fault := if d = faultSamples then true else l.fault }

/-- The lamps with the samples of the period just ended: only a channel with an on-period gives one;
bit n of `sense` is SENSEn (R148). -/
def sampleLamps (sense : BitVec 8) (v : PerChannel Lamp) : PerChannel Lamp :=
  v.mapIdx (fun c l => if l.on then sampleLamp (sense.getLsbD c.number) l else l)

/-- The channels whose faults the hold monitor is told of (R150). -/
def reportedChannels : List Channel := [.avail, .hired, .out]

/-- Whether a fault became set on a channel. -/
def faultSet (before after : PerChannel Lamp) (c : Channel) : Bool :=
  !(before.get c).fault && (after.get c).fault

/-- Whether a fault became clear on a channel. -/
def faultCleared (before after : PerChannel Lamp) (c : Channel) : Bool :=
  (before.get c).fault && !(after.get c).fault

/-- LAMP raised with its condition present, if a fault became set on a reported channel (R150). -/
def raiseLamp (before after : PerChannel Lamp) (s : State) (c : Channel) : State :=
  if faultSet before after c then
    reportCondition .lamp true (raiseCause .lamp s.tariff.own s)
  else s

/-- What the hold monitor is told of the samples of a boundary (R150). -/
def reportLamps (before after : PerChannel Lamp) (s : State) : State :=
  let t := reportedChannels.foldl (raiseLamp before after) s
  if reportedChannels.any (faultCleared before after)
      && !reportedChannels.any (fun c => (after.get c).fault) then
    reportCondition .lamp false t
  else t

/-- A channel at the boundary: its buffer becomes current, with a duty, and the period is an
on-period as the blink clock gives it (R140, R141). -/
def latchLamp (blink duty : Nat) (l : Lamp) : Lamp :=
  { l with current := l.buffer, duty := some duty, on := onPeriod blink l.buffer }

/-- The blink clock a lamp period of 4 ms later, returning to 0 after 999 (R140). -/
def nextBlink (blink : Nat) : Nat := (blink + 4) % 1000

/-- The buffered patterns and the level's duty become current (R141, R147). -/
def latchLamps (s : State) : State :=
  let b := nextBlink s.sign.blink
  let d := levelDuty s.tariff s.sign.level
  s.setSign { s.sign with blink := b, lamps := s.sign.lamps.mapIdx (fun _ l => latchLamp b d l) }

/-- A lamp period boundary, with the levels of the sense inputs (R141, R148). -/
def lampBoundary (sense : BitVec 8) (s : State) : State :=
  let s := s.setPins { s.pins with sense := sense }
  if s.sign.timebase.isSome then
    let before := s.sign.lamps
    let after := sampleLamps sense before
    latchLamps (reportLamps before after (s.setSign { s.sign with lamps := after }))
  else s

end Sys2Proof.Machine
end

