-- ==== Sys2Proof/Machine/Inputs.lean ====
section
/-! DEFINITION. The commands of the clock, the motion unit, the TAMPER input and the lamp period, one meaning per
row of the table. -/

namespace Sys2Proof.Machine

/-- CLOCK_TICK (R16): the clock advances one second, and a second that is a minute boundary is passed
to the band selector. -/
def execClockTick (s : State) : Host.Outcome State Fault Refusal :=
  .next (passMinute (s.setClock { s.clock with time := nextSecond s.clock.time }))

/-- MINUTE_BOUNDARY (R16, R19): the clock stands at a minute boundary, which is passed to the band
selector. -/
def execMinuteBoundary (s : State) : Host.Outcome State Fault Refusal :=
  .next (passMinute s)

/-- PULSE_CHANGE (R21): the PULSE pin takes a level. -/
def execPulseChange (level : Level) (s : State) : Host.Outcome State Fault Refusal :=
  .next (pulseLevel level s)

/-- SETTLED_EDGE (R21 to R24): a settled edge is taken. -/
def execSettledEdge (s : State) : Host.Outcome State Fault Refusal :=
  .next (settlePulse s)

/-- INTERVAL_EXPIRY (R26): an interval ends and is delivered. -/
def execIntervalExpiry (s : State) : Host.Outcome State Fault Refusal :=
  .next (takeCommands none (expireInterval s))

/-- TAMPER_CHANGE (R158): the TAMPER input takes a level. -/
def execTamperChange (asserted : Bool) (s : State) : Host.Outcome State Fault Refusal :=
  .next (tamperLevel asserted s)

/-- TAMPER_SETTLED (R158): a TAMPER level has held for 20 ms. -/
def execTamperSettled (s : State) : Host.Outcome State Fault Refusal :=
  .next (takeCommands none (settleTamper s))

/-- LAMP_PERIOD_BOUNDARY (R141, R148): samples are assessed and patterns become current. -/
def execLampPeriodBoundary (sense : BitVec 8) (s : State) : Host.Outcome State Fault Refusal :=
  .next (takeCommands none (lampBoundary sense s))

end Sys2Proof.Machine
end

