-- ==== Sys2Proof/Machine/Receive.lean ====
section
/-! DEFINITION. Receiving: destinations (R191), source validation (R192), presence and its notices
(R194, R195), payload lengths and delivery (R193), the NAV report's two parts (R33, R146) and the
FAULT_REPORT (R159). -/

namespace Sys2Proof.Machine

/-! ### Source validation (R192) -/

/-- The priority class of a kind that stations send to the CF-14 (R189). -/
def kindClass : Nat → Option Nat
  | 8 => some 0
  | 16 | 18 | 20 | 22 => some 1
  | 32 => some 2
  | 49 => some 3
  | _ => none

/-- Whether a station class may send a kind (R192). -/
def kindAllowed (c : StationClass) (kind : Nat) : Bool :=
  match kind with
  | 16 | 49 => true
  | 18 => c = .console
  | 20 => c = .driverPanel || c = .seatPanel
  | 8 | 22 => c = .reader
  | 32 => c = .nav
  | _ => false

/-- A HEARTBEAT's station class byte is there and is the roster class code of its source. -/
def heartbeatOk (c : StationClass) (f : RxFrame) : Bool :=
  f.kind.toNat ≠ 49 || (f.payload.head?.any (fun b => b.toNat = classValue c))

/-- The listed station of a frame that passes source validation. -/
def validate (roster : List Station) (f : RxFrame) : Option Station :=
  (stationAt roster f.source.toNat).filter (fun e =>
    kindAllowed e.cls f.kind.toNat && kindClass f.kind.toNat = some f.cls.toNat
      && heartbeatOk e.cls f)

/-! ### Presence (R194, R195) -/

/-- The presence timer's length, in milliseconds (R194). -/
def presenceTime : Nat := 2000

/-- A seat's display copy made invalid and compared at once (R55). -/
def panelPresent (q : Seat) (s : State) : State :=
  compareDisplay (s.setDisplay (s.display.set q none)) q

/-- The notices of an entry that turns PRESENT (R195). -/
def presentNotice (e : Station) (s : State) : State :=
  match e.cls with
  | .reader => passAndCompare s
  | .seatPanel =>
    match seatOfNumber e.binding with
    | some q => panelPresent q s
    | none => s
  | .console | .driverPanel | .nav | .aux => s

/-- The notices of an entry that turns SILENT (R195). -/
def silentNotice (e : Station) (s : State) : State :=
  match e.cls with
  | .reader => readerSilent e.addr s
  | .seatPanel =>
    match seatOfNumber e.binding with
    | some q => takeRelease (.seat q) s
    | none => s
  | .driverPanel => takeRelease .driver s
  | .nav => navSilent s
  | .console | .aux => s

/-- An entry's presence timer set. -/
def setTimer (addr : Nat) (t : Timer) (s : State) : State :=
  s.setLine { s.line with roster := setPresence s.line.roster addr t }

/-- A roster entry is heard (R194). -/
def hear (e : Station) (s : State) : State :=
  let t := setTimer e.addr (some presenceTime) s
  if e.present then t else presentNotice e t

/-- An entry's presence timer expires (R194). -/
def presenceExpires (addr : Nat) (s : State) : State :=
  match stationAt s.line.roster addr with
  | some e => if e.present then silentNotice e (setTimer addr none s) else s
  | none => s

/-! ### Delivery (R193) -/

/-- The press record that a panel's TALK belongs to (R122, R193). -/
def pressKeyOf (e : Station) : Option PressKey :=
  match e.cls with
  | .driverPanel => some .driver
  | .seatPanel => (seatOfNumber e.binding).map .seat
  | .console | .reader | .nav | .aux => none

/-- A TALK frame's held byte taken at its press record (R122); another value is dropped (R193). -/
def takeTalk (k : PressKey) (held : Byte) (s : State) : State :=
  match flagArg held with
  | some true => takePress k s
  | some false => takeRelease k s
  | none => s

/-- The ambient part of a NAV_REPORT (R146). -/
def navAmbient (valid : Bool) (ambient : Nat) (s : State) : State :=
  s.setSign { s.sign with level := ambientLevel s.tariff valid ambient s.sign.level }

/-- A NAV_REPORT: the speed part and the ambient part (R193). -/
def takeNav (speed : Nat) (flags : Byte) (ambient : Nat) (s : State) : State :=
  navAmbient (flags.getLsbD 1) ambient (navSpeed (flags.getLsbD 0) speed s)

/-- A FAULT_REPORT raises PEER and leaves its code (R159). -/
def takeFault (src : Nat) (code : Byte) (s : State) : State :=
  let t := raiseCause .peer src s
  t.setMonitor { t.monitor with lastCode := code.toNat }

/-- A TALK of a listed panel delivered. -/
def deliverTalk (e : Station) (held : Byte) (s : State) : State :=
  match pressKeyOf e with
  | some k => takeTalk k held s
  | none => s

/-- A CARD_PRESENTED of a listed reader delivered, with its binding's scope (R82). -/
def deliverCard (e : Station) (ref limit : Nat) (s : State) : State :=
  match scopeOfBinding e.binding with
  | some sc => presentCard e.addr sc ref limit s
  | none => s

/-- A validated frame delivered to its block by its kind; a wrong payload length drops it (R193). -/
def deliver (e : Station) (kind : Nat) (payload : List Byte) (s : State) : State :=
  match kind, payload with
  | 18, p => arrive { source := e.addr, payload := p } s
  | 20, [held] => deliverTalk e held s
  | 22, [r1, r0, l2, l1, l0] =>
    deliverCard e (fromBigEndian [r1, r0]) (fromBigEndian [l2, l1, l0]) s
  | 8, [tag, outcome, a2, a1, a0, t2, t1, t0] =>
    takeResult e.addr tag.toNat outcome.toNat (fromBigEndian [a2, a1, a0])
      (fromBigEndian [t2, t1, t0]) s
  | 32, [v1, v0, flags, ambient] => takeNav (fromBigEndian [v1, v0]) flags ambient.toNat s
  | 16, [code] => takeFault e.addr code s
  | _, _ => s

/-! ### The receive filter (R191) -/

/-- Whether a frame is addressed to the CF-14: to its own address, or to broadcast. -/
def forUs (own : Nat) (f : RxFrame) : Bool := f.dest.toNat = own || f.dest.toNat = broadcast

/-- A frame addressed to the CF-14 (R192, R193). -/
def takeFrame (f : RxFrame) (s : State) : State :=
  match validate s.line.roster f with
  | some e => deliver e f.kind.toNat f.payload (hear e s)
  | none => raiseCause .source f.source.toNat s

/-- A frame addressed to another station: a listed source is heard (R191). -/
def overhear (f : RxFrame) (s : State) : State :=
  match stationAt s.line.roster f.source.toNat with
  | some e => hear e s
  | none => s

/-- A frame on the line: nothing is received before load completion (R4), and a frame that R187
discards leaves no trace. -/
def receiveFrame (level : Option Bool) (f : RxFrame) (s : State) : State :=
  if s.start.loaded && headerOk f then
    takeCommands level (if forUs s.tariff.own f then takeFrame f s else overhear f s)
  else s

/-- The bytes of a frame on the line (R187). -/
def receiveBytes (bytes : List Byte) (s : State) : State :=
  match parseFrame bytes with
  | some f => receiveFrame none f s
  | none => s

/-- A frame of a kind, with its header's other fields and its payload. -/
def receiveKind (level : Option Bool) (kind : BitVec 6) (h : Header) (payload : List Byte)
    (s : State) : State :=
  receiveFrame level (frameOf kind h payload) s

end Sys2Proof.Machine
end

