-- ==== Sys2Proof/Machine/Transmit.lean ====
section
/-! DEFINITION. Sending on the line: contention at the idle line, transmission completion and
abandonment (R188), and the STATUS timer (R201). -/

namespace Sys2Proof.Machine

/-- What arbitration compares, class first, then kind, then source, as one number (R188). -/
def arbitration (cls kind source : Nat) : Nat := cls * 4096 + kind * 64 + source

/-- Whether a frame of the CF-14 wins against the other contenders: no value of theirs is lower
(R188). -/
def winsLine (own : Nat) (f : TxFrame) (others : List Contender) : Bool :=
  others.all (fun c =>
    arbitration f.body.cls f.body.kind own
      ≤ arbitration c.cls.toNat c.kind.toNat c.source.toNat)

/-- The line turns idle: the head of the queue contends, and a frame that wins leaves the queue into
transmission (R188). DESIGN CHOICE: while a frame is in transmission, nothing (notes/assumptions/13.md). -/
def contend (others : List Contender) (s : State) : State :=
  match s.line.transmitting, s.line.queue with
  | none, f :: rest =>
    if s.start.loaded && winsLine s.tariff.own f others then
      s.setLine { s.line with queue := rest, transmitting := some f }
    else s
  | _, _ => s

/-- The completion of the RESULT whose answer is pending: the mark clears, and a RESET that awaits it
starts (R6, R197). -/
def answerSent (s : State) : State :=
  if s.line.resetTimer.isSome then beginStart s
  else takeCommands none (s.setLine { s.line with answerPending := false })

/-- The frame in transmission completes its check (R188). DESIGN CHOICE: without one, nothing
(notes/assumptions/13.md). -/
def transmissionEnds (s : State) : State :=
  match s.line.transmitting with
  | none => s
  | some f =>
    let t := s.setLine { s.line with transmitting := none }
    if f.answer then answerSent t else t

/-- The frame in transmission is abandoned, with the notices of a discard (R188). DESIGN CHOICE: without
one, nothing (notes/assumptions/13.md). -/
def transmissionFails (s : State) : State :=
  match s.line.transmitting with
  | none => s
  | some f => takeCommands none (discardNotice f (s.setLine { s.line with transmitting := none }))

/-- The STATUS timer expires (R201). -/
def statusExpires (s : State) : State :=
  if s.line.statusTimer.isSome then takeCommands none (queueStatus s) else s

end Sys2Proof.Machine
end

