-- ==== Sys2Proof/Machine/LineEvents.lean ====
section
/-! DEFINITION. The commands of the cab line, sending and receiving, one meaning per row of the table. -/

namespace Sys2Proof.Machine

/-- LINE_IDLE (R188): the CF-14 contends with the head of its queue. -/
def execLineIdle (others : List Contender) (s : State) : Host.Outcome State Fault Refusal :=
  .next (contend others s)

/-- TRANSMISSION_COMPLETE (R188): the frame in transmission completes its check. -/
def execTransmissionComplete (s : State) : Host.Outcome State Fault Refusal :=
  .next (transmissionEnds s)

/-- TRANSMISSION_ABANDONED (R188): the frame in transmission is abandoned. -/
def execTransmissionAbandoned (s : State) : Host.Outcome State Fault Refusal :=
  .next (transmissionFails s)

/-- FRAME_DISCARDED (R187, R192): bytes that the checks discard, without trace or with SOURCE. -/
def execFrameDiscarded (bytes : List Byte) (s : State) : Host.Outcome State Fault Refusal :=
  .next (receiveBytes bytes s)

/-- FRAME_TO_OTHER_STATION (R191): a listed source is heard. -/
def execFrameToOtherStation (kind : BitVec 6) (h : Header) (payload : List Byte) (s : State) :
    Host.Outcome State Fault Refusal :=
  .next (receiveKind none kind h payload s)

/-- COMMAND (R196): a frame of kind 18, with the SERVICE level its command may read. -/
def execCommand (service : Bool) (h : Header) (payload : List Byte) (s : State) :
    Host.Outcome State Fault Refusal :=
  .next (receiveKind (some service) 18 h payload s)

/-- TALK (R122): a frame of kind 20. -/
def execTalk (h : Header) (payload : List Byte) (s : State) : Host.Outcome State Fault Refusal :=
  .next (receiveKind none 20 h payload s)

/-- CARD_PRESENTED (R82): a frame of kind 22. -/
def execCardPresented (h : Header) (payload : List Byte) (s : State) :
    Host.Outcome State Fault Refusal :=
  .next (receiveKind none 22 h payload s)

/-- CHARGE_RESULT (R104): a frame of kind 8. -/
def execChargeResult (h : Header) (payload : List Byte) (s : State) :
    Host.Outcome State Fault Refusal :=
  .next (receiveKind none 8 h payload s)

/-- NAV_REPORT (R33, R146): a frame of kind 32. -/
def execNavReport (h : Header) (payload : List Byte) (s : State) :
    Host.Outcome State Fault Refusal :=
  .next (receiveKind none 32 h payload s)

/-- FAULT_REPORT (R159): a frame of kind 16. -/
def execFaultReport (h : Header) (payload : List Byte) (s : State) :
    Host.Outcome State Fault Refusal :=
  .next (receiveKind none 16 h payload s)

/-- HEARTBEAT (R193): a frame of kind 49. -/
def execHeartbeat (h : Header) (payload : List Byte) (s : State) :
    Host.Outcome State Fault Refusal :=
  .next (receiveKind none 49 h payload s)

end Sys2Proof.Machine
end

