-- ==== Sys2Proof/Machine/Supplies.lean ====
section
/-! DEFINITION. The commands of the supplies and starts, one meaning per row of the table. -/

namespace Sys2Proof.Machine

/-- PGOOD_RISE (R3): PGOOD rises, and a start begins with RST released. -/
def execPgoodRise (s : State) : Host.Outcome State Fault Refusal :=
  .next (pgoodRises s)

/-- PGOOD_FALL (R1): the main domain stops. -/
def execPgoodFall (s : State) : Host.Outcome State Fault Refusal :=
  .next (pgoodFalls s)

/-- RST_ASSERT (R3): RST is driven low. -/
def execRstAssert (s : State) : Host.Outcome State Fault Refusal :=
  .next (rstFalls s)

/-- RST_RELEASE (R3): RST is released, and a start begins with PGOOD asserted. -/
def execRstRelease (s : State) : Host.Outcome State Fault Refusal :=
  .next (rstRises s)

/-- VBAK_LOSS (R2): the validity marker fails. -/
def execVbakLoss (s : State) : Host.Outcome State Fault Refusal :=
  .next (backupFails s)

/-- IMAGE_READ_TIMEOUT (R7, R14): the image counts as missing. -/
def execImageReadTimeout (s : State) : Host.Outcome State Fault Refusal :=
  .next (imageReadExpires s)

/-- LOAD_COMPLETION (R5): the image read ends with these bytes. -/
def execLoadCompletion (image : List Byte) (s : State) : Host.Outcome State Fault Refusal :=
  .next (completeLoad image s)

/-- RESET_TIMER_EXPIRY (R6): the start of a RESET begins. -/
def execResetTimerExpiry (s : State) : Host.Outcome State Fault Refusal :=
  .next (resetExpires s)

end Sys2Proof.Machine
end

