-- ==== Sys2Proof/Machine/Timers.lean ====
section
/-! DEFINITION. The commands of the timers beside the interval, one meaning per row of the table. -/

namespace Sys2Proof.Machine

/-- PRESENCE_TIMEOUT (R194, R195): a station turns SILENT. -/
def execPresenceTimeout (station : BitVec 6) (s : State) : Host.Outcome State Fault Refusal :=
  .next (takeCommands none (presenceExpires station.toNat s))

/-- STATUS_TIMER_EXPIRY (R201): a STATUS is queued. -/
def execStatusTimerExpiry (s : State) : Host.Outcome State Fault Refusal :=
  .next (statusExpires s)

/-- CHARGE_TIMER_EXPIRY (R109): the charge in flight for a seat ends without a result. -/
def execChargeTimerExpiry (seat : Seat) (s : State) : Host.Outcome State Fault Refusal :=
  .next (takeCommands none (endWithoutResult seat s))

/-- PRESS_LAPSE (R122): a held press record lapses into a release. -/
def execPressLapse (key : PressKey) (s : State) : Host.Outcome State Fault Refusal :=
  .next (takeCommands none (takeRelease key s))

/-- GUARD_EXPIRY (R130): the guard ends. -/
def execGuardExpiry (s : State) : Host.Outcome State Fault Refusal :=
  .next (takeCommands none (guardExpires s))

/-- TALK_LIMIT_EXPIRY (R131): the talking seat is cut off. -/
def execTalkLimitExpiry (s : State) : Host.Outcome State Fault Refusal :=
  .next (takeCommands none (talkLimitExpires s))

end Sys2Proof.Machine
end

