-- ==== Sys2Proof/Machine/Dispatch.lean ====
section
/-! DEFINITION. The dispatch of a command to its meaning, one arm per constructor of `Instr`. -/

namespace Sys2Proof.Machine

def exec (i : Instr) (s : State) : Host.Outcome State Fault Refusal :=
  match i with
  | .pgoodRise => Sys2Proof.Machine.execPgoodRise s
  | .pgoodFall => Sys2Proof.Machine.execPgoodFall s
  | .rstAssert => Sys2Proof.Machine.execRstAssert s
  | .rstRelease => Sys2Proof.Machine.execRstRelease s
  | .vbakLoss => Sys2Proof.Machine.execVbakLoss s
  | .imageReadTimeout => Sys2Proof.Machine.execImageReadTimeout s
  | .loadCompletion image => Sys2Proof.Machine.execLoadCompletion image s
  | .resetTimerExpiry => Sys2Proof.Machine.execResetTimerExpiry s
  | .clockTick => Sys2Proof.Machine.execClockTick s
  | .minuteBoundary => Sys2Proof.Machine.execMinuteBoundary s
  | .pulseChange level => Sys2Proof.Machine.execPulseChange level s
  | .settledEdge => Sys2Proof.Machine.execSettledEdge s
  | .intervalExpiry => Sys2Proof.Machine.execIntervalExpiry s
  | .tamperChange asserted => Sys2Proof.Machine.execTamperChange asserted s
  | .tamperSettled => Sys2Proof.Machine.execTamperSettled s
  | .lineIdle others => Sys2Proof.Machine.execLineIdle others s
  | .transmissionComplete => Sys2Proof.Machine.execTransmissionComplete s
  | .transmissionAbandoned => Sys2Proof.Machine.execTransmissionAbandoned s
  | .frameDiscarded bytes => Sys2Proof.Machine.execFrameDiscarded bytes s
  | .frameToOtherStation kind h payload => Sys2Proof.Machine.execFrameToOtherStation kind h payload s
  | .command service h payload => Sys2Proof.Machine.execCommand service h payload s
  | .talk h payload => Sys2Proof.Machine.execTalk h payload s
  | .cardPresented h payload => Sys2Proof.Machine.execCardPresented h payload s
  | .chargeResult h payload => Sys2Proof.Machine.execChargeResult h payload s
  | .navReport h payload => Sys2Proof.Machine.execNavReport h payload s
  | .faultReport h payload => Sys2Proof.Machine.execFaultReport h payload s
  | .heartbeat h payload => Sys2Proof.Machine.execHeartbeat h payload s
  | .presenceTimeout station => Sys2Proof.Machine.execPresenceTimeout station s
  | .statusTimerExpiry => Sys2Proof.Machine.execStatusTimerExpiry s
  | .chargeTimerExpiry seat => Sys2Proof.Machine.execChargeTimerExpiry seat s
  | .pressLapse key => Sys2Proof.Machine.execPressLapse key s
  | .guardExpiry => Sys2Proof.Machine.execGuardExpiry s
  | .talkLimitExpiry => Sys2Proof.Machine.execTalkLimitExpiry s
  | .lampPeriodBoundary sense => Sys2Proof.Machine.execLampPeriodBoundary sense s
  | .reset seq => Sys2Proof.Machine.execReset seq s
  | .setClock seq day seconds => Sys2Proof.Machine.execSetClock seq day seconds s
  | .setBand seq n => Sys2Proof.Machine.execSetBand seq n s
  | .shiftOpen seq driver => Sys2Proof.Machine.execShiftOpen seq driver s
  | .shiftClose seq => Sys2Proof.Machine.execShiftClose seq s
  | .readTotals seq page => Sys2Proof.Machine.execReadTotals seq page s
  | .readTrip seq n page => Sys2Proof.Machine.execReadTrip seq n page s
  | .hire seq seat pool => Sys2Proof.Machine.execHire seq seat pool s
  | .stop seq seat => Sys2Proof.Machine.execStop seq seat s
  | .resume seq seat => Sys2Proof.Machine.execResume seq seat s
  | .cancel seq seat => Sys2Proof.Machine.execCancel seq seat s
  | .addExtra seq seat kind amount => Sys2Proof.Machine.execAddExtra seq seat kind amount s
  | .splitExtra seq kind amount => Sys2Proof.Machine.execSplitExtra seq kind amount s
  | .cash seq seat tendered tip => Sys2Proof.Machine.execCash seq seat tendered tip s
  | .waive seq seat => Sys2Proof.Machine.execWaive seq seat s
  | .accountMap seq scope account limit tips => Sys2Proof.Machine.execAccountMap seq scope account limit tips s
  | .unmap seq index => Sys2Proof.Machine.execUnmap seq index s
  | .flush seq => Sys2Proof.Machine.execFlush seq s
  | .probeSeat seq seat => Sys2Proof.Machine.execProbeSeat seq seat s
  | .probeIndex seq index => Sys2Proof.Machine.execProbeIndex seq index s
  | .abortCharge seq seat => Sys2Proof.Machine.execAbortCharge seq seat s
  | .intercomMute seq seat on => Sys2Proof.Machine.execIntercomMute seq seat on s
  | .intercomTarget seq target => Sys2Proof.Machine.execIntercomTarget seq target s
  | .signMode seq mode pool => Sys2Proof.Machine.execSignMode seq mode pool s
  | .holdTrigger seq => Sys2Proof.Machine.execHoldTrigger seq s
  | .clearCause service seq cause => Sys2Proof.Machine.execClearCause service seq cause s
  | .holdRelease seq => Sys2Proof.Machine.execHoldRelease seq s
  | .readHold service seq page => Sys2Proof.Machine.execReadHold service seq page s

end Sys2Proof.Machine
end

