-- ==== Sys2Proof/WellFormed.lean ====
section
/-! DEFINITION. Which commands are well formed: what the encodings of R187 and R190 let a sender say.
The machine takes every `Instr`; these checks say which of them the outside world can send. -/

namespace Sys2Proof

/-- A header that R187 does not discard: source 1 to 62, destination 1 to 63. -/
def Header.wf (h : Header) : Bool :=
  h.source ≠ 0 && h.source ≠ 63 && h.dest ≠ 0

/-- A payload of at most 16 bytes (R187). -/
def payloadWf (p : List Byte) : Bool :=
  p.length ≤ 16

/-- A contending station has an address 1 to 62 (R187, R188). -/
def Contender.wf (c : Contender) : Bool :=
  c.source ≠ 0 && c.source ≠ 63

/-- The console's sequence numbers are 0 to 15 (R190). -/
def seqWf (seq : Byte) : Bool :=
  seq.toNat ≤ 15

/-- The station of a presence timer has a roster address, 1 to 62 (R9, R194). -/
def stationWf (a : BitVec 6) : Bool :=
  a ≠ 0 && a ≠ 63

/-- The image memory hands over at most the bytes the read asks for (R7). -/
def imageWf (image : List Byte) : Bool :=
  image.length ≤ 147

/-- Whether the outside world can send this command. -/
def Instr.wf : Instr → Bool
  | .pgoodRise | .pgoodFall | .rstAssert | .rstRelease | .vbakLoss | .imageReadTimeout => true
  | .loadCompletion image => imageWf image
  | .resetTimerExpiry | .clockTick | .minuteBoundary | .pulseChange _ | .settledEdge
  | .intervalExpiry | .tamperChange _ | .tamperSettled => true
  | .lineIdle others => others.all Contender.wf
  | .transmissionComplete | .transmissionAbandoned | .frameDiscarded _ => true
  | .frameToOtherStation _ h p | .command _ h p | .talk h p | .cardPresented h p
  | .chargeResult h p | .navReport h p | .faultReport h p | .heartbeat h p => h.wf && payloadWf p
  | .presenceTimeout a => stationWf a
  | .statusTimerExpiry | .chargeTimerExpiry _ | .pressLapse _ | .guardExpiry | .talkLimitExpiry
  | .lampPeriodBoundary _ => true
  | .reset q | .setClock q _ _ | .setBand q _ | .shiftOpen q _ | .shiftClose q | .readTotals q _
  | .readTrip q _ _ | .hire q _ _ | .stop q _ | .resume q _ | .cancel q _ | .addExtra q _ _ _
  | .splitExtra q _ _ | .cash q _ _ _ | .waive q _ | .accountMap q _ _ _ _ | .unmap q _ | .flush q
  | .probeSeat q _ | .probeIndex q _ | .abortCharge q _ | .intercomMute q _ _
  | .intercomTarget q _ | .signMode q _ _ | .holdTrigger q | .clearCause _ q _ | .holdRelease q
  | .readHold _ q _ => seqWf q

end Sys2Proof
end

