-- ==== Sys2Proof/Safety.lean ====
section
/-! DEFINITION. The laws the spec gives the machine as a whole, as predicates on states: what counts as
a state in order. Claims state that every command keeps each of them. -/

namespace Sys2Proof.Machine

/-- A law is kept by every step: from any state that obeys it, a step that answers a next state gives
one that obeys it. -/
def KeptByStep (law : State → Prop) : Prop :=
  ∀ s t : State, law s → step s = .next t → law t

/-! ### Line interface -/

/-- The transmit queue holds at most 16 frames, in order of class, and at most one frame of each
coalescing key (R198, R199). -/
def QueueLaw (s : State) : Prop :=
  s.line.queue.length ≤ queuePlaces ∧
  s.line.queue.Pairwise (fun f g => f.body.cls ≤ g.body.cls) ∧
  s.line.queue.Pairwise (fun f g => f.body.key = none ∨ f.body.key ≠ g.body.key)

/-- The command FIFO holds at most four commands (R196). -/
def FifoLaw (s : State) : Prop := s.line.fifo.length ≤ fifoPlaces

/-- Until load completion every main-domain item stands at its start value (R4, R37, R95, R138, R151,
R166, R202; the empty image copy, the default settings and AUTO are the model's choice there:
notes/assumptions/4.md, 5.md, 28.md), and an image read is under way only then; during the read of a
cold start the seat records, the late-tag area and the accounts stand at their initial values (R4,
step 2). -/
def StartLaw (s : State) : Prop :=
  (s.start.loaded = false →
    s.line = lineStart ∧ s.tariff = tariffStart ∧ s.band = bandStart ∧ s.motion = motionStart ∧
    s.payers = indexesOf none ∧ s.charges = seatsOf none ∧ s.intercom = intercomStart ∧
    s.sign = signStart ∧ s.monitor = monitorStart ∧ s.display = seatsOf none) ∧
  (s.start.imageTimer.isSome = true → s.start.loaded = false) ∧
  (s.start.imageTimer.isSome = true → s.start.kind = .cold →
    s.seats = seatsOf vacantSeat ∧ s.tags = tagsCold ∧ s.accounts = accountsCold)

/-! ### Lists of bounded length -/

/-- The late list (R97), the speed window (R29), the trip log (R183), the prescaler's residue (R23), the
interval counter (R24), the plausibility count (R33), the tag counter (R101) and the lamps' dark and
good counts (R148) are within their bounds; starts are in order. -/
def BoundsLaw (s : State) : Prop :=
  StartLaw s ∧
  s.tags.late.length ≤ latePlaces ∧ s.motion.window.length ≤ 5 ∧ s.accounts.log.length ≤ logPlaces ∧
  s.motion.residue < max 1 s.tariff.prescale ∧ s.motion.counter ≤ maxCount ∧
  s.motion.plausibility ≤ s.tariff.nPlaus ∧ s.tags.counter ≤ 255 ∧
  ∀ c : Channel, (s.sign.lamps.get c).dark ≤ 3 ∧ (s.sign.lamps.get c).good ≤ 3

/-! ### Hold monitor -/

/-- The first-cause pointer names a cause whose status is set (R157). -/
def PointerLaw (s : State) : Prop := ∀ c : Cause, s.hold.pointer = some c → s.hold.status.get c = true

/-! ### Seats, shift and exclusive hires -/

/-- A VACANT seat holds its VACANT values (R38). -/
def VacantLaw (s : State) : Prop := ∀ q : Seat, (s.seat q).state = .vacant → s.seat q = vacantSeat

/-- The shift is CLOSED only if every seat is VACANT (R169). -/
def ShiftLaw (s : State) : Prop :=
  s.accounts.shift.state = .closed → ∀ q : Seat, (s.seat q).state = .vacant

/-- While a seat whose exclusive flag is set is non-VACANT, every other seat is VACANT (R43). -/
def ExclusiveLaw (s : State) : Prop :=
  ∀ q p : Seat, q ≠ p → (s.seat q).exclusive = true → (s.seat q).state ≠ .vacant →
    (s.seat p).state = .vacant

/-! ### Sign -/

/-- From load completion the buffered patterns are the sign state of the inputs as they stand (R144,
R145). -/
def SignLaw (s : State) : Prop :=
  s.start.loaded = true → ∀ c : Channel,
    (s.sign.lamps.get c).buffer =
      (signPatterns s.hold.held s.accounts.shift.state s.sign.mode s.sign.pool s.seats).get c

/-! ### Intercom -/

/-- The gates stand as the intercom state, the talk target and the seats' occupancy give them (R120). -/
def GateLaw (s : State) : Prop :=
  s.intercom.gates = gatesOf s.intercom.state s.intercom.target s.seats

/-- Each of the ten gates stands as R120's table gives it for the intercom state: in IDLE and GUARD all are
closed; in DRIVER_TALK the driver's microphone is open, and the speaker of each non-VACANT seat within the
talk target; in SEAT_TALK the talking seat's microphone and the driver's speaker. -/
def GateTableLaw (s : State) : Prop :=
  let i := s.intercom
  let g := i.gates
  (i.state = .idle ∨ i.state = .guard →
    g.dmic = false ∧ g.dspk = false ∧ ∀ n : Seat, g.spk.get n = false ∧ g.smic.get n = false) ∧
  (i.state = .driverTalk →
    g.dmic = true ∧ g.dspk = false ∧ ∀ n : Seat, g.smic.get n = false ∧
      (g.spk.get n = true ↔ (i.target = .all ∨ i.target = .seat n) ∧ (s.seat n).state ≠ .vacant)) ∧
  (∀ q : Seat, i.state = .seatTalk q →
    g.dmic = false ∧ g.dspk = true ∧ ∀ n : Seat, g.spk.get n = false ∧
      (g.smic.get n = true ↔ n = q))

/-- The driver's microphone gate and a seat's are never open together, at most one seat's is open, and an
open one belongs to the talking seat, which is non-VACANT and unmuted (R120). -/
def MicrophoneLaw (s : State) : Prop :=
  let g := s.intercom.gates
  (∀ q : Seat, g.smic.get q = true →
    g.dmic = false ∧ s.intercom.state = .seatTalk q ∧ (s.seat q).state ≠ .vacant ∧
      s.intercom.mute.get q = false) ∧
  (∀ q p : Seat, g.smic.get q = true → g.smic.get p = true → q = p)

/-- The guard timer runs exactly in GUARD, the talk-limit timer exactly in SEAT_TALK, and the driver is
pending only in GUARD (R129, R130, R131). -/
def TalkTimerLaw (s : State) : Prop :=
  (s.intercom.guardTimer.isSome = true ↔ s.intercom.state = .guard) ∧
  (s.intercom.talkTimer.isSome = true ↔ ∃ q, s.intercom.state = .seatTalk q) ∧
  (s.intercom.pendingDriver = true → s.intercom.state = .guard)

/-- A seat that may speak or wait to speak: non-VACANT and unmuted, with its press held (R120, R128). -/
def mayCall (s : State) (q : Seat) : Prop :=
  (s.seat q).state ≠ .vacant ∧ s.intercom.mute.get q = false ∧
  (s.intercom.seatPress.get q).isSome = true

/-- The call queue holds no seat twice and none that is VACANT, muted or released, the talker is not
in it and is such a seat too, and it is empty while nobody speaks (R120, R128). -/
def CallLaw (s : State) : Prop :=
  s.intercom.queue.Nodup ∧ (∀ q ∈ s.intercom.queue, mayCall s q) ∧
  (∀ q, s.intercom.state = .seatTalk q → q ∉ s.intercom.queue ∧ mayCall s q) ∧
  (s.intercom.state = .idle → s.intercom.queue = [])

/-! ### Money -/

/-- The sum of the payment entries' amounts. -/
def paidTotal (ps : List Payment) : Nat := (ps.map (·.amount)).sum

/-- A seat's money is in order (R38, R39): the bounds of fare and extras, paid and tips as the sums of
the payment entries, at most six of them, nothing paid beyond what is owed, nothing waived while the
seat stands open, and no payment on a HIRED seat. -/
def seatMoney (r : SeatRecord) : Prop :=
  r.fare ≤ maxFare ∧ r.extras.total ≤ maxExtras ∧ r.paid = paidTotal r.payments ∧
  r.tips = (r.payments.map (·.tip)).sum ∧ r.payments.length ≤ paymentPlaces ∧
  r.paid ≤ r.fare + r.extras.total ∧ r.waived = 0 ∧ (r.state = .hired → r.payments = [])

/-- A charge in flight belongs to a PAYING seat that owes at least the requested amount and has room
for the payment (R50, R96, R102). -/
def chargeBacked (s : State) (q : Seat) : Prop :=
  ∀ c, s.charges.get q = some c →
    (s.seat q).state = .paying ∧ c.requested ≤ (s.seat q).due ∧
    (s.seat q).payments.length < paymentPlaces

/-- Every seat's money is in order, every charge is backed by its seat, and the bands of the image in
force take no flag fall beyond the fare's bound (R39); starts are in order. -/
def MoneyLaw (s : State) : Prop :=
  StartLaw s ∧ (∀ q, seatMoney (s.seat q) ∧ chargeBacked s q) ∧
  (∀ b ∈ s.tariff.bands, b.flagFall ≤ maxFare)

/-- A seat that stands in DUE or PAYING owes something (R39, R50). -/
def DueLaw (s : State) : Prop :=
  ∀ q : Seat, (s.seat q).state = .due ∨ (s.seat q).state = .paying → 0 < (s.seat q).due

/-- The shift's fares and extras are covered by its card, account and cash payments and its waivers
(R168). -/
def BalanceLaw (s : State) : Prop :=
  let x := s.accounts.shift.totals
  x.fare + x.extras.total = x.card + x.account + x.cash + x.waived

/-- The seats' money and the shift's balance together. -/
def BooksLaw (s : State) : Prop := MoneyLaw s ∧ VacantLaw s ∧ BalanceLaw s

/-! ### Charges -/

/-- From load completion a seat is PAYING exactly when a charge in flight names it, its in-flight slot
then holds the charge's tag, and no reader carries two charges (R96); starts are in order. -/
def ChargeLaw (s : State) : Prop :=
  StartLaw s ∧ (s.start.loaded = true →
    (∀ q, (s.seat q).state = .paying ↔ (s.charges.get q).isSome = true) ∧
    (∀ q, (s.charges.get q).isSome = true ↔ (s.tags.slots.get q).isSome = true) ∧
    (∀ q p e f, q ≠ p → s.tags.slots.get q = some e → s.tags.slots.get p = some f →
      e.reader ≠ f.reader))

/-- From load completion a charge in flight finds its payer at its index: CHARGING for its seat, in a
scope that serves the seat, by a card at the reader that its in-flight slot names; and every CHARGING
payer has such a charge (R81, R90, R96); charges are in order. -/
def BackedLaw (s : State) : Prop :=
  ChargeLaw s ∧ (s.start.loaded = true →
    (∀ q c, s.charges.get q = some c → ∃ p, s.payers.get c.index = some p ∧ p.charging = some q ∧
      (p.scope = .seat q ∨ p.scope = .party) ∧
      ∃ e ref, s.tags.slots.get q = some e ∧ p.kind = .card e.reader ref) ∧
    (∀ i p q, s.payers.get i = some p → p.charging = some q →
      ∃ c, s.charges.get q = some c ∧ c.index = i))

/-- No payer is charged up to its limit and kept, no two installed payers share a scope, and each has
someone to pay for: its seat is non-VACANT, or, for PARTY, some seat is (R78, R79, R93). -/
def PayerLaw (s : State) : Prop :=
  ∀ i p, s.payers.get i = some p →
    p.spent < p.limit ∧ scopeOccupied s.seats p.scope = true ∧
    (∀ j r, s.payers.get j = some r → p.scope = r.scope → i = j)

/-! ### Image and progress -/

/-- From load completion: a good image has at least one band, and the selected band and every
scheduled band are among its bands; a rejected one has none, and the part is HELD by CONFIG, whose
unmasked HOLD setting keeps it so (R14, R19). -/
def ImageLaw (s : State) : Prop :=
  s.start.loaded = true →
    (s.tariff.good = true →
      1 ≤ s.tariff.bands.length ∧
      (∀ e ∈ s.tariff.schedule, 1 ≤ e.band ∧ e.band ≤ s.tariff.bands.length) ∧
      1 ≤ s.band.selected ∧ s.band.selected ≤ s.tariff.bands.length) ∧
    (s.tariff.good = false →
      s.tariff.bands = [] ∧ s.tariff.manualAllowed = false ∧ s.band.selected = 0 ∧
      s.hold.held = true ∧ holdsNow s .config = true)

/-- A band's step sizes are as R15 bounds them. -/
def bandSized (b : Band) : Prop := 3 ≤ b.np ∧ 1 ≤ b.nt ∧ b.size = b.np * b.nt * 1000

/-- The sizes of the bands and shares in force are as R10, R11 and R15 bound them, and the interval
counter is within R24's bound. -/
def SizeLaw (s : State) : Prop :=
  (∀ b ∈ s.tariff.bands, bandSized b) ∧ (∀ x ∈ s.tariff.shares, x ≤ 1000) ∧
  s.motion.counter ≤ maxCount

/-- From load completion every non-VACANT seat's progress is less than S′ of its active band, and 0
for a band that the image in force does not define (R57, R66); sizes and starts are in order. -/
def ProgressLaw (s : State) : Prop :=
  SizeLaw s ∧ StartLaw s ∧ (s.start.loaded = true → ∀ q : Seat, (s.seat q).state ≠ .vacant →
    match bandAt s.tariff (s.seat q).activeBand with
    | some b => (s.seat q).progress < b.size
    | none => (s.seat q).progress = 0)

/-! ### Totalizers -/

/-- The totalizers, the trip counter and the hold count are within the values they are held at or wrap
from (R156, R170, R178). -/
def CountLaw (s : State) : Prop :=
  let z := s.accounts.totalizers
  z.total.metres ≤ max32 ∧ z.hired.metres ≤ max32 ∧ z.trips ≤ max32 ∧ z.steps ≤ max32 ∧
  z.fare ≤ max32 ∧ z.voids ≤ max32 ∧ s.accounts.tripCounter ≤ max24 ∧ s.hold.count ≤ max24

/-- No totalizer is lower than before (R170). -/
def TotalizersGrow (x y : Totalizers) : Prop :=
  x.total.metres ≤ y.total.metres ∧ x.hired.metres ≤ y.hired.metres ∧ x.trips ≤ y.trips ∧
  x.steps ≤ y.steps ∧ x.fare ≤ y.fare ∧ x.voids ≤ y.voids

/-! ### Frames: which parts of the state a command may change -/

/-- The parts of the state. -/
inductive Part where
  | pins
  | start
  | marker
  | clock
  | tamper
  | seats
  | tags
  | hold
  | accounts
  | tariff
  | band
  | motion
  | payers
  | charges
  | intercom
  | sign
  | monitor
  | display
  | line
  | draws
deriving DecidableEq, Repr

/-- A part stands as before. -/
def SamePart (s t : State) : Part → Prop
  | .pins => t.pins = s.pins
  | .start => t.start = s.start
  | .marker => t.markerValid = s.markerValid
  | .clock => t.clock = s.clock
  | .tamper => t.tamperFilter = s.tamperFilter
  | .seats => t.seats = s.seats
  | .tags => t.tags = s.tags
  | .hold => t.hold = s.hold
  | .accounts => t.accounts = s.accounts
  | .tariff => t.tariff = s.tariff
  | .band => t.band = s.band
  | .motion => t.motion = s.motion
  | .payers => t.payers = s.payers
  | .charges => t.charges = s.charges
  | .intercom => t.intercom = s.intercom
  | .sign => t.sign = s.sign
  | .monitor => t.monitor = s.monitor
  | .display => t.display = s.display
  | .line => t.line = s.line
  | .draws => t.draws = s.draws

/-- What queueing frames may change: the queue, and the display copies of discarded SEAT_DISPLAYs
(R55, R200). -/
def sendParts : List Part := [.line, .display]

/-- What a seat's payments and closes may change (R40, R50 to R52, R91, R98 to R103). -/
def tripParts : List Part := [.seats, .accounts, .payers, .intercom, .sign] ++ sendParts

/-- What a charge-start pass may change (R98 to R103). -/
def passParts : List Part := [.tags, .charges] ++ tripParts

/-- What a raise of a cause may change (R155, R156). -/
def raiseParts : List Part := [.hold, .monitor, .accounts, .sign] ++ sendParts

/-- What a console command may change (table of console commands). -/
def commandParts : Command → List Part
  | .reset | .readTotals _ | .readTrip _ _ | .probeSeat _ | .probeIndex _ | .readHold _ => sendParts
  | .setClock _ _ => [.clock, .monitor, .band] ++ sendParts
  | .setBand _ => [.band] ++ sendParts
  | .shiftOpen _ | .shiftClose => [.accounts, .sign] ++ sendParts
  | .hire _ _ | .resume _ => [.seats, .intercom, .sign] ++ sendParts
  | .cancel _ | .waive _ => tripParts
  | .splitExtra _ _ => [.seats] ++ sendParts
  | .stop _ | .addExtra _ _ _ | .cash _ _ _ | .accountMap _ _ _ _ | .unmap _ | .flush
  | .abortCharge _ => passParts
  | .intercomMute _ _ | .intercomTarget _ => [.intercom] ++ sendParts
  | .signMode _ _ => [.sign] ++ sendParts
  | .holdTrigger => raiseParts
  | .clearCause _ => [.hold] ++ sendParts
  | .holdRelease => [.hold, .sign] ++ sendParts

/-- The main-domain parts, which a start clears and a fall of PGOOD loses (R1, R4). -/
def mainParts : List Part :=
  [.start, .tamper, .tariff, .band, .motion, .payers, .charges, .intercom, .sign, .monitor] ++
    sendParts

/-- The parts a start may change: the main domain, and on a cold start the retained store (R4). -/
def startParts : List Part :=
  [.marker, .clock, .seats, .tags, .hold, .accounts] ++ mainParts

/-- What load completion may change (R5). -/
def loadParts : List Part :=
  [.start, .tamper, .tariff, .band, .motion, .tags, .draws, .hold, .monitor] ++ tripParts

/-- What a frame of a kind other than COMMAND and NAV_REPORT may change: its delivery, the SOURCE that
a frame which fails validation raises, and the pass at a reader's return (R192 to R195). -/
def frameParts : List Part := [.hold, .monitor] ++ passParts

/-- What a frame that spells any kind may change. -/
def anyFrameParts : List Part := [.pins, .clock, .band, .motion, .draws] ++ frameParts

/-- The parts that a command of the table may change, when no command waits in the FIFO. -/
def mayChange : Instr → List Part
  | .pgoodRise | .rstRelease => .pins :: startParts
  | .pgoodFall | .rstAssert => .pins :: mainParts
  | .vbakLoss => [.marker]
  | .imageReadTimeout | .loadCompletion _ => loadParts
  | .resetTimerExpiry | .transmissionComplete => startParts
  | .clockTick => [.clock, .band]
  | .minuteBoundary => [.band]
  | .pulseChange _ => [.pins, .motion]
  | .settledEdge => [.motion]
  | .intervalExpiry => [.motion, .seats] ++ raiseParts
  | .tamperChange _ => [.pins, .tamper]
  | .tamperSettled => [.tamper] ++ raiseParts
  | .lineIdle _ => [.line]
  | .transmissionAbandoned | .statusTimerExpiry => sendParts
  | .frameDiscarded _ | .frameToOtherStation _ _ _ => anyFrameParts
  | .command _ _ _ => anyFrameParts
  | .talk _ _ | .cardPresented _ _ | .chargeResult _ _ | .faultReport _ _ | .heartbeat _ _ =>
    frameParts
  | .navReport _ _ => .motion :: frameParts
  | .presenceTimeout _ => .motion :: passParts
  | .chargeTimerExpiry _ => passParts
  | .pressLapse _ | .guardExpiry | .talkLimitExpiry => [.intercom] ++ sendParts
  | .lampPeriodBoundary _ => .pins :: raiseParts
  | .reset _ => commandParts .reset
  | .setClock _ d n => commandParts (.setClock d n)
  | .setBand _ n => commandParts (.setBand n)
  | .shiftOpen _ d => commandParts (.shiftOpen d)
  | .shiftClose _ => commandParts .shiftClose
  | .readTotals _ p => commandParts (.readTotals p)
  | .readTrip _ n p => commandParts (.readTrip n p)
  | .hire _ q p => commandParts (.hire q p)
  | .stop _ q => commandParts (.stop q)
  | .resume _ q => commandParts (.resume q)
  | .cancel _ q => commandParts (.cancel q)
  | .addExtra _ q k n => commandParts (.addExtra q k n)
  | .splitExtra _ k n => commandParts (.splitExtra k n)
  | .cash _ q n p => commandParts (.cash q n p)
  | .waive _ q => commandParts (.waive q)
  | .accountMap _ q i n p => commandParts (.accountMap q i n p)
  | .unmap _ i => commandParts (.unmap i)
  | .flush _ => commandParts .flush
  | .probeSeat _ q => commandParts (.probeSeat q)
  | .probeIndex _ i => commandParts (.probeIndex i)
  | .abortCharge _ q => commandParts (.abortCharge q)
  | .intercomMute _ q n => commandParts (.intercomMute q n)
  | .intercomTarget _ n => commandParts (.intercomTarget n)
  | .signMode _ m p => commandParts (.signMode m p)
  | .holdTrigger _ => commandParts .holdTrigger
  | .clearCause _ _ c => .pins :: commandParts (.clearCause c)
  | .holdRelease _ => commandParts .holdRelease
  | .readHold _ _ p => .pins :: commandParts (.readHold p)

/-! ### What claims say of the console and of the stations -/

/-- The intake would take a command of the console at once: load completion is past, the roster lists
a CONSOLE at address `a`, no command waits, no answer is pending, and no RESET awaits its start
(R197). -/
structure ConsoleReady (s : State) (a : Nat) : Prop where
  loaded : s.start.loaded = true
  listed : consoleAddr s.line.roster = some a
  empty : s.line.fifo = []
  clear : s.line.answerPending = false
  free : s.line.resetTimer = none

/-- The table's row of a console command; the SERVICE level is that of the rows that read it. -/
def rowOf (service : Bool) (seq : Byte) : Command → Instr
  | .reset => .reset seq
  | .setClock d n => .setClock seq d n
  | .setBand n => .setBand seq n
  | .shiftOpen d => .shiftOpen seq d
  | .shiftClose => .shiftClose seq
  | .readTotals p => .readTotals seq p
  | .readTrip n p => .readTrip seq n p
  | .hire q p => .hire seq q p
  | .stop q => .stop seq q
  | .resume q => .resume seq q
  | .cancel q => .cancel seq q
  | .addExtra q k n => .addExtra seq q k n
  | .splitExtra k n => .splitExtra seq k n
  | .cash q n p => .cash seq q n p
  | .waive q => .waive seq q
  | .accountMap q i n p => .accountMap seq q i n p
  | .unmap i => .unmap seq i
  | .flush => .flush seq
  | .probeSeat q => .probeSeat seq q
  | .probeIndex i => .probeIndex seq i
  | .abortCharge q => .abortCharge seq q
  | .intercomMute q n => .intercomMute seq q n
  | .intercomTarget n => .intercomTarget seq n
  | .signMode m p => .signMode seq m p
  | .holdTrigger => .holdTrigger seq
  | .clearCause c => .clearCause service seq c
  | .holdRelease => .holdRelease seq
  | .readHold p => .readHold service seq p

/-- A state after a command of the console at `a`, with its RESULT queued and the answer-pending mark
set (R197); the queue may discard the RESULT, which clears the mark (R200). -/
def answered (a : Nat) (seq : Byte) (c : Command) (code : ResultCode) (data : List Byte) (t : State) :
    State :=
  enqueue { dest := a, answer := true, body := .result seq code c.code data }
    (t.setLine { t.line with answerPending := true })

/-- A frame from a station that R187 does not discard, addressed to the CF-14, with the class `cls`
that its kind has; load completion is past and no command waits. -/
structure Sent (s : State) (e : Station) (cls : Nat) (h : Header) : Prop where
  loaded : s.start.loaded = true
  quiet : s.line.fifo = []
  listed : stationAt s.line.roster h.source.toNat = some e
  header : h.wf = true
  cls : h.cls.toNat = cls
  dest : h.dest.toNat = s.tariff.own ∨ h.dest.toNat = broadcast

/-- The state after a PRESENT station is heard: its presence timer runs from its full length, and no
notice is given (R194). -/
def heardAgain (e : Station) (s : State) : State :=
  s.setLine { s.line with roster := setPresence s.line.roster e.addr (some 2000) }

/-- The rows that move the intercom switch by themselves: presses and releases, their lapses, the
switch's timers, and its two commands (R122 to R136). -/
def movesSwitch : Instr → Prop
  | .talk _ _ | .pressLapse _ | .guardExpiry | .talkLimitExpiry | .intercomMute _ _ _
  | .intercomTarget _ _ => True
  | _ => False

/-! ### What claims say of starts -/

/-- A start begins with this command: PGOOD rises with RST released, RST is released with PGOOD
asserted, or a RESET's start begins (R3, R6). -/
def StartsNow (s : State) : Instr → Prop
  | .pgoodRise => s.pins.pgood = false ∧ s.pins.rst = false
  | .rstRelease => s.pins.rst = true ∧ s.pins.pgood = true
  | .resetTimerExpiry => s.line.resetTimer.isSome = true
  | .transmissionComplete =>
    s.line.resetTimer.isSome = true ∧ ∃ f, s.line.transmitting = some f ∧ f.answer = true
  | _ => False

/-- The pins after a command that begins a start. -/
def startPins (p : Pins) : Instr → Pins
  | .pgoodRise => { p with pgood := true }
  | .rstRelease => { p with rst := false }
  | _ => p

/-- The filter on TAMPER after the monitor's gives way to the retained store's, which takes the level
it finds (R158). -/
def handedOver (s : State) : TamperFilter :=
  if s.start.loaded = true then { settled := s.pins.tamper, changing := false } else s.tamperFilter

/-- The main domain at its start values, the retained store and the model's own fields as they stand
(R1, R4). -/
def mainLost (s : State) : State :=
  { State.reset with
    pins := s.pins, start := { loaded := false, imageTimer := none, kind := s.start.kind },
    markerValid := s.markerValid, clock := s.clock, tamperFilter := handedOver s, seats := s.seats,
    tags := s.tags, hold := s.hold, accounts := s.accounts, draws := s.draws, pending := s.pending }

end Sys2Proof.Machine
end

