-- ==== Sys2Proof/Certificates/Slice0/Obligations.lean ====
section
/-! DEFINITION. The statements for the provers: what the rules say the CF-14 does. A statement that
rests on a choice of the model names its log entry. A statement in several parts is the conjunction
of its parts, each under `Claims`. -/

open Sys2Proof Sys2Proof.Machine

/-! ### The step and the whole machine -/

/-- A step runs the command at the front of the queue, on the state with the queue's rest; on an empty
queue the block idles, which is the model's choice (notes/assumptions/15.md). -/
def Obligations.StepRunsFrontCommand : Prop :=
  (∀ (c : Instr) (rest : List Instr) (s : State),
    step (s.setPending (c :: rest)) = exec c (s.setPending rest)) ∧
  (∀ s : State, s.pending = [] → step s = .next s)

/-- Every command ends in a next state in every state, never in a fault or a refusal; it leaves the
waiting commands alone, and the count of free values drawn does not fall. -/
def Obligations.EveryCommandCompletes : Prop :=
  ∀ (c : Instr) (s : State), ∃ t, exec c s = .next t ∧ t.pending = s.pending ∧ s.draws ≤ t.draws

/-- The state right after reset obeys every law of the machine; its values where the spec gives none are
the model's choice (notes/assumptions/1.md, 2.md, 4.md, 5.md, 28.md). -/
def Obligations.ResetStateIsInOrder : Prop :=
  QueueLaw State.reset ∧ FifoLaw State.reset ∧ BoundsLaw State.reset ∧ StartLaw State.reset ∧
  PointerLaw State.reset ∧ VacantLaw State.reset ∧ ShiftLaw State.reset ∧ ExclusiveLaw State.reset ∧
  SignLaw State.reset ∧ GateLaw State.reset ∧ TalkTimerLaw State.reset ∧ CallLaw State.reset ∧
  GateTableLaw State.reset ∧ MicrophoneLaw State.reset ∧
  DueLaw State.reset ∧ BooksLaw State.reset ∧ BackedLaw State.reset ∧ PayerLaw State.reset ∧
  ImageLaw State.reset ∧ ProgressLaw State.reset ∧ CountLaw State.reset

/-- The frame of every command of the table: when no command waits in the FIFO, each part of the state
that is not on the command's list stands as before. -/
def Obligations.CommandChangesOnlyItsParts : Prop :=
  ∀ (c : Instr) (s t : State), s.line.fifo = [] → exec c s = .next t →
    ∀ p : Part, p ∉ mayChange c → SamePart s t p

/-! ### Invariants -/

/-- Every step keeps the transmit queue at 16 frames at most, in order of class, with at most one
frame of each coalescing key. -/
def Claims.StepKeepsTransmitQueue : Prop := KeptByStep QueueLaw

/-- Every step keeps the command FIFO, the late list, the speed window, the trip log, the prescaler's
residue, the interval counter, the plausibility count, the tag counter and the lamps' dark and good
counts within their bounds. -/
def Claims.StepKeepsBounds : Prop := KeptByStep FifoLaw ∧ KeptByStep BoundsLaw

/-- Every step keeps the transmit queue's order and keys; the command FIFO, the late list, the speed
window and the trip log within their lengths; and the residue, the interval counter, the plausibility
count, the tag counter and the lamps' dark and good counts within their ranges. The values of a main
domain that is not loaded, which bound these, are partly the model's choice (notes/assumptions/4.md,
5.md, 28.md, 32.md). -/
def Obligations.StepKeepsQueuesAndBounds : Prop :=
  Claims.StepKeepsTransmitQueue ∧ Claims.StepKeepsBounds

/-- Every step keeps the main domain at its start values until load completion. The empty image copy, the
default masks and severities and the mode AUTO among them, and that they stand from the fall of PGOOD or
RST on, are the model's choice (notes/assumptions/4.md, 5.md, 28.md, 32.md); R2's and R4's initial values bind the read of a cold start. -/
def Obligations.StepKeepsStartValues : Prop := KeptByStep StartLaw

/-- Every step keeps the first-cause pointer at a cause whose status is set. -/
def Claims.StepKeepsFirstCause : Prop := KeptByStep PointerLaw

/-- Every step keeps a VACANT seat at its VACANT values. -/
def Claims.StepKeepsVacantRecords : Prop := KeptByStep VacantLaw

/-- Every step keeps the law that the shift is CLOSED only if every seat is VACANT. -/
def Claims.StepKeepsClosedShiftVacant : Prop := KeptByStep ShiftLaw

/-- Every step keeps the law of the exclusive flag: beside an exclusive seat every seat is VACANT. -/
def Claims.StepKeepsExclusiveHire : Prop := KeptByStep ExclusiveLaw

/-- Every step leaves the buffered sign patterns as the sign state of the inputs gives them. -/
def Claims.StepKeepsSignCurrent : Prop := KeptByStep SignLaw

/-- Every step keeps the first-cause pointer at a set status, and the sign's buffers at the sign state. -/
def Obligations.StepKeepsPointerAndSign : Prop :=
  Claims.StepKeepsFirstCause ∧ Claims.StepKeepsSignCurrent

/-- Every step leaves the audio gates as the intercom state, the talk target and the seats give them,
and the intercom timers running exactly in their states. -/
def Claims.StepKeepsGates : Prop := KeptByStep GateLaw ∧ KeptByStep TalkTimerLaw

/-- Every step keeps each of the ten gates at what the table gives for the intercom state. -/
def Claims.StepKeepsGateTable : Prop := KeptByStep GateTableLaw

/-- After every step from a state whose gates and call queue are in order, the driver's microphone gate
and a seat's are not open together, at most one seat's is open, and an open one belongs to the talking
seat, non-VACANT and unmuted. -/
def Claims.StepKeepsMicrophonesApart : Prop :=
  ∀ s t : State, GateTableLaw s → CallLaw s → step s = .next t → MicrophoneLaw t

/-- Every step keeps the call queue free of duplicates and of seats that are VACANT, muted or
released, and the talker out of it. -/
def Claims.StepKeepsCallQueue : Prop := KeptByStep CallLaw

/-- Every step keeps the intercom in order: gates, microphones, timers, call queue and talker. -/
def Obligations.StepKeepsIntercom : Prop :=
  Claims.StepKeepsGates ∧ Claims.StepKeepsGateTable ∧ Claims.StepKeepsMicrophonesApart ∧
  Claims.StepKeepsCallQueue

/-- Every step leaves a seat that stands in DUE or PAYING with a due above 0. -/
def Claims.StepKeepsDueAboveZero : Prop := KeptByStep DueLaw

/-- Every step keeps the seat records in order: VACANT values, a CLOSED shift without passengers, an
exclusive seat alone, and a due above 0 in DUE and PAYING. -/
def Obligations.StepKeepsSeatRecords : Prop :=
  Claims.StepKeepsVacantRecords ∧
  Claims.StepKeepsClosedShiftVacant ∧
  Claims.StepKeepsExclusiveHire ∧
  Claims.StepKeepsDueAboveZero

/-- Every step keeps the books: fares and extras within their bounds, paid as the sum of the payment
entries and never beyond what is owed, and the shift's fares and extras equal to its payments and
waivers. The start values that it keeps with them are partly the model's choice
(notes/assumptions/4.md, 5.md, 28.md, 32.md). -/
def Obligations.StepKeepsBooksBalanced : Prop := KeptByStep BooksLaw

/-- Every step keeps charges and seats in step: a seat is PAYING exactly while a charge names it, and
no reader carries two charges. -/
def Claims.StepKeepsChargesAndSeats : Prop := KeptByStep ChargeLaw

/-- Every step keeps the payer map's law: no scope twice, none without a passenger, none spent to its
limit. -/
def Claims.StepKeepsPayerMap : Prop := KeptByStep PayerLaw

/-- Every step keeps each charge in flight backed by its payer: the payer at its index is CHARGING for
its seat, by a card of the reader that its slot names, and no payer is CHARGING without such a charge. -/
def Claims.StepKeepsChargesBacked : Prop := KeptByStep BackedLaw

/-- Every step keeps charges, seats and payers in step. The start values that it keeps with them are partly
the model's choice (notes/assumptions/4.md, 5.md, 28.md, 32.md). -/
def Obligations.StepKeepsChargesAndPayers : Prop :=
  Claims.StepKeepsChargesAndSeats ∧ Claims.StepKeepsChargesBacked ∧ Claims.StepKeepsPayerMap

/-- Every step keeps the selected band within the bands of a good image, and the part HELD by CONFIG
under a rejected one. -/
def Obligations.StepKeepsImageInForce : Prop := KeptByStep ImageLaw

/-- Every step leaves each seat's progress below S′ of its active band. The start values that it keeps with
it are partly the model's choice (notes/assumptions/4.md, 5.md, 28.md, 32.md). -/
def Obligations.StepKeepsProgressBelowStep : Prop := KeptByStep ProgressLaw

/-- Every step keeps the totalizers and counters within their bounds, and, while the validity marker
is valid, lowers no totalizer: only a cold start does. -/
def Obligations.TotalizersNeverFall : Prop :=
  KeptByStep CountLaw ∧
  ∀ s t : State, CountLaw s → s.markerValid = true → step s = .next t →
    TotalizersGrow s.accounts.totalizers t.accounts.totalizers

/-! ### Encodings -/

/-- The payload of a COMMAND frame spells its command: no bit of an argument is lost. -/
def Obligations.PayloadSpellsItsCommand : Prop :=
  ∀ (seq : Byte) (c : Command), decodeCommand (commandPayload seq c) = some c

/-- The bytes of a frame on the line spell the frame: what the CF-14 puts on the line, header, payload
and check, reads back as it was. -/
def Obligations.LineBytesSpellTheirFrame : Prop :=
  ∀ f : RxFrame, headerOk f = true → parseFrame (frameBytes f) = some f

/-! ### Supplies and starts -/

/-- A cold start empties the late list and the in-flight slots and sets the tag counter to 0, so that
its first tag is 1; it sets every seat record to its VACANT values with every display copy invalid;
and its load completion raises no BREAK and takes up no charge. -/
def Claims.ColdStartClearsSeatsAndTags : Prop :=
  (∀ (c : Instr) (s : State), StartsNow s c → s.markerValid = false →
    ∃ t, exec c s = .next t ∧
      t.tags.late = [] ∧ t.tags.counter = 0 ∧ newTag t.tags = 1 ∧
      ∀ q : Seat, t.tags.slots.get q = none ∧ t.charges.get q = none ∧ t.seat q = vacantSeat ∧
        (t.seat q).state ≠ .paying ∧ t.display.get q = none) ∧
  (∀ (image : List Byte) (s : State), s.start.imageTimer.isSome = true → s.start.kind = .cold →
    ∃ t, exec (.loadCompletion image) s = .next t ∧
      t.hold.status.brk = s.hold.status.brk ∧ t.seats = s.seats ∧ t.tags = s.tags ∧
      t.charges = s.charges)

/-- A start, whichever event begins it, puts the main domain at its start values with the image read
under way. With a valid marker it is warm and keeps every retained item; with a failed one it is cold,
sets every retained item to its initial value, and leaves the marker valid. The image copy, the
settings and the mode that a start leaves, and the one TAMPER filter handed over, are the model's
choice (notes/assumptions/4.md, 5.md, 20.md, 28.md). -/
def Claims.StartIsWarmOrCold : Prop :=
  ∀ (c : Instr) (s : State), StartsNow s c →
    (s.markerValid = true →
      exec c s = .next { mainLost s with
        pins := startPins s.pins c,
        start := { loaded := false, imageTimer := some 500, kind := .warm } }) ∧
    (s.markerValid = false →
      exec c s = .next { State.reset with
        pins := startPins s.pins c, tamperFilter := handedOver s, draws := s.draws,
        pending := s.pending })

/-- What a start does, cold or warm, and what a cold start leaves; the values of
notes/assumptions/4.md, 5.md, 20.md and 28.md are the model's choice. -/
def Obligations.StartClearsOrKeepsRetainedStore : Prop :=
  Claims.ColdStartClearsSeatsAndTags ∧ Claims.StartIsWarmOrCold

/-- A fall of PGOOD or of RST loses the main domain and keeps the retained store; a supply that is
already so, or a rise that the other supply holds back, only moves the pin; the loss of the backup
supply fails the marker alone. That what is lost stands at its start values at once, the image copy,
settings and mode there, and the TAMPER filter handed over are the model's choice
(notes/assumptions/4.md, 5.md, 20.md, 28.md, 32.md). -/
def Obligations.SuppliesStopMainDomain : Prop :=
  ∀ s : State,
    (s.pins.pgood = true →
      exec .pgoodFall s = .next { mainLost s with pins := { s.pins with pgood := false } }) ∧
    (s.pins.pgood = false → exec .pgoodFall s = .next s) ∧
    (s.pins.rst = false →
      exec .rstAssert s = .next { mainLost s with pins := { s.pins with rst := true } }) ∧
    (s.pins.rst = true → exec .rstAssert s = .next s) ∧
    (s.pins.pgood = true → exec .pgoodRise s = .next s) ∧
    (s.pins.pgood = false → s.pins.rst = true →
      exec .pgoodRise s = .next { s with pins := { s.pins with pgood := true } }) ∧
    (s.pins.rst = false → exec .rstRelease s = .next s) ∧
    (s.pins.rst = true → s.pins.pgood = false →
      exec .rstRelease s = .next { s with pins := { s.pins with rst := false } }) ∧
    exec .vbakLoss s = .next { s with markerValid := false }

/-- A rejected image puts the fallback in force and the part in HELD with CONFIG set: no roster, no
band, no interval timer. A read that runs past its limit is a rejected image. -/
def Claims.RejectedImageEntersHold : Prop :=
  ∀ (image : List Byte) (s : State), s.start.imageTimer.isSome = true →
    exec .imageReadTimeout s = exec (.loadCompletion []) s ∧
    (loadImage []).tariff.good = false ∧
    ((loadImage image).tariff.good = false →
      ∃ t, exec (.loadCompletion image) s = .next t ∧
        t.start = { loaded := true, imageTimer := none, kind := s.start.kind } ∧
        t.tariff = tariffFallback ∧ t.line.roster = [] ∧ t.band = { mode := .auto, selected := 0 } ∧
        t.motion = s.motion ∧ t.line.statusTimer = some 1000 ∧ t.sign.timebase = some 4 ∧
        t.hold.held = true ∧ t.hold.status.config = true ∧ t.monitor.condition.config = true ∧
        t.monitor.masked = causesOf false ∧ t.monitor.note = defaultNote)

/-- A good image comes into force at load completion, with every roster entry SILENT, the filter at
the pin's level, the timers running, AUTO evaluated, and CONFIG's status clear. -/
def Claims.GoodImageComesIntoForce : Prop :=
  ∀ (image : List Byte) (s : State), s.start.imageTimer.isSome = true →
    (loadImage image).tariff.good = true →
    ∃ t, exec (.loadCompletion image) s = .next t ∧
      t.start = { loaded := true, imageTimer := none, kind := s.start.kind } ∧
      t.tariff = (loadImage image).tariff ∧ t.line.roster = (loadImage image).roster ∧
      (∀ e ∈ t.line.roster, e.timer = none) ∧ t.line.statusTimer = some 1000 ∧
      t.motion = { s.motion with settled := some s.pins.pulse, intervalTimer := some 200 } ∧
      t.sign.timebase = some 4 ∧
      t.band = { mode := .auto, selected := evaluateBand (loadImage image).tariff s.clock } ∧
      t.monitor.masked = (loadImage image).masked ∧ t.monitor.note = (loadImage image).note ∧
      t.hold.status.config = false ∧
      t.monitor.condition =
        { causesOf false with clock := !s.clock.valid, tamper := s.pins.tamper } ∧
      t.tamperFilter = { settled := s.pins.tamper, changing := false }

/-- The causes at load completion: CONFIG stands exactly with a rejected image, CLOCK is raised while the
clock is invalid, TAMPER while the input is asserted, BREAK by a warm start that found an open fare, and
every other retained status stays; the raises of the first three carry the CF-14's own address. A part
found HELD stays so, with its trigger record and count, and queues no HOLD_EVENT. A RUNNING part enters
HELD exactly if a cause whose status then stands is unmasked and of HOLD severity. The trigger is the
first of CONFIG, CLOCK and TAMPER so raised, else the lowest-numbered such cause, and its HOLD_EVENT is
queued; that is stated where no BREAK of HOLD severity is raised, whose order R167 leaves open. -/
def Claims.LoadCompletionTakesCauses : Prop :=
  ∀ (image : List Byte) (s : State), s.start.imageTimer.isSome = true →
    let l := loadImage image
    let own := l.tariff.own
    let broken := s.start.kind = .warm ∧
      ∃ q : Seat, (s.seat q).state = .hired ∨ (s.seat q).state = .paying
    let present := fun (c : Cause) => c = .config ∧ l.tariff.good = false
      ∨ c = .clock ∧ s.clock.valid = false ∨ c = .tamper ∧ s.pins.tamper = true
    let stands := fun (c : Cause) => present c ∨ c = .brk ∧ broken
      ∨ c ≠ .config ∧ s.hold.status.get c = true
    let holds := fun (c : Cause) => stands c ∧ l.masked.get c = false ∧ l.note.get c = false
    let n := min max24 (s.hold.count + 1)
    ∃ t, exec (.loadCompletion image) s = .next t ∧
      (∀ c : Cause, t.hold.status.get c = true ↔ stands c) ∧
      (∀ c : Cause, present c → t.monitor.lastSource.get c = own) ∧
      (t.hold.held = true ↔ s.hold.held = true ∨ ∃ c : Cause, holds c) ∧
      (s.hold.held = true →
        t.hold.trigger = s.hold.trigger ∧ t.hold.count = s.hold.count ∧
        (s.line.queue = [] → ∀ f ∈ t.line.queue, f.body.kind ≠ 4)) ∧
      (s.hold.held = false → (∀ c : Cause, ¬holds c) →
        t.hold.trigger = s.hold.trigger ∧ t.hold.count = s.hold.count) ∧
      (s.hold.held = false → ¬(broken ∧ holds .brk) → ∀ c : Cause,
        holds c ∧ (c = .config ∧ present .config
          ∨ c = .clock ∧ present .clock ∧ ¬holds .config
          ∨ c = .tamper ∧ present .tamper ∧ ¬holds .config ∧ ¬(present .clock ∧ holds .clock)
          ∨ (∀ d : Cause, present d → ¬holds d) ∧ ∀ d : Cause, d.number < c.number → ¬holds d) →
        t.hold.pointer = some c ∧ t.hold.count = n ∧
        t.hold.trigger = { cause := some c, source := own, time := s.clock.time,
                           valid := s.clock.valid, number := n } ∧
        (s.line.queue = [] →
          { dest := broadcast, answer := false,
            body := .holdEvent false (some c) (some c) own } ∈ t.line.queue))

/-- The frames of load completion: an INTERCOM_STATE of the switch at its start values with a good image,
and none with a rejected one; and a STATUS. That the STATUS carries what the load completion leaves is
the model's choice (notes/assumptions/7.md); it is stated where no seat closes, since the pages of a
report may fill the queue. -/
def Claims.LoadCompletionQueuesFrames : Prop :=
  ∀ (image : List Byte) (s : State), s.start.imageTimer.isSome = true → s.line.queue = [] →
    s.intercom = intercomStart →
    ∃ t, exec (.loadCompletion image) s = .next t ∧
      ((loadImage image).tariff.good = true →
        { dest := broadcast, answer := false,
          body := .intercomState ⟨.idle, [], seatsOf false⟩ } ∈ t.line.queue) ∧
      ((loadImage image).tariff.good = false → ∀ f ∈ t.line.queue, f.body.kind ≠ 34) ∧
      ((∀ q : Seat, (s.seat q).state = .hired ∨ (s.seat q).state = .paying → 0 < (s.seat q).due) →
        { dest := broadcast, answer := false, body := .status (statusReport t) } ∈ t.line.queue)

/-- What load completion puts in force, with a good image and with a rejected one, the causes it takes and
the frames it queues; the one TAMPER filter is the model's (notes/assumptions/20.md). -/
def Obligations.LoadPutsImageOrFallbackInForce : Prop :=
  Claims.RejectedImageEntersHold ∧ Claims.GoodImageComesIntoForce ∧
  Claims.LoadCompletionTakesCauses ∧ Claims.LoadCompletionQueuesFrames

/-- A warm start's load completion turns each HIRED or PAYING seat to DUE with the BREAK mark and the
clock as its stop clock, closes it if it owes nothing, sets Q to 0, clears the fresh flag, keeps every
other field, raises BREAK if it found such a seat, and empties the in-flight slots. -/
def Claims.WarmStartTurnsSeats : Prop :=
  ∀ (image : List Byte) (s : State), s.start.imageTimer.isSome = true → s.start.kind = .warm →
    ∃ t, exec (.loadCompletion image) s = .next t ∧
      t.tags.counter = s.tags.counter ∧
      ((∃ q : Seat, (s.seat q).state = .hired ∨ (s.seat q).state = .paying) →
        t.hold.status.brk = true) ∧
      ∀ q : Seat, t.tags.slots.get q = none ∧
        ((s.seat q).state = .vacant → t.seat q = s.seat q) ∧
        ((s.seat q).state = .due → t.seat q = { s.seat q with progress := 0, fresh := false }) ∧
        ((s.seat q).state = .hired ∨ (s.seat q).state = .paying →
          ((s.seat q).due = 0 → t.seat q = vacantSeat) ∧
          (0 < (s.seat q).due →
            t.seat q = { s.seat q with
              state := .due, progress := 0, fresh := false, brk := true,
              stopClock := some s.clock.time }))

/-- A warm start's load completion moves the tag of each in-flight slot to the late list, in ascending
seat number, and queues its CHARGE_CANCEL to the slot's reader if the roster now in force lists that
reader; no other CHARGE_CANCEL is queued. -/
def Claims.WarmStartRetiresTags : Prop :=
  ∀ (image : List Byte) (s : State), s.start.imageTimer.isSome = true → s.start.kind = .warm →
    s.line.queue = [] →
    ∃ t, exec (.loadCompletion image) s = .next t ∧
      t.tags.late = allSeats.foldl
        (fun late q => match s.tags.slots.get q with
          | some e => addLate e late
          | none => late) s.tags.late ∧
      (∀ (q : Seat) (e : Tag), s.tags.slots.get q = some e →
        (∃ x ∈ (loadImage image).roster, x.cls = .reader ∧ x.addr = e.reader) →
        { dest := e.reader, answer := false, body := .chargeCancel e.tag } ∈ t.line.queue) ∧
      (∀ f ∈ t.line.queue, ∀ tag, f.body = .chargeCancel tag →
        ∃ (q : Seat) (e : Tag), s.tags.slots.get q = some e ∧ e.tag = tag ∧ f.dest = e.reader ∧
          ∃ x ∈ (loadImage image).roster, x.cls = .reader ∧ x.addr = e.reader)

/-- A warm start's load completion: the seats, and the tags of the charges that were in flight. -/
def Obligations.WarmStartTurnsOpenSeats : Prop :=
  Claims.WarmStartTurnsSeats ∧ Claims.WarmStartRetiresTags

/-- An image comes into force only if K_raw × e is within 250 × p and 20,000 × p, whatever the other
fields are, and then every band's Np is within 3 and 40,000. -/
def Claims.PulseCheckBoundsStepSizes : Prop :=
  ∀ image : List Byte, (loadImage image).tariff.good = true →
    250 * (loadImage image).tariff.prescale ≤ pulsesPerKm (loadImage image).tariff ∧
    pulsesPerKm (loadImage image).tariff ≤ 20000 * (loadImage image).tariff.prescale ∧
    ∀ b ∈ (loadImage image).tariff.bands, 3 ≤ b.np ∧ b.np ≤ 40000

/-- The step sizes of a good image's bands: Np to the nearest whole count, Nt five to the second, S′ a
thousand times their product; a rejected image derives none. -/
def Claims.StepSizesAreDerived : Prop :=
  ∀ image : List Byte,
    (∀ b ∈ (loadImage image).tariff.bands,
      b.np = (pulsesPerKm (loadImage image).tariff * b.length
        + 500 * (loadImage image).tariff.prescale) / (1000 * (loadImage image).tariff.prescale) ∧
      b.nt = b.timeStep * 5 ∧ b.size = b.np * b.nt * 1000 ∧ 5 ≤ b.nt ∧ b.nt ≤ 3000 ∧
      15000 ≤ b.size ∧ b.size ≤ 120000000000) ∧
    ((loadImage image).tariff.good = false → (loadImage image).tariff.bands = [])

/-- An image comes into force exactly if it passes every check: its mark and length, its CRC, the range of
every field, the roster's rules, the pulse constants, the bands, share table and schedule within their
counts, the three timeouts, and the seven cause settings. That fewer than 147 bytes read are a missing
image and bytes after the 147th no part of it is the model's choice (notes/assumptions/27.md). -/
def Claims.ImageIsChecked : Prop :=
  ∀ image : List Byte,
    let u8 := fun (o : Nat) => (image.getD o 0).toNat
    let u16 := fun (o : Nat) => u8 o * 256 + u8 (o + 1)
    let within := fun (lo hi n : Nat) => lo ≤ n ∧ n ≤ hi
    let address := fun (i : Nat) => u8 (6 + 3 * i)
    let cls := fun (i : Nat) => u8 (7 + 3 * i)
    let binding := fun (i : Nat) => u8 (8 + 3 * i)
    let count := fun (k : Nat) => ((List.range (u8 5)).filter (fun i => cls i = k)).length
    let timeout := fun (lo hi n : Nat) => n = 0 ∨ n % 64 ≠ 0 ∧ within lo hi (n % 64 * 10 ^ (n / 64 + 1))
    let e := if u8 44 = 2 then 2 else 1
    let p := [1, 2, 4, 16].getD (u8 45) 0
    (loadImage image).tariff.good = true ↔
      147 ≤ image.length ∧ u16 0 = 0x5A3C ∧ u16 2 = 147 ∧
      u16 145 = (crc16 (image.take 145)).toNat ∧
      within 1 62 (u8 4) ∧ u8 5 ≤ 12 ∧ within 500 40000 (u16 42) ∧ u8 44 ≤ 2 ∧ u8 45 ≤ 3 ∧
      within 20 500 (u16 46) ∧ within 1 4 (u8 48) ∧ u8 93 ≤ 8 ∧ u8 126 ≤ 1 ∧ u8 127 ≤ 50 ∧
      within 50 300 (u16 131) ∧ within 2 20 (u8 133) ∧ within 1 20 (u8 134) ∧
      within 1 20 (u8 135) ∧ u8 136 ≤ u8 137 ∧
      (∀ i : Nat, i < u8 5 →
        within 1 62 (address i) ∧ address i ≠ u8 4 ∧ cls i ≤ 5 ∧ binding i ≤ 5 ∧
        (cls i = 2 → within 1 4 (binding i)) ∧ (cls i = 3 → binding i ≠ 0) ∧
        (cls i ≠ 2 → cls i ≠ 3 → binding i = 0)) ∧
      (∀ i j : Nat, i < j → j < u8 5 →
        address i ≠ address j ∧
        (cls i = cls j → cls i = 2 ∨ cls i = 3 → binding i ≠ binding j)) ∧
      count 0 ≤ 1 ∧ count 1 ≤ 1 ∧ count 4 ≤ 1 ∧ count 5 ≤ 4 ∧
      within (250 * p) (20000 * p) (u16 42 * e) ∧
      (∀ i : Nat, i < u8 48 →
        u16 (49 + 9 * i) ≤ 9999 ∧ u8 (51 + 9 * i) ≤ 99 ∧ within 1 9999 (u16 (52 + 9 * i)) ∧
        within 10 2000 (u16 (54 + 9 * i)) ∧ within 1 600 (u16 (56 + 9 * i))) ∧
      u16 85 = 1000 ∧ (∀ k : Nat, k < 4 → within 100 1000 (u16 (85 + 2 * k))) ∧
      u16 87 ≤ u16 85 ∧ u16 89 ≤ u16 87 ∧ u16 91 ≤ u16 89 ∧
      (∀ i : Nat, i < u8 93 →
        within 1 127 (u8 (94 + 4 * i)) ∧ u16 (95 + 4 * i) ≤ 1439 ∧
        within 1 (u8 48) (u8 (97 + 4 * i))) ∧
      timeout 10000 250000 (u8 128) ∧ timeout 50 500 (u8 129) ∧ timeout 5000 120000 (u8 130) ∧
      (∀ k : Nat, k < 7 → u8 (138 + k) ≤ 4)

/-- What an image brings: a good one its fields, each timeout with its default for 00, each cause setting
with its default for 0, and its CRC as identity; a rejected one the fallback. -/
def Claims.ImageFieldsAreTaken : Prop :=
  ∀ image : List Byte,
    let l := loadImage image
    let u8 := fun (o : Nat) => (image.getD o 0).toNat
    let u16 := fun (o : Nat) => u8 o * 256 + u8 (o + 1)
    let timeout := fun (default n : Nat) => if n = 0 then default else n % 64 * 10 ^ (n / 64 + 1)
    let setting := fun (c : Cause) (default : Bool) (n : Nat) =>
      l.masked.get c = decide (3 ≤ n) ∧
      l.note.get c = (if n = 0 then default else decide (n = 2 ∨ n = 4))
    (l.tariff.good = false →
      l.tariff = tariffFallback ∧ l.roster = [] ∧ l.masked = causesOf false ∧
      l.note = { causesOf false with lamp := true, source := true, brk := true, peer := true }) ∧
    (l.tariff.good = true →
      l.tariff.identity = (crc16 (image.take 145)).toNat ∧ l.tariff.own = u8 4 ∧
      l.tariff.kRaw = u16 42 ∧
      l.tariff.edge = (if u8 44 = 0 then .falling else if u8 44 = 1 then .rising else .both) ∧
      l.tariff.prescale = [1, 2, 4, 16].getD (u8 45) 0 ∧ l.tariff.minWidth = u16 46 ∧
      l.tariff.bands.length = u8 48 ∧
      (∀ (i : Nat) (b : Band), l.tariff.bands[i]? = some b →
        b.flagFall = u16 (49 + 9 * i) ∧ b.freeSteps = u8 (51 + 9 * i) ∧
        b.amount = u16 (52 + 9 * i) ∧ b.length = u16 (54 + 9 * i) ∧
        b.timeStep = u16 (56 + 9 * i)) ∧
      l.tariff.shares = [u16 85, u16 87, u16 89, u16 91] ∧
      l.tariff.schedule.length = u8 93 ∧
      (∀ (i : Nat) (e : ScheduleEntry), l.tariff.schedule[i]? = some e →
        e.days.toNat = u8 (94 + 4 * i) ∧ e.start = u16 (95 + 4 * i) ∧ e.band = u8 (97 + 4 * i)) ∧
      l.tariff.manualAllowed = decide (u8 126 = 1) ∧ l.tariff.tipPercent = u8 127 ∧
      l.tariff.chargeTimeout = timeout 60000 (u8 128) ∧
      l.tariff.guardTime = timeout 150 (u8 129) ∧ l.tariff.talkLimit = timeout 30000 (u8 130) ∧
      l.tariff.vMin = u16 131 ∧ l.tariff.nPlaus = u8 133 ∧ l.tariff.dayDuty = u8 134 ∧
      l.tariff.nightDuty = u8 135 ∧ l.tariff.nightBelow = u8 136 ∧ l.tariff.dayAbove = u8 137 ∧
      l.roster.length = u8 5 ∧
      (∀ (i : Nat) (x : Station), l.roster[i]? = some x →
        x.addr = u8 (6 + 3 * i) ∧ classValue x.cls = u8 (7 + 3 * i) ∧
        x.binding = u8 (8 + 3 * i) ∧ x.timer = none) ∧
      (∀ c ∈ [Cause.config, .tamper, .console], l.masked.get c = false ∧ l.note.get c = false) ∧
      setting .clock false (u8 138) ∧ setting .overrun false (u8 139) ∧
      setting .pulseLoss false (u8 140) ∧ setting .lamp true (u8 141) ∧
      setting .source true (u8 142) ∧ setting .brk true (u8 143) ∧ setting .peer true (u8 144))

/-- The checks of the image, the fields it brings, the pulse check and the step sizes it bounds; the bytes
that the read gives are the model's (notes/assumptions/27.md). -/
def Obligations.StepSizesAreBoundedAndDerived : Prop :=
  Claims.ImageIsChecked ∧ Claims.ImageFieldsAreTaken ∧ Claims.PulseCheckBoundsStepSizes ∧
  Claims.StepSizesAreDerived

/-! ### Clock and band -/

/-- The clock advances one second at a tick, from 86,399 to 0 of the next day and from day 7 to day 1,
whether it is valid or not; a value that is a multiple of 60 seconds is a minute boundary, at which the
selected band is evaluated in AUTO while the main domain runs; nothing else happens. That the tick
passes its boundary itself, and that the row MINUTE_BOUNDARY repeats the evaluation, is the model's
choice (notes/assumptions/18.md). -/
def Claims.ClockTicksAndMinutes : Prop :=
  ∀ s : State,
    let next : DayTime :=
      if s.clock.time.seconds = 86399 then
        ⟨if s.clock.time.day = 7 then 1 else s.clock.time.day + 1, 0⟩
      else ⟨s.clock.time.day, s.clock.time.seconds + 1⟩
    let ticked := { s with clock := { s.clock with time := next } }
    let evaluated := fun (t : State) =>
      { t with band := { t.band with selected := evaluateBand t.tariff t.clock } }
    (s.clock.time.seconds ≤ 86399 →
      (next.seconds % 60 ≠ 0 ∨ s.start.loaded = false ∨ s.band.mode = .manual →
        exec .clockTick s = .next ticked) ∧
      (next.seconds % 60 = 0 → s.start.loaded = true → s.band.mode = .auto →
        exec .clockTick s = .next (evaluated ticked))) ∧
    (s.clock.time.seconds % 60 = 0 → s.start.loaded = true → s.band.mode = .auto →
      exec .minuteBoundary s = .next (evaluated s)) ∧
    (s.clock.time.seconds % 60 ≠ 0 ∨ s.start.loaded = false ∨ s.band.mode = .manual →
      exec .minuteBoundary s = .next s)

/-- What the evaluation of the band schedule selects: the last entry in image order among those of the
day with the latest start minute not later than now; else the same of the previous day at any time;
else band 1. It selects band 1 while the clock is invalid or the schedule is empty, and none with a
rejected image. -/
def Obligations.ScheduleSelectsBand : Prop :=
  ∀ (t : Tariff) (c : Clock),
    (t.good = false → evaluateBand t c = 0) ∧
    (t.good = true → c.valid = false ∨ t.schedule = [] → evaluateBand t c = 1) ∧
    (t.good = true → c.valid = true →
      (∀ (before after : List ScheduleEntry) (e : ScheduleEntry),
        t.schedule = before ++ e :: after →
        coversDay e c.time.day = true → e.start ≤ c.time.seconds / 60 →
        (∀ x ∈ before, coversDay x c.time.day = true → x.start ≤ c.time.seconds / 60 →
          x.start ≤ e.start) →
        (∀ x ∈ after, coversDay x c.time.day = true → x.start ≤ c.time.seconds / 60 →
          x.start < e.start) →
        evaluateBand t c = e.band) ∧
      ((∀ x ∈ t.schedule, coversDay x c.time.day = true → c.time.seconds / 60 < x.start) →
        (∀ (before after : List ScheduleEntry) (e : ScheduleEntry),
          t.schedule = before ++ e :: after →
          coversDay e (if c.time.day = 1 then 7 else c.time.day - 1) = true →
          (∀ x ∈ before, coversDay x (if c.time.day = 1 then 7 else c.time.day - 1) = true →
            x.start ≤ e.start) →
          (∀ x ∈ after, coversDay x (if c.time.day = 1 then 7 else c.time.day - 1) = true →
            x.start < e.start) →
          evaluateBand t c = e.band) ∧
        ((∀ x ∈ t.schedule,
            coversDay x (if c.time.day = 1 then 7 else c.time.day - 1) = false) →
          evaluateBand t c = 1)))

/-- SET_CLOCK and SET_BAND, every form: the range checks, the refusals, and what they set. -/
def Claims.SetClockAndSetBand : Prop :=
  ∀ (s : State) (a : Nat) (seq day n : Byte) (seconds : Word24), ConsoleReady s a →
    (day.toNat < 1 ∨ 7 < day.toNat ∨ 86399 < seconds.toNat →
      exec (.setClock seq day seconds) s
        = .next (answered a seq (.setClock day seconds) .range [] s)) ∧
    (1 ≤ day.toNat → day.toNat ≤ 7 → seconds.toNat ≤ 86399 →
      ((∃ q : Seat, (s.seat q).state ≠ .vacant) →
        exec (.setClock seq day seconds) s
          = .next (answered a seq (.setClock day seconds) .state [] s)) ∧
      ((∀ q : Seat, (s.seat q).state = .vacant) →
        exec (.setClock seq day seconds) s
          = .next (answered a seq (.setClock day seconds) .ok []
              { s with
                clock := { time := ⟨day.toNat, seconds.toNat⟩, valid := true },
                monitor := { s.monitor with
                  condition := { s.monitor.condition with clock := false } },
                band := { s.band with
                  selected :=
                    if s.band.mode = .auto then
                      evaluateBand s.tariff { time := ⟨day.toNat, seconds.toNat⟩, valid := true }
                    else s.band.selected } }))) ∧
    (4 < n.toNat →
      exec (.setBand seq n) s = .next (answered a seq (.setBand n) .range [] s)) ∧
    (n.toNat = 0 →
      exec (.setBand seq n) s
        = .next (answered a seq (.setBand n) .ok []
            { s with band := { mode := .auto, selected := evaluateBand s.tariff s.clock } })) ∧
    (1 ≤ n.toNat → n.toNat ≤ 4 →
      (s.tariff.manualAllowed = false →
        exec (.setBand seq n) s = .next (answered a seq (.setBand n) .state [] s)) ∧
      (s.tariff.manualAllowed = true → s.tariff.bands.length < n.toNat →
        exec (.setBand seq n) s = .next (answered a seq (.setBand n) .range [] s)) ∧
      (s.tariff.manualAllowed = true → n.toNat ≤ s.tariff.bands.length →
        exec (.setBand seq n) s
          = .next (answered a seq (.setBand n) .ok []
              { s with band := { mode := .manual, selected := n.toNat } })))

/-- The clock's second and minute (the rows' shares of it are notes/assumptions/18.md), SET_CLOCK and
SET_BAND. -/
def Obligations.ClockAndBandAreSet : Prop :=
  Claims.ClockTicksAndMinutes ∧ Claims.SetClockAndSetBand

/-! ### Motion -/

/-- The pulse chain: the filter begins or discards a change of the pin; a settled edge that the edge
mode passes adds to the prescaler's residue, and the edge that fills it emits one count, which the
interval counter holds at 255; an edge that is not passed has no effect beyond the settled level. A
settled edge with no change under way does nothing, which is the model's choice
(notes/assumptions/13.md). -/
def Obligations.PulseChainCounts : Prop :=
  ∀ (s : State) (l : Level),
    (s.motion.settled = none →
      exec (.pulseChange l) s = .next { s with pins := { s.pins with pulse := l } }) ∧
    (∀ m : Level, s.motion.settled = some m →
      exec (.pulseChange l) s = .next { s with
        pins := { s.pins with pulse := l },
        motion := { s.motion with changing := decide (l ≠ m) } }) ∧
    (s.motion.changing = false → exec .settledEdge s = .next s) ∧
    (s.motion.changing = true →
      (s.tariff.edge = .falling ∧ s.pins.pulse = .high
          ∨ s.tariff.edge = .rising ∧ s.pins.pulse = .low →
        exec .settledEdge s = .next { s with
          motion := { s.motion with settled := some s.pins.pulse, changing := false } }) ∧
      (s.tariff.edge = .both ∨ s.tariff.edge = .falling ∧ s.pins.pulse = .low
          ∨ s.tariff.edge = .rising ∧ s.pins.pulse = .high →
        (s.motion.residue + 1 < s.tariff.prescale →
          exec .settledEdge s = .next { s with
            motion := { s.motion with
              settled := some s.pins.pulse, changing := false,
              residue := s.motion.residue + 1 } }) ∧
        (s.tariff.prescale ≤ s.motion.residue + 1 →
          exec .settledEdge s = .next { s with
            motion := { s.motion with
              settled := some s.pins.pulse, changing := false, residue := 0,
              counter := min 255 (s.motion.counter + 1) } })))

/-- An interval expiry: the counter is captured and cleared, a Δp of 255 raises OVERRUN before it is
delivered, every HIRED seat accrues under the hold state that the raise left, the distance goes to the
total and hired totalizers and to one of the shift's three totals, the speed window takes Δp and the
speed is recomputed, and a Δp above 0 clears the plausibility count. That seats and accounts take the
delivery in one step is the model's choice (notes/assumptions/33.md). -/
def Obligations.IntervalExpiryDelivers : Prop :=
  ∀ s : State, s.line.fifo = [] → s.motion.intervalTimer.isSome = true →
    ∃ t, exec .intervalExpiry s = .next t ∧
      t.motion.counter = 0 ∧
      t.motion.residue = s.motion.residue ∧
      t.motion.window
        = (if s.motion.window.length < 5 then s.motion.window else s.motion.window.drop 1)
            ++ [s.motion.counter] ∧
      t.motion.speed
        = min 65535 (t.motion.window.sum * 36000 * s.tariff.prescale / pulsesPerKm s.tariff) ∧
      t.motion.plausibility = (if 0 < s.motion.counter then 0 else s.motion.plausibility) ∧
      (0 < s.motion.counter → t.monitor.condition.pulseLoss = false) ∧
      t.hold.held = (s.hold.held || (s.motion.counter = 255 && !s.monitor.masked.overrun
        && !s.monitor.note.overrun)) ∧
      (s.motion.counter = 255 → t.hold.status.overrun = true) ∧
      (∀ q : Seat, t.seat q
        = accrueSeat s.tariff s.band.selected t.hold.held s.motion.counter (riders s.seats)
            (s.seat q)) ∧
      let add := addDistance s.tariff max32 s.motion.counter
      let x := s.accounts.shift.totals
      let ofShift := s.accounts.shift.state ≠ .closed
      let hired := 0 < riders s.seats
      t.accounts.totalizers.total = add s.accounts.totalizers.total ∧
      t.accounts.totalizers.hired
        = (if hired ∧ t.hold.held = false then add s.accounts.totalizers.hired
           else s.accounts.totalizers.hired) ∧
      t.accounts.shift.totals.hired
        = (if ofShift ∧ hired ∧ t.hold.held = false then add x.hired else x.hired) ∧
      t.accounts.shift.totals.held
        = (if ofShift ∧ hired ∧ t.hold.held = true then add x.held else x.held) ∧
      t.accounts.shift.totals.unhired
        = (if ofShift ∧ ¬hired then add x.unhired else x.unhired)

/-- Where an interval's distance goes: to the total at every delivery, to the hired totalizer if some
seat is HIRED while RUNNING, and to exactly one of the shift's three totals while the shift is OPEN or
CLOSING. -/
def Claims.DistanceGoesToOneTotal : Prop :=
  ∀ (dp : Nat) (s : State),
    let t := deliverDistance dp s
    let x := s.accounts.shift.totals
    let hired := ∃ q : Seat, (s.seat q).state = .hired
    t.accounts.totalizers.total = addDistance s.tariff max32 dp s.accounts.totalizers.total ∧
    (hired ∧ s.hold.held = false →
      t.accounts.totalizers.hired = addDistance s.tariff max32 dp s.accounts.totalizers.hired) ∧
    (¬hired ∨ s.hold.held = true →
      t.accounts.totalizers.hired = s.accounts.totalizers.hired) ∧
    (s.accounts.shift.state = .closed → t.accounts.shift.totals = x) ∧
    (s.accounts.shift.state ≠ .closed →
      (hired → s.hold.held = false →
        t.accounts.shift.totals = { x with hired := addDistance s.tariff max32 dp x.hired }) ∧
      (hired → s.hold.held = true →
        t.accounts.shift.totals = { x with held := addDistance s.tariff max32 dp x.held }) ∧
      (¬hired →
        t.accounts.shift.totals = { x with unhired := addDistance s.tariff max32 dp x.unhired }))

/-- The distance converter loses no fraction of a metre over any run of intervals: below the limit it
is held at, the metres and the remainder together stand for every count taken. -/
def Claims.DistanceConverterIsExact : Prop :=
  ∀ (t : Tariff) (limit : Nat) (counts : List Nat) (m : Metres), 0 < pulsesPerKm t →
    m.metres + (m.rem + counts.sum * 1000 * t.prescale) / pulsesPerKm t ≤ limit →
    let n := counts.foldl (fun m dp => addDistance t limit dp m) m
    n.metres * pulsesPerKm t + n.rem
      = m.metres * pulsesPerKm t + m.rem + counts.sum * 1000 * t.prescale ∧
    (m.rem < pulsesPerKm t → n.rem < pulsesPerKm t)

/-- The distance converter, and the totals a delivery goes to. -/
def Obligations.DistanceIsExactAndAttributed : Prop :=
  Claims.DistanceGoesToOneTotal ∧ Claims.DistanceConverterIsExact

/-- No seat gains fare progress at an expiry taken while HELD, and none at the first expiry after its
HIRE or RESUME; both take their interval, metres and marks, and a seat that is not HIRED is not changed
at all. -/
def Obligations.HeldAndFreshSeatsGainNothing : Prop :=
  ∀ (s : State) (q : Seat), s.line.fifo = [] → s.motion.intervalTimer.isSome = true →
    ∃ t, exec .intervalExpiry s = .next t ∧
      ((s.seat q).state ≠ .hired → t.seat q = s.seat q) ∧
      ((s.seat q).state = .hired →
        (t.seat q).state = .hired ∧ (t.seat q).fresh = false ∧
        (t.seat q).intervals = min max24 ((s.seat q).intervals + 1) ∧
        (let m := addDistance s.tariff max24 s.motion.counter
          { metres := (s.seat q).metres, rem := (s.seat q).remainder }
         (t.seat q).metres = m.metres ∧ (t.seat q).remainder = m.rem) ∧
        ((t.seat q).heldDuring = true ↔ (s.seat q).heldDuring = true ∨ t.hold.held = true) ∧
        (2 ≤ riders s.seats →
          (t.seat q).pooled = true ∧
          (t.seat q).maxRiders = max (s.seat q).maxRiders (riders s.seats)) ∧
        (t.hold.held = true ∨ (s.seat q).fresh = true →
          (t.seat q).progress = (s.seat q).progress ∧ (t.seat q).steps = (s.seat q).steps ∧
          (t.seat q).fare = (s.seat q).fare ∧ (t.seat q).freeLeft = (s.seat q).freeLeft ∧
          (t.seat q).activeBand = (s.seat q).activeBand ∧
          (t.seat q).bandsUsed = (s.seat q).bandsUsed))

/-- Where no band transfer falls due, the steps of a delivery are the quotient of Q, after the gain, by
S′, and Q afterwards is the remainder; the free steps are used up first, and each chargeable step adds
A to the fare, which is held at 999,999. -/
def Claims.StepsAreQuotientByStepSize : Prop :=
  ∀ (t : Tariff) (b : Band) (dp k : Nat) (r : SeatRecord),
    bandAt t r.activeBand = some b → bandSized b → dp ≤ 255 → (∀ x ∈ t.shares, x ≤ 1000) →
    r.progress < b.size → r.fare ≤ 999999 →
    let q := r.progress + max (dp * b.nt) b.np * shareOf t k
    let r' := progressSeat t r.activeBand dp k r
    r'.progress = q % b.size ∧
    r'.steps = (if q / b.size = 0 then r.steps else min max24 (r.steps + q / b.size)) ∧
    r'.freeLeft = r.freeLeft - q / b.size ∧
    r'.fare = min 999999 (r.fare + b.amount * (q / b.size - r.freeLeft)) ∧
    r'.activeBand = r.activeBand ∧ r'.bandsUsed = r.bandsUsed ∧ q / b.size ≤ 85

/-- A step at which the selected band differs from the active band is charged at the old band; the
seat then transfers, its Q rescaled to the same fraction of the new band's step. -/
def Claims.StepTransfersToSelectedBand : Prop :=
  ∀ (t : Tariff) (selected : Nat) (b n : Band) (r : SeatRecord),
    bandAt t selected = some n → r.activeBand ≠ selected →
    let r' := reachStep t selected b r
    r'.progress = (r.progress - b.size) * n.size / b.size ∧
    r'.activeBand = selected ∧
    r'.bandsUsed = (if selected ∈ r.bandsUsed then r.bandsUsed else r.bandsUsed ++ [selected]) ∧
    r'.steps = min max24 (r.steps + 1) ∧
    (0 < r.freeLeft → r'.freeLeft = r.freeLeft - 1 ∧ r'.fare = r.fare) ∧
    (r.freeLeft = 0 → r'.freeLeft = 0 ∧
      (r.fare + b.amount ≤ 999999 → r'.fare = r.fare + b.amount ∧ r'.saturated = r.saturated) ∧
      (999999 < r.fare + b.amount → r'.fare = 999999 ∧ r'.saturated = true)) ∧
    (0 < n.size → r.progress - b.size < b.size → r'.progress < n.size)

/-- The steps of a delivery at one band, and the transfer at a step. -/
def Obligations.StepsAndTransfersOfDelivery : Prop :=
  Claims.StepsAreQuotientByStepSize ∧ Claims.StepTransfersToSelectedBand

/-! ### The trip cycle -/

/-- HIRE: its range check, its refusals in their order, and the record it sets. -/
def Obligations.HireStartsTrip : Prop :=
  ∀ (s : State) (a : Nat) (seq seat pool : Byte), ConsoleReady s a →
    let refused := fun (code : ResultCode) =>
      exec (.hire seq seat pool) s = .next (answered a seq (.hire seat pool) code [] s)
    (seatOfNumber seat.toNat = none ∨ 1 < pool.toNat → refused .range) ∧
    ∀ q : Seat, seatOfNumber seat.toNat = some q → pool.toNat ≤ 1 →
      (s.accounts.shift.state ≠ .opened → refused .shift) ∧
      (s.accounts.shift.state = .opened → s.hold.held = true → refused .hold) ∧
      (s.accounts.shift.state = .opened → s.hold.held = false →
        ((s.seat q).state ≠ .vacant → refused .state) ∧
        ((s.seat q).state = .vacant →
          ((pool.toNat = 0 ∧ ∃ p : Seat, p ≠ q ∧ (s.seat p).state ≠ .vacant)
              ∨ (∃ p : Seat, (s.seat p).exclusive = true ∧ (s.seat p).state ≠ .vacant) →
            refused .exclusive) ∧
          (pool.toNat = 1 ∨ (∀ p : Seat, p ≠ q → (s.seat p).state = .vacant) →
            (∀ p : Seat, (s.seat p).exclusive = true → (s.seat p).state = .vacant) →
            ∀ b : Band, bandAt s.tariff s.band.selected = some b →
              ∃ t, exec (.hire seq seat pool) s
                  = .next (answered a seq (.hire seat pool) .ok
                      (seat :: byte s.band.selected :: bigEndian b.flagFall 3) t) ∧
                t.seats = s.seats.set q
                  { vacantSeat with
                    state := .hired, fresh := true, exclusive := decide (pool.toNat = 0),
                    activeBand := s.band.selected, bandsUsed := [s.band.selected],
                    flagFall := b.flagFall, fare := b.flagFall, freeAtHire := b.freeSteps,
                    freeLeft := b.freeSteps, hireClock := s.clock.time, maxRiders := 1 })))

/-- STOP, every form; the due it answers is the due at the stop, which is the model's choice
(notes/assumptions/9.md), and without a payer the stopped seat closes exactly if it owes nothing. -/
def Claims.StopEndsMetering : Prop :=
  ∀ (s : State) (a : Nat) (seq seat : Byte), ConsoleReady s a →
    (seatOfNumber seat.toNat = none →
      exec (.stop seq seat) s = .next (answered a seq (.stop seat) .range [] s)) ∧
    ∀ q : Seat, seatOfNumber seat.toNat = some q →
      ((s.seat q).state = .due →
        exec (.stop seq seat) s
          = .next (answered a seq (.stop seat) .ok (bigEndian (s.seat q).due 3) s)) ∧
      ((s.seat q).state = .paying →
        exec (.stop seq seat) s = .next (answered a seq (.stop seat) .busy [] s)) ∧
      ((s.seat q).state = .vacant →
        exec (.stop seq seat) s = .next (answered a seq (.stop seat) .state [] s)) ∧
      ((s.seat q).state = .hired →
        let r := { s.seat q with
          state := .due, stopClock := some s.clock.time, fresh := false }
        let u := changeSeat q r s
        u.seats = s.seats.set q r ∧
        exec (.stop seq seat) s
          = .next (answered a seq (.stop seat) .ok (bigEndian (s.seat q).due 3)
              (compareDisplays (chargePass
                (if (s.seat q).due = 0 then closeSeat q .settled u else u)))) ∧
        (s.payers = indexesOf none →
          (compareDisplays (chargePass
              (if (s.seat q).due = 0 then closeSeat q .settled u else u))).seats
            = s.seats.set q (if (s.seat q).due = 0 then vacantSeat else r)))

/-- RESUME: its range check, its refusals in their order, and the record it sets, with the active band
kept unless the image in force no longer defines it. -/
def Claims.ResumeReturnsToMetering : Prop :=
  ∀ (s : State) (a : Nat) (seq seat : Byte), ConsoleReady s a →
    let refused := fun (code : ResultCode) =>
      exec (.resume seq seat) s = .next (answered a seq (.resume seat) code [] s)
    (seatOfNumber seat.toNat = none → refused .range) ∧
    ∀ q : Seat, seatOfNumber seat.toNat = some q →
      ((s.seat q).state = .paying → refused .busy) ∧
      ((s.seat q).state = .vacant ∨ (s.seat q).state = .hired → refused .state) ∧
      ((s.seat q).state = .due →
        ((s.seat q).payments ≠ [] → refused .state) ∧
        ((s.seat q).payments = [] →
          (s.accounts.shift.state = .closed → refused .shift) ∧
          (s.accounts.shift.state ≠ .closed → s.hold.held = true → refused .hold) ∧
          (s.accounts.shift.state ≠ .closed → s.hold.held = false →
            ∃ t, exec (.resume seq seat) s
                = .next (answered a seq (.resume seat) .ok (bigEndian (s.seat q).fare 3) t) ∧
              ((s.seat q).activeBand ≤ s.tariff.bands.length →
                t.seats = s.seats.set q
                  { s.seat q with state := .hired, fresh := true, stopClock := none }) ∧
              (s.tariff.bands.length < (s.seat q).activeBand →
                t.seats = s.seats.set q
                  { s.seat q with
                    state := .hired, fresh := true, stopClock := none,
                    activeBand := s.band.selected,
                    bandsUsed :=
                      if s.band.selected ∈ (s.seat q).bandsUsed then (s.seat q).bandsUsed
                      else (s.seat q).bandsUsed ++ [s.band.selected] }))))

/-- STOP and RESUME; the due that STOP answers, and that displays are compared at the end of the event, are
the model's (notes/assumptions/9.md, 11.md). -/
def Obligations.StopAndResume : Prop :=
  Claims.StopEndsMetering ∧ Claims.ResumeReturnsToMetering

/-- CANCEL closes a HIRED seat that has cost nothing, with fare 0, and WAIVE closes a DUE seat with its
due written off; every other form of both is refused by name. -/
def Obligations.CancelAndWaiveCloseSeat : Prop :=
  ∀ (s : State) (a : Nat) (seq seat : Byte), ConsoleReady s a →
    let cancel := exec (.cancel seq seat) s
    let waive := exec (.waive seq seat) s
    (seatOfNumber seat.toNat = none →
      cancel = .next (answered a seq (.cancel seat) .range [] s) ∧
      waive = .next (answered a seq (.waive seat) .range [] s)) ∧
    ∀ q : Seat, seatOfNumber seat.toNat = some q →
      let r := s.seat q
      (r.state ≠ .hired → cancel = .next (answered a seq (.cancel seat) .state [] s)) ∧
      (r.state = .hired →
        (0 < r.steps - (r.freeAtHire - r.freeLeft) ∨ 0 < r.extras.total →
          cancel = .next (answered a seq (.cancel seat) .charged [] s)) ∧
        (r.steps - (r.freeAtHire - r.freeLeft) = 0 → r.extras.total = 0 →
          ∃ t, cancel = .next (answered a seq (.cancel seat) .ok [] t) ∧
            t.seats = s.seats.set q vacantSeat ∧
            t.accounts.totalizers.trips = min max32 (s.accounts.totalizers.trips + 1) ∧
            t.accounts.totalizers.fare = min max32 s.accounts.totalizers.fare)) ∧
      (r.state = .paying → waive = .next (answered a seq (.waive seat) .busy [] s)) ∧
      (r.state = .hired ∨ r.state = .vacant →
        waive = .next (answered a seq (.waive seat) .state [] s)) ∧
      (r.state = .due →
        ∃ t, waive = .next (answered a seq (.waive seat) .ok (bigEndian r.due 3) t) ∧
          t.seats = s.seats.set q vacantSeat ∧
          t.accounts.totalizers.trips = min max32 (s.accounts.totalizers.trips + 1) ∧
          t.accounts.totalizers.fare = min max32 (s.accounts.totalizers.fare + r.fare))

/-- The close of a seat: the trip is composed from the seat record, takes the next number, is appended to
the log of 64 with the shift number and image identity as they stand, and is added, item by item, to
the totals of a shift that is not CLOSED; the record takes its VACANT values, the seat's payer goes,
and the party payer with it if no other seat is occupied. -/
def Claims.CloseLogsTrip : Prop :=
  ∀ (s : State) (q : Seat) (e : TripEnd),
    (∀ i j : Fin 8, ∀ p r : Payer, s.payers.get i = some p → s.payers.get j = some r →
      p.scope = r.scope → i = j) →
    let others := ∃ p : Seat, p ≠ q ∧ (s.seat p).state ≠ .vacant
    let n := if s.accounts.tripCounter = max24 then 1 else s.accounts.tripCounter + 1
    let r := s.seat q
    let trip : Trip :=
      { number := n, seat := q, shift := s.accounts.shift.number, identity := s.tariff.identity,
        ending := e, hireClock := r.hireClock,
        stopClock := if e = .cancelled then none else r.stopClock, bandsUsed := r.bandsUsed,
        activeBand := r.activeBand, flagFall := r.flagFall, steps := r.steps,
        freeUsed := r.freeAtHire - r.freeLeft, fare := r.fare, extras := r.extras, tips := r.tips,
        payments := r.payments, waived := r.waived, metres := r.metres, seconds := r.intervals / 5,
        pooled := r.pooled, saturated := r.saturated, heldDuring := r.heldDuring, brk := r.brk,
        maxRiders := r.maxRiders }
    let x := s.accounts.shift.totals
    let paid := fun (m : Method) =>
      ((r.payments.filter (fun p => p.method = m)).map (·.amount)).sum
    let t := closeSeat q e s
    t.seats = s.seats.set q vacantSeat ∧
    t.accounts.tripCounter = n ∧
    t.accounts.log
      = (if s.accounts.log.length < 64 then s.accounts.log else s.accounts.log.drop 1) ++ [trip] ∧
    t.accounts.shift.totals
      = (if s.accounts.shift.state = .closed then x
         else { x with
           settled := if e = .settled then min max24 (x.settled + 1) else x.settled,
           cancelled := if e = .cancelled then min max24 (x.cancelled + 1) else x.cancelled,
           pooled := if r.pooled = true then min max24 (x.pooled + 1) else x.pooled,
           maxRiders := max x.maxRiders r.maxRiders, fare := x.fare + r.fare,
           extras := ⟨x.extras.luggage + r.extras.luggage, x.extras.toll + r.extras.toll,
             x.extras.booking + r.extras.booking, x.extras.other + r.extras.other⟩,
           tips := x.tips + r.tips, card := x.card + paid .card,
           account := x.account + paid .account, cash := x.cash + paid .cash,
           waived := x.waived + r.waived,
           band1 := if r.activeBand = 1 then x.band1 + r.fare else x.band1,
           band2 := if r.activeBand = 2 then x.band2 + r.fare else x.band2,
           band3 := if r.activeBand = 3 then x.band3 + r.fare else x.band3,
           band4 := if r.activeBand = 4 then x.band4 + r.fare else x.band4,
           steps := x.steps + r.steps, seatSeconds := x.seatSeconds + r.intervals / 5 }) ∧
    findScope t.payers (.seat q) = none ∧
    (¬others → findScope t.payers .party = none) ∧
    (others → findScope t.payers .party = findScope s.payers .party) ∧
    (∀ p : Seat, p ≠ q → findScope t.payers (.seat p) = findScope s.payers (.seat p)) ∧
    (s.accounts.shift.state = .closing → others → t.accounts.shift.state = .closing) ∧
    (s.accounts.shift.state = .closing → ¬others →
      t.accounts.shift.state = .closed ∧ t.accounts.shift.closeClock = some s.clock.time)

/-- The trip limit: a close taken while the shift is OPEN that brings settled plus cancelled trips to
16,777,212 takes the shift to CLOSING, and on to CLOSED if it left every seat VACANT; any other close
leaves it OPEN. A CLOSED shift stays CLOSED. -/
def Claims.TripLimitEndsShift : Prop :=
  ∀ (s : State) (q : Seat) (e : TripEnd),
    let others := ∃ p : Seat, p ≠ q ∧ (s.seat p).state ≠ .vacant
    let x := s.accounts.shift.totals
    let trips := (if e = .settled then min max24 (x.settled + 1) else x.settled)
      + (if e = .cancelled then min max24 (x.cancelled + 1) else x.cancelled)
    let sh := (closeSeat q e s).accounts.shift
    (s.accounts.shift.state = .closed → sh.state = .closed) ∧
    (s.accounts.shift.state = .opened →
      (trips ≠ 16777212 → sh.state = .opened ∧ sh.closeClock = s.accounts.shift.closeClock) ∧
      (trips = 16777212 → others → sh.state = .closing) ∧
      (trips = 16777212 → ¬others → sh.state = .closed ∧ sh.closeClock = some s.clock.time))

/-- The close that ends a CLOSING shift gives its notices in the same event: the sign state is that of
the CLOSED shift, a STATUS of what then stands is queued, and the thirteen REPORT pages, with the trip
in their totals, are queued in page order to the CONSOLE that the roster lists, or none without one. -/
def Claims.LastCloseReportsShift : Prop :=
  ∀ (s : State) (q : Seat) (e : TripEnd), s.accounts.shift.state = .closing →
    (∀ p : Seat, p ≠ q → (s.seat p).state = .vacant) → s.line.queue = [] →
    let t := closeSeat q e s
    let pages := t.line.queue.filter (fun f => f.body.kind = 35)
    (∀ a : Nat, consoleAddr s.line.roster = some a →
      pages = (List.range 13).map (fun n =>
        { dest := a, answer := false,
          body := .report s.accounts.shift.number n (totalsPage t.accounts n) })) ∧
    (consoleAddr s.line.roster = none → pages = []) ∧
    { dest := broadcast, answer := false, body := .status (statusReport t) } ∈ t.line.queue ∧
    ∀ c : Channel, (t.sign.lamps.get c).buffer
      = (signPatterns s.hold.held .closed s.sign.mode s.sign.pool t.seats).get c

/-- What a close does to the switch: the seat leaves the call queue and its mute is cleared; its talk
ends into the guard without a need of release; during DRIVER_TALK the gates follow. A hire during
DRIVER_TALK opens its gate, and a change between HIRED, DUE and PAYING leaves the switch alone. -/
def Claims.OccupancyMovesSwitch : Prop :=
  ∀ (s : State) (q : Seat) (r : SeatRecord) (e : TripEnd),
    let i := s.intercom
    let t := closeSeat q e s
    let u := changeSeat q r s
    ((s.seat q).state ≠ .vacant →
      t.intercom = { i with
        queue := i.queue.filter (fun p => p ≠ q), mute := i.mute.set q false,
        state := if i.state = .seatTalk q then .guard else i.state,
        guardTimer := if i.state = .seatTalk q then some s.tariff.guardTime else i.guardTimer,
        talkTimer := if i.state = .seatTalk q then none else i.talkTimer,
        gates := gatesOf (if i.state = .seatTalk q then .guard else i.state) i.target t.seats }) ∧
    ((s.seat q).state = .vacant → r.state ≠ .vacant →
      u.intercom = { i with gates := gatesOf i.state i.target u.seats }) ∧
    ((s.seat q).state ≠ .vacant → r.state ≠ .vacant → u.intercom = i)

/-- The close of a seat: the trip, the shift it may end, and the switch. -/
def Obligations.CloseLogsTripAndFreesSeat : Prop :=
  Claims.CloseLogsTrip ∧ Claims.TripLimitEndsShift ∧ Claims.LastCloseReportsShift ∧
  Claims.OccupancyMovesSwitch

/-- Every close adds its trip to the lifetime totalizers, in every shift state: one trip, its steps
total, its fare. -/
def Obligations.EveryTripCountsForLife : Prop :=
  ∀ (s : State) (q : Seat) (e : TripEnd),
    let z := s.accounts.totalizers
    (closeSeat q e s).accounts.totalizers
      = { z with
          trips := min max32 (z.trips + 1), steps := min max32 (z.steps + (s.seat q).steps),
          fare := min max32 (z.fare + (s.seat q).fare) }

/-! ### Extras and cash -/

/-- ADD_EXTRA and SPLIT_EXTRA, every form: the extras of the kind grow by the amount or the share, cut
at 99,999 in all, and a refused form changes nothing. -/
def Claims.ExtrasGrowByWhatIsApplied : Prop :=
  ∀ (s : State) (a : Nat) (seq seat kind : Byte) (amount : Word24), ConsoleReady s a →
    let add := exec (.addExtra seq seat kind amount) s
    let split := exec (.splitExtra seq kind amount) s
    let outOfRange := 3 < kind.toNat ∨ amount.toNat < 1 ∨ 9999 < amount.toNat
    (seatOfNumber seat.toNat = none ∨ outOfRange →
      add = .next (answered a seq (.addExtra seat kind amount) .range [] s)) ∧
    (outOfRange → split = .next (answered a seq (.splitExtra kind amount) .range [] s)) ∧
    (¬outOfRange → ∀ k : ExtraKind, kindArg kind = some k →
      ((∀ q : Seat, (s.seat q).state ≠ .hired) →
        split = .next (answered a seq (.splitExtra kind amount) .state [] s)) ∧
      ((∃ q : Seat, (s.seat q).state = .hired) →
        ∃ t, split = .next (answered a seq (.splitExtra kind amount) .ok
            (bigEndian (splitTotal s.seats amount.toNat) 2
              ++ (allSeats.map (fun q => bigEndian (splitApplied s.seats amount.toNat q) 2)).flatten)
            t) ∧
          ∀ q : Seat, t.seat q = { s.seat q with
            extras := (s.seat q).extras.add k
              (min (splitShare s.seats amount.toNat q) (99999 - (s.seat q).extras.total)) }) ∧
      (∀ q : Seat, seatOfNumber seat.toNat = some q →
        ((s.seat q).state = .vacant →
          add = .next (answered a seq (.addExtra seat kind amount) .state [] s)) ∧
        ((s.seat q).state ≠ .vacant →
          let n := min amount.toNat (99999 - (s.seat q).extras.total)
          let r := { s.seat q with extras := (s.seat q).extras.add k n }
          add = .next (answered a seq (.addExtra seat kind amount) .ok
            (bigEndian n 2 ++ bigEndian ((s.seat q).extras.total + n) 3)
            (compareIfChanged s
              (if (s.seat q).state = .due ∧ 0 < n then chargePass (s.setSeat q r)
               else s.setSeat q r))) ∧
          ((s.seat q).state ≠ .due ∨ s.payers = indexesOf none →
            ∃ t, add = .next t ∧ t.seats = s.seats.set q r))))

/-- The shares of a split: they sum to the amount, differ by at most one unit, the lower seat number
never has the smaller share, and a seat that is not HIRED has none. -/
def Claims.SplitSharesSumToAmount : Prop :=
  ∀ (v : PerSeat SeatRecord) (amount : Nat), 0 < riders v →
    (allSeats.map (splitShare v amount)).sum = amount ∧
    ∀ q : Seat,
      ((v.get q).state ≠ .hired → splitShare v amount q = 0) ∧
      ((v.get q).state = .hired →
        (splitShare v amount q = amount / riders v
          ∨ splitShare v amount q = amount / riders v + 1) ∧
        ∀ p : Seat, (v.get p).state = .hired → seatNumber q ≤ seatNumber p →
          splitShare v amount p ≤ splitShare v amount q)

/-- ADD_EXTRA and SPLIT_EXTRA, and the shares of a split; displays are compared at the end of the event,
which is the model's reading (notes/assumptions/11.md). -/
def Obligations.ExtrasAndSplitShares : Prop :=
  Claims.ExtrasGrowByWhatIsApplied ∧ Claims.SplitSharesSumToAmount

/-- CASH: its range check, its refusals in their order, the payment it credits, cut to the due, and
the change it answers; without a payer the seat closes exactly if it then owes nothing. That displays are
compared at the end of the event is the model's reading (notes/assumptions/11.md). -/
def Obligations.CashIsCutToDue : Prop :=
  ∀ (s : State) (a : Nat) (seq seat : Byte) (tendered tip : Word24), ConsoleReady s a →
    let cash := exec (.cash seq seat tendered tip) s
    let refused := fun (code : ResultCode) =>
      cash = .next (answered a seq (.cash seat tendered tip) code [] s)
    (seatOfNumber seat.toNat = none ∨ tendered.toNat < 1 ∨ 999999 < tendered.toNat
      ∨ 999999 < tip.toNat → refused .range) ∧
    ∀ q : Seat, seatOfNumber seat.toNat = some q → 1 ≤ tendered.toNat →
      tendered.toNat ≤ 999999 → tip.toNat ≤ 999999 →
      let r := s.seat q
      (r.state = .paying → refused .busy) ∧
      (r.state = .hired ∨ r.state = .vacant → refused .state) ∧
      (r.state = .due → 6 ≤ r.payments.length → refused .limit) ∧
      (r.state = .due → r.payments.length < 6 →
        let n := min tendered.toNat r.due
        let g := min tip.toNat 99999
        let paid := { r with
          payments := r.payments ++ [{ method := .cash, amount := n, tip := g, ref := none }],
          paid := r.paid + n, tips := r.tips + g }
        let data := bigEndian n 3 ++ bigEndian (tendered.toNat - n) 3 ++ bigEndian g 3
        (paid.due = 0 →
          cash = .next (answered a seq (.cash seat tendered tip) .ok data
            (compareDisplays (closeSeat q .settled (s.setSeat q paid)))) ∧
          (compareDisplays (closeSeat q .settled (s.setSeat q paid))).seats
            = s.seats.set q vacantSeat) ∧
        (0 < paid.due →
          cash = .next (answered a seq (.cash seat tendered tip) .ok data
            (compareDisplays (chargePass (s.setSeat q paid)))) ∧
          (s.payers = indexesOf none →
            (compareDisplays (chargePass (s.setSeat q paid))).seats = s.seats.set q paid)))

/-! ### The shift -/

/-- SHIFT_OPEN and SHIFT_CLOSE, every form: the refusals in their order, the shift record that opens,
and the state that a close goes to, with the notices of the change in the same event: the sign state, a
STATUS, and, where the shift becomes CLOSED, the thirteen REPORT pages to the console. -/
def Obligations.ShiftOpensAndCloses : Prop :=
  ∀ (s : State) (a : Nat) (seq : Byte) (driver : Word24), ConsoleReady s a →
    let opening := exec (.shiftOpen seq driver) s
    let closing := exec (.shiftClose seq) s
    let sh := s.accounts.shift
    let noticed := fun (t : State) =>
      (∀ c : Channel, (t.sign.lamps.get c).buffer
        = (signPatterns s.hold.held t.accounts.shift.state s.sign.mode s.sign.pool s.seats).get c) ∧
      (s.line.queue = [] →
        { dest := broadcast, answer := false, body := .status (statusReport t) } ∈ t.line.queue)
    (999999 < driver.toNat →
      opening = .next (answered a seq (.shiftOpen driver) .range [] s)) ∧
    (driver.toNat ≤ 999999 →
      (sh.state ≠ .closed →
        opening = .next (answered a seq (.shiftOpen driver) .state [] s)) ∧
      (sh.state = .closed →
        (s.clock.valid = false →
          opening = .next (answered a seq (.shiftOpen driver) .clock [] s)) ∧
        (s.clock.valid = true →
          let n := if sh.number = 65535 then 1 else sh.number + 1
          ∃ t, opening = .next (answered a seq (.shiftOpen driver) .ok (bigEndian n 2) t) ∧
            noticed t ∧
            t.accounts = { s.accounts with
              shift := {
                state := .opened, number := n, driver := driver.toNat,
                identity := s.tariff.identity, openClock := s.clock.time, closeClock := none,
                totals := noTotals } }))) ∧
    (sh.state ≠ .opened → closing = .next (answered a seq .shiftClose .state [] s)) ∧
    (sh.state = .opened →
      ((∀ q : Seat, (s.seat q).state = .vacant) →
        ∃ t, closing = .next (answered a seq .shiftClose .ok [0] t) ∧ noticed t ∧
          (s.line.queue = [] → t.line.queue.filter (fun f => f.body.kind = 35)
            = (List.range 13).map (fun n =>
                { dest := a, answer := false,
                  body := .report sh.number n (totalsPage t.accounts n) })) ∧
          t.accounts = { s.accounts with
            shift := { sh with state := .closed, closeClock := some s.clock.time } }) ∧
      ((∃ q : Seat, (s.seat q).state ≠ .vacant) →
        ∃ t, closing = .next (answered a seq .shiftClose .ok [2] t) ∧ noticed t ∧
          t.accounts = { s.accounts with shift := { sh with state := .closing } }))

/-- READ_TOTALS, READ_TRIP, PROBE_SEAT, PROBE_INDEX and READ_HOLD change no record: each answers its
page or record as it stands, or its refusal, and READ_HOLD takes in the SERVICE level it reads, which its
row carries, the model's choice (notes/assumptions/3.md). -/
def Obligations.ReadsAnswerAndChangeNothing : Prop :=
  ∀ (s : State) (a : Nat) (seq page seat index : Byte) (n : Word24) (service : Bool),
    ConsoleReady s a →
    let totals := exec (.readTotals seq page) s
    let trip := exec (.readTrip seq n page) s
    let probeSeat := exec (.probeSeat seq seat) s
    let probeIndex := exec (.probeIndex seq index) s
    let u := s.setPins { s.pins with service := service }
    let hold := exec (.readHold service seq page) s
    let unopened := s.accounts.shift.state = .closed ∧ s.accounts.shift.number = 0
    (15 < page.toNat → totals = .next (answered a seq (.readTotals page) .range [] s)) ∧
    (page.toNat < 13 → unopened →
      totals = .next (answered a seq (.readTotals page) .nothing [] s)) ∧
    (page.toNat ≤ 15 → ¬(page.toNat < 13 ∧ unopened) →
      totals = .next (answered a seq (.readTotals page) .ok
        (totalsPage s.accounts page.toNat) s)) ∧
    (n.toNat = 0 ∨ 10 < page.toNat →
      trip = .next (answered a seq (.readTrip n page) .range [] s)) ∧
    (0 < n.toNat → page.toNat ≤ 10 →
      ((∀ x ∈ s.accounts.log, x.number ≠ n.toNat) →
        trip = .next (answered a seq (.readTrip n page) .gone [] s)) ∧
      (∀ x : Trip, s.accounts.log.find? (fun y => y.number = n.toNat) = some x →
        (tripPage x page.toNat = none →
          trip = .next (answered a seq (.readTrip n page) .nothing [] s)) ∧
        (∀ data, tripPage x page.toNat = some data →
          trip = .next (answered a seq (.readTrip n page) .ok data s)))) ∧
    (seatOfNumber seat.toNat = none →
      probeSeat = .next (answered a seq (.probeSeat seat) .range [] s)) ∧
    (∀ q : Seat, seatOfNumber seat.toNat = some q →
      (resolve s.payers q = none →
        probeSeat = .next (answered a seq (.probeSeat seat) .nothing [] s)) ∧
      (∀ (i : Fin 8) (p : Payer), resolve s.payers q = some i → s.payers.get i = some p →
        probeSeat = .next (answered a seq (.probeSeat seat) .ok
          (payerBytes i (p.scope = .party) p) s))) ∧
    (7 < index.toNat → probeIndex = .next (answered a seq (.probeIndex index) .range [] s)) ∧
    (∀ i : Fin 8, index.toNat = i.val →
      (s.payers.get i = none →
        probeIndex = .next (answered a seq (.probeIndex index) .nothing [] s)) ∧
      (∀ p : Payer, s.payers.get i = some p →
        probeIndex = .next (answered a seq (.probeIndex index) .ok (payerBytes i false p) s))) ∧
    (2 < page.toNat → hold = .next (answered a seq (.readHold page) .range [] u)) ∧
    (page.toNat ≤ 2 →
      hold = .next (answered a seq (.readHold page) .ok (holdPage u page.toNat) u))

/-- A command that is refused changes no field and carries no data; and no answer carries more than
the 13 bytes that a RESULT has room for. -/
def Claims.RefusalsChangeNothing : Prop :=
  ∀ (a : Nat) (c : Command) (s : State),
    ((perform a c s).2.code ≠ .ok → (perform a c s).1 = s ∧ (perform a c s).2.data = []) ∧
    (perform a c s).2.data.length ≤ 13

/-! ### The payer map -/

/-- The payer that serves a seat: the one of scope SEAT(s) if there is one, otherwise the one of scope
PARTY, otherwise none; only the scopes are read. -/
def Obligations.SeatScopeServesBeforeParty : Prop :=
  ∀ (m : PayerMap) (q : Seat),
    (∀ i : Fin 8, ∀ p : Payer, m.get i = some p → p.scope = .seat q →
      ∃ j r, resolve m q = some j ∧ m.get j = some r ∧ r.scope = .seat q) ∧
    ((∀ i : Fin 8, ∀ p : Payer, m.get i = some p → p.scope ≠ .seat q) →
      (∀ i : Fin 8, ∀ p : Payer, m.get i = some p → p.scope = .party →
        ∃ j r, resolve m q = some j ∧ m.get j = some r ∧ r.scope = .party) ∧
      ((∀ i : Fin 8, ∀ p : Payer, m.get i = some p → p.scope ≠ .party) → resolve m q = none)) ∧
    (∀ n : PayerMap,
      (∀ i : Fin 8, (m.get i).map (·.scope) = (n.get i).map (·.scope)) → resolve m q = resolve n q)

/-- CARD_PRESENTED from a PRESENT reader: the replies of its refusals in their order, of a repeat, and
of an installation at the lowest free index, with the record it installs. -/
def Claims.PresentReaderInstallsCard : Prop :=
  ∀ (s : State) (e : Station) (h : Header) (r1 r0 l2 l1 l0 : Byte) (sc : Scope),
    Sent s e 1 h → e.cls = .reader → e.timer ≠ none → scopeOfBinding e.binding = some sc →
    let u := heardAgain e s
    let card := exec (.cardPresented h [r1, r0, l2, l1, l0]) s
    let ref := fromBigEndian [r1, r0]
    let limit := fromBigEndian [l2, l1, l0]
    let reply := fun (code : ResultCode) (index : Nat) => send e.addr (.cardReply code index)
    (limit < 1 ∨ 999999 < limit → card = .next (reply .range 0 u)) ∧
    (1 ≤ limit → limit ≤ 999999 →
      (scopeOccupied s.seats sc = false → card = .next (reply .state 0 u)) ∧
      (scopeOccupied s.seats sc = true →
        (∀ (i : Fin 8) (p : Payer), findScope s.payers sc = some i → s.payers.get i = some p →
          (p.kind = .card e.addr ref → card = .next (reply .ok i.val u)) ∧
          (p.kind ≠ .card e.addr ref → card = .next (reply .existing 0 u))) ∧
        (findScope s.payers sc = none →
          ((∀ i : Fin 8, s.payers.get i ≠ none) → card = .next (reply .full 0 u)) ∧
          (∀ i : Fin 8, s.payers.get i = none → (∀ j : Fin 8, j < i → s.payers.get j ≠ none) →
            let t := { u with
              payers := s.payers.set i (some
                { kind := .card e.addr ref, scope := sc, limit := limit, spent := 0,
                  tipsAllowed := true, charging := none }) }
            card = .next (passAndCompare (reply .ok i.val t))))))

/-- A CARD_PRESENTED from a SILENT reader is taken after the reader's PRESENT notice and its pass, as
from a PRESENT reader. -/
def Claims.SilentReaderReturnsBeforeCard : Prop :=
  ∀ (s : State) (e : Station) (h : Header) (payload : List Byte),
    Sent s e 1 h → e.cls = .reader → e.timer = none → payload.length ≤ 16 →
    exec (.cardPresented h payload) s
      = exec (.cardPresented h payload) (passAndCompare (heardAgain e s))

/-- CARD_PRESENTED, from a PRESENT and from a SILENT reader; displays are compared at the end of the event
(notes/assumptions/11.md, the model's reading). -/
def Obligations.PresentedCardIsInstalled : Prop :=
  Claims.PresentReaderInstallsCard ∧ Claims.SilentReaderReturnsBeforeCard

/-- ACCOUNT_MAP: its range check, its refusals in their order, and the account it installs at the
lowest free index before the pass of its notice; while no seat is DUE, the pass changes nothing and
the answer gives the whole limit. What it answers of a payer that the pass removed is the model's
reading (notes/assumptions/10.md). -/
def Claims.AccountIsMapped : Prop :=
  ∀ (s : State) (a : Nat) (seq scope : Byte) (account : Word32) (limit : Word24) (tips : Byte),
    ConsoleReady s a →
    let map := exec (.accountMap seq scope account limit tips) s
    let refused := fun (code : ResultCode) =>
      map = .next (answered a seq (.accountMap scope account limit tips) code [] s)
    let outOfRange := 99999999 < account.toNat ∨ limit.toNat < 1 ∨ 999999 < limit.toNat
      ∨ 1 < tips.toNat
    (scopeOfBinding scope.toNat = none ∨ outOfRange → refused .range) ∧
    (∀ sc : Scope, scopeOfBinding scope.toNat = some sc → ¬outOfRange →
      (scopeOccupied s.seats sc = false → refused .state) ∧
      (scopeOccupied s.seats sc = true →
        (findScope s.payers sc ≠ none → refused .existing) ∧
        (findScope s.payers sc = none →
          ((∀ i : Fin 8, s.payers.get i ≠ none) → refused .full) ∧
          (∀ i : Fin 8, s.payers.get i = none → (∀ j : Fin 8, j < i → s.payers.get j ≠ none) →
            let p : Payer :=
              { kind := .account account.toNat, scope := sc, limit := limit.toNat, spent := 0,
                tipsAllowed := decide (tips.toNat = 1), charging := none }
            let t := { s with payers := s.payers.set i (some p) }
            map = .next (answered a seq (.accountMap scope account limit tips) .ok
              (mappedBytes i limit.toNat (settledInPass i t) (passAndCompare t))
              (passAndCompare t)) ∧
            ((∀ q : Seat, (s.seat q).state ≠ .due) →
              passAndCompare t = t ∧
              mappedBytes i limit.toNat (settledInPass i t) (passAndCompare t)
                = byte i.val :: 1 :: bigEndian limit.toNat 3)))))

/-- UNMAP and FLUSH, every form: what is removed, what is kept, the answer's counts and indexes, and the
pass of the notice, which changes nothing further while no seat is DUE. That a FLUSH which removes
nothing gives no notice is the model's reading (notes/assumptions/26.md). -/
def Claims.UnmapAndFlushRemovePayers : Prop :=
  ∀ (s : State) (a : Nat) (seq index : Byte), ConsoleReady s a →
    let unmap := exec (.unmap seq index) s
    let flush := exec (.flush seq) s
    (7 < index.toNat → unmap = .next (answered a seq (.unmap index) .range [] s)) ∧
    (∀ i : Fin 8, index.toNat = i.val →
      (s.payers.get i = none →
        unmap = .next (answered a seq (.unmap index) .nothing [] s)) ∧
      (∀ p : Payer, s.payers.get i = some p →
        (p.charging ≠ none → unmap = .next (answered a seq (.unmap index) .busy [] s)) ∧
        (p.charging = none →
          let t := { s with payers := s.payers.set i none }
          unmap = .next (answered a seq (.unmap index) .ok (payerBytes i false p)
            (passAndCompare t)) ∧
          ((∀ q : Seat, (s.seat q).state ≠ .due) → passAndCompare t = t)))) ∧
    (∀ m : PayerMap,
      (∀ i : Fin 8,
        (∀ p : Payer, s.payers.get i = some p → p.charging ≠ none → m.get i = some p) ∧
        ((∀ p : Payer, s.payers.get i = some p → p.charging = none) → m.get i = none)) →
      let kept := allIndexes.filter (fun i => (m.get i).isSome)
      let gone := allIndexes.filter (fun i => (s.payers.get i).isSome && (m.get i).isNone)
      let t := { s with payers := m }
      flush = .next (answered a seq .flush .ok
        [byte gone.length, byte kept.length,
          byte (bitsOf (allIndexes.map (fun i => (m.get i).isSome)))]
        (if gone = [] then s else passAndCompare t)) ∧
      ((∀ q : Seat, (s.seat q).state ≠ .due) → passAndCompare t = t))

/-- ACCOUNT_MAP, UNMAP and FLUSH; the answer for a removed payer, when displays are compared and the notice
of a FLUSH that removes nothing are the model's readings (notes/assumptions/10.md, 11.md, 26.md). -/
def Obligations.AccountsMappedAndPayersRemoved : Prop :=
  Claims.AccountIsMapped ∧ Claims.UnmapAndFlushRemovePayers

/-! ### Charges -/

/-- A charge start's tag: within 1 and 255, not the tag of a charge in flight or of a late entry, and
the first such tag after the counter, with 255 followed by 1. -/
def Claims.NewTagIsFirstUnused : Prop :=
  ∀ t : Tags, t.counter ≤ 255 → t.late.length ≤ 4 →
    (∃ q : Seat, t.slots.get q = none) →
    1 ≤ newTag t ∧ newTag t ≤ 255 ∧
    (∀ q e, t.slots.get q = some e → e.tag ≠ newTag t) ∧ (∀ e ∈ t.late, e.tag ≠ newTag t) ∧
    (∃ k, newTag t = Nat.repeat nextTag (k + 1) t.counter ∧
      ∀ j, j < k → tagUsed t (Nat.repeat nextTag (j + 1) t.counter) = true)

/-- A tag joins the late list once, behind the newest, with the oldest pushed out of a full list. -/
def Claims.LateListKeepsFour : Prop :=
  ∀ (late : List Tag) (e : Tag),
    (∀ x ∈ late, x.tag = e.tag → addLate e late = late) ∧
    ((∀ x ∈ late, x.tag ≠ e.tag) →
      (late.length < 4 → addLate e late = late ++ [e]) ∧
      (late.length = 4 → addLate e late = late.drop 1 ++ [e]))

/-- The tag of a charge start, and the late list. -/
def Obligations.TagsAreNewAndLateListKeepsFour : Prop :=
  Claims.NewTagIsFirstUnused ∧ Claims.LateListKeepsFour

/-- A charge-start pass starts a card charge for a DUE seat whose card can be charged, when no other
seat is DUE: it asks for the lesser of the due and the remaining limit, with its tip ceiling, by a
CHARGE_REQUEST to the reader; the seat becomes PAYING and the payer CHARGING. -/
def Claims.PassStartsCardCharge : Prop :=
  ∀ (s : State) (q : Seat) (i : Fin 8) (p : Payer) (reader ref : Nat),
    (∀ x : Seat, x ≠ q → (s.seat x).state ≠ .due) →
    (s.seat q).state = .due → 0 < (s.seat q).due → (s.seat q).payments.length < 6 →
    resolve s.payers q = some i → s.payers.get i = some p → p.kind = .card reader ref →
    p.charging = none → p.spent < p.limit → readerPresent s.line.roster reader = true →
    (∀ x e, s.tags.slots.get x = some e → e.reader ≠ reader) → s.line.queue.length < 16 →
    let t := chargePass s
    let amount := min (s.seat q).due (p.limit - p.spent)
    let ceiling := min (min (amount * s.tariff.tipPercent / 100) (p.limit - p.spent - amount)) 99999
    t.seats = s.seats.set q { s.seat q with state := .paying } ∧
    t.charges = s.charges.set q (some
      { index := i, requested := amount, ceiling := ceiling, timer := s.tariff.chargeTimeout }) ∧
    t.tags = { s.tags with
      counter := newTag s.tags,
      slots := s.tags.slots.set q (some { tag := newTag s.tags, reader := reader }) } ∧
    t.payers = s.payers.set i (some { p with charging := some q }) ∧
    { dest := reader, answer := false,
      body := .chargeRequest (newTag s.tags) q amount ceiling } ∈ t.line.queue

/-- A charge-start pass settles a DUE seat against its account, when no other seat is DUE: the amount
and the tip within the limit are credited, and the seat closes if its due is then 0; else the payer is
spent and removed, and the seat stays DUE, where its list of payments has room and no other payer
serves it. -/
def Claims.PassSettlesAccount : Prop :=
  ∀ (s : State) (q : Seat) (i : Fin 8) (p : Payer) (id : Nat),
    (∀ x : Seat, x ≠ q → (s.seat x).state ≠ .due) →
    (s.seat q).state = .due → 0 < (s.seat q).due → (s.seat q).payments.length < 6 →
    resolve s.payers q = some i → s.payers.get i = some p → p.kind = .account id →
    p.charging = none → p.spent < p.limit → (∀ j : Fin 8, j ≠ i → s.payers.get j = none) →
    let t := chargePass s
    let amount := min (s.seat q).due (p.limit - p.spent)
    let tip := if p.tipsAllowed = true then
        min (min (amount * s.tariff.tipPercent / 100) (p.limit - p.spent - amount)) 99999
      else 0
    let paid := { s.seat q with
      payments := (s.seat q).payments
        ++ [{ method := .account, amount := amount, tip := tip, ref := some id }],
      paid := (s.seat q).paid + amount, tips := (s.seat q).tips + tip }
    (paid.due = 0 → t.seats = s.seats.set q vacantSeat ∧
      t.accounts.totalizers.fare = min max32 (s.accounts.totalizers.fare + (s.seat q).fare)) ∧
    (0 < paid.due → t.seats = s.seats.set q paid ∧ t.payers = s.payers.set i none ∧
      t.accounts = s.accounts) ∧
    t.charges = s.charges ∧ t.tags = s.tags

/-- One reader serves the DUE seats one at a time, lowest seat number first: with the party's card the
only payer, a pass charges the lowest DUE seat that has a due and room for a payment, and every other
DUE seat waits. -/
def Claims.PartyReaderServesLowestSeat : Prop :=
  ∀ (s : State) (q : Seat) (i : Fin 8) (p : Payer) (reader ref : Nat),
    (∀ x : Seat, seatNumber x < seatNumber q → (s.seat x).state = .due →
      (s.seat x).due = 0 ∨ 6 ≤ (s.seat x).payments.length) →
    (s.seat q).state = .due → 0 < (s.seat q).due → (s.seat q).payments.length < 6 →
    s.payers.get i = some p → p.scope = .party → p.kind = .card reader ref →
    p.charging = none → p.spent < p.limit → (∀ j : Fin 8, j ≠ i → s.payers.get j = none) →
    readerPresent s.line.roster reader = true →
    (∀ x e, s.tags.slots.get x = some e → e.reader ≠ reader) → s.line.queue.length < 16 →
    let t := chargePass s
    let amount := min (s.seat q).due (p.limit - p.spent)
    t.seats = s.seats.set q { s.seat q with state := .paying } ∧
    (t.charges.get q).map (·.requested) = some amount ∧
    (∀ x : Seat, x ≠ q → t.charges.get x = s.charges.get x) ∧
    t.tags.slots = s.tags.slots.set q (some { tag := newTag s.tags, reader := reader }) ∧
    t.payers = s.payers.set i (some { p with charging := some q }) ∧
    ∃ ceiling,
      { dest := reader, answer := false,
        body := .chargeRequest (newTag s.tags) q amount ceiling } ∈ t.line.queue

/-- What a charge-start pass does for a card, for an account, and for a reader that several seats wait
for. -/
def Obligations.PassChargesCardOrAccount : Prop :=
  Claims.PassStartsCardCharge ∧ Claims.PassSettlesAccount ∧ Claims.PartyReaderServesLowestSeat

/-- A CHARGE_RESULT from a PRESENT reader is matched by its tag: for a charge in flight and a late entry
only from their own reader, another source raising SOURCE; an unknown tag, tag 0 or an unknown outcome
changes nothing. A late approval is voided: the lifetime totalizer counts it, and the shift while it is
OPEN or CLOSING. -/
def Claims.PresentReaderResultIsMatched : Prop :=
  ∀ (s : State) (e : Station) (h : Header) (tag outcome a2 a1 a0 t2 t1 t0 : Byte),
    Sent s e 0 h → e.cls = .reader → e.timer ≠ none →
    let u := heardAgain e s
    let result := exec (.chargeResult h [tag, outcome, a2, a1, a0, t2, t1, t0]) s
    let amount := fromBigEndian [a2, a1, a0]
    let tip := fromBigEndian [t2, t1, t0]
    (2 < outcome.toNat ∨ tag.toNat = 0 → result = .next u) ∧
    (outcome.toNat ≤ 2 → 0 < tag.toNat →
      (∀ (q : Seat) (c : Charge) (x : Tag), seatOfTag s tag.toNat = some q →
        s.charges.get q = some c → s.tags.slots.get q = some x →
        (x.reader ≠ e.addr → result = .next (raiseCause .source e.addr u)) ∧
        (x.reader = e.addr →
          (outcome.toNat = 0 → result = .next (approve q c x amount tip u)) ∧
          (1 ≤ outcome.toNat → result = .next (decline q c u)))) ∧
      (seatOfTag s tag.toNat = none →
        ((∀ x ∈ s.tags.late, x.tag ≠ tag.toNat) → result = .next u) ∧
        (∀ x : Tag, s.tags.late.find? (fun y => y.tag = tag.toNat) = some x →
          (x.reader ≠ e.addr → result = .next (raiseCause .source e.addr u)) ∧
          (x.reader = e.addr →
            ∃ t, result = .next t ∧
              t.tags = { s.tags with late := s.tags.late.filter (fun y => y.tag ≠ x.tag) } ∧
              t.seats = s.seats ∧ t.payers = s.payers ∧ t.charges = s.charges ∧
              t.accounts.totalizers.voids
                = (if outcome.toNat = 0 then min max32 (s.accounts.totalizers.voids + 1)
                   else s.accounts.totalizers.voids) ∧
              t.accounts.shift.totals.voids
                = (if outcome.toNat = 0 ∧ s.accounts.shift.state ≠ .closed then
                     min max16 (s.accounts.shift.totals.voids + 1)
                   else s.accounts.shift.totals.voids) ∧
              (outcome.toNat = 0 → s.line.queue.length < 16 →
                { dest := e.addr, answer := false, body := .void x.tag } ∈ t.line.queue)))))

/-- A CHARGE_RESULT from a SILENT reader is matched after the reader's PRESENT notice and its pass, as
from a PRESENT reader. -/
def Claims.SilentReaderReturnsBeforeResult : Prop :=
  ∀ (s : State) (e : Station) (h : Header) (payload : List Byte),
    Sent s e 0 h → e.cls = .reader → e.timer = none → payload.length ≤ 16 →
    exec (.chargeResult h payload) s
      = exec (.chargeResult h payload) (passAndCompare (heardAgain e s))

/-- CHARGE_RESULT, from a PRESENT and from a SILENT reader; displays are compared at the end of a pass
(notes/assumptions/11.md, the model's reading). -/
def Obligations.ResultIsMatchedByTag : Prop :=
  Claims.PresentReaderResultIsMatched ∧ Claims.SilentReaderReturnsBeforeResult

/-- An approval credits no more than was asked: the amount is cut to the requested amount, the tip to
the ceiling or to 0 with an amount of 0, an ADJUST tells the reader where either was reduced, and the
seat, returned to DUE with the payment, closes if it owes nothing; a partial approval removes the
payer. -/
def Claims.ApprovalIsClamped : Prop :=
  ∀ (s : State) (q : Seat) (c : Charge) (e : Tag) (p : Payer) (reader ref amount tip : Nat),
    (∀ x : Seat, x ≠ q → (s.seat x).state ≠ .due) → (s.seat q).state = .paying →
    s.payers.get c.index = some p → p.charging = some q → p.kind = .card reader ref →
    (∀ j : Fin 8, j ≠ c.index → s.payers.get j = none) →
    let credited := min amount c.requested
    let tipped := if credited = 0 then 0 else min tip c.ceiling
    let t := approve q c e amount tip s
    let paid := { s.seat q with
      state := .due,
      payments := (s.seat q).payments
        ++ [{ method := .card, amount := credited, tip := tipped, ref := some ref }],
      paid := (s.seat q).paid + credited, tips := (s.seat q).tips + tipped }
    (0 < credited → paid.due = 0 →
      t.seats = s.seats.set q vacantSeat ∧ t.charges = s.charges.set q none ∧
      t.tags = { s.tags with slots := s.tags.slots.set q none } ∧
      t.accounts.totalizers.fare = min max32 (s.accounts.totalizers.fare + (s.seat q).fare)) ∧
    (0 < credited → credited < c.requested → 0 < paid.due →
      t.seats = s.seats.set q paid ∧ t.payers = s.payers.set c.index none ∧
      t.charges = s.charges.set q none ∧
      t.tags = { s.tags with slots := s.tags.slots.set q none }) ∧
    (credited = 0 → 0 < c.requested →
      t.seats = s.seats.set q { s.seat q with state := .due } ∧
      t.payers = s.payers.set c.index none ∧ t.charges = s.charges.set q none ∧
      t.tags = { s.tags with slots := s.tags.slots.set q none }) ∧
    (credited < amount ∨ tipped < tip → s.line.queue.length < 16 →
      { dest := e.reader, answer := false, body := .adjust e.tag credited tipped } ∈ t.line.queue)

/-- A full approval that leaves a due above 0, as after an extra added during the charge, keeps the payer
that is not exhausted, and the pass of the same event starts the next charge for the rest against it,
where its reader is PRESENT and the list of payments has room. -/
def Claims.FullApprovalChargesRest : Prop :=
  ∀ (s : State) (q : Seat) (c : Charge) (e : Tag) (p : Payer) (ref amount tip : Nat),
    (∀ x : Seat, x ≠ q → (s.seat x).state ≠ .due) → (s.seat q).state = .paying →
    s.payers.get c.index = some p → p.charging = some q → p.kind = .card e.reader ref →
    p.scope = .seat q ∨ p.scope = .party → (∀ j : Fin 8, j ≠ c.index → s.payers.get j = none) →
    0 < c.requested → c.requested ≤ amount → (s.seat q).payments.length < 5 →
    readerPresent s.line.roster e.reader = true →
    (∀ x f, x ≠ q → s.tags.slots.get x = some f → f.reader ≠ e.reader) →
    s.line.queue.length < 12 →
    let tipped := min tip c.ceiling
    let spent := p.spent + (c.requested + tipped)
    let paid := { s.seat q with
      payments := (s.seat q).payments
        ++ [{ method := .card, amount := c.requested, tip := tipped, ref := some ref }],
      paid := (s.seat q).paid + c.requested, tips := (s.seat q).tips + tipped }
    spent < p.limit → 0 < paid.due →
    let t := approve q c e amount tip s
    let freed := { s.tags with slots := s.tags.slots.set q none }
    let n := min paid.due (p.limit - spent)
    let ceiling := min (min (n * s.tariff.tipPercent / 100) (p.limit - spent - n)) 99999
    t.seats = s.seats.set q paid ∧
    t.payers = s.payers.set c.index (some { p with spent := spent, charging := some q }) ∧
    t.charges = s.charges.set q (some
      { index := c.index, requested := n, ceiling := ceiling, timer := s.tariff.chargeTimeout }) ∧
    t.tags = { s.tags with
      counter := newTag freed,
      slots := s.tags.slots.set q (some { tag := newTag freed, reader := e.reader }) } ∧
    { dest := e.reader, answer := false,
      body := .chargeRequest (newTag freed) q n ceiling } ∈ t.line.queue

/-- How an approval is clamped, credited and followed by the next charge. -/
def Obligations.ApprovalIsClampedAndCredited : Prop :=
  Claims.ApprovalIsClamped ∧ Claims.FullApprovalChargesRest

/-- A charge that ends without a credit: DECLINED or CANCELLED removes the payer and returns the seat
to DUE; a timer's expiry, ABORT_CHARGE and a reader that turns SILENT do the same, move the tag to the
late list and queue a CHARGE_CANCEL. Stated where no other payer can take the seat up and no other
seat is DUE. -/
def Claims.ChargeEndsWithoutCredit : Prop :=
  ∀ (s : State) (q : Seat) (c : Charge) (e : Tag) (p : Payer),
    s.line.fifo = [] → (∀ x : Seat, x ≠ q → (s.seat x).state ≠ .due) →
    (s.seat q).state = .paying → s.charges.get q = some c → s.tags.slots.get q = some e →
    s.payers.get c.index = some p → p.charging = some q →
    (∀ j : Fin 8, j ≠ c.index → s.payers.get j = none) →
    let ended := fun (late : List Tag) (t : State) =>
      t.seats = s.seats.set q { s.seat q with state := .due } ∧
      t.payers = s.payers.set c.index none ∧ t.charges = s.charges.set q none ∧
      t.tags = { s.tags with slots := s.tags.slots.set q none, late := late } ∧
      t.accounts = s.accounts ∧ t.hold = s.hold
    let cancelled := fun (t : State) => s.line.queue.length < 16 →
      { dest := e.reader, answer := false, body := .chargeCancel e.tag } ∈ t.line.queue
    ended s.tags.late (decline q c s) ∧
    (∃ t, exec (.chargeTimerExpiry q) s = .next t ∧ ended (addLate e s.tags.late) t ∧ cancelled t) ∧
    (∀ (a : Nat) (seq : Byte), ConsoleReady s a →
      ∃ t, exec (.abortCharge seq (byte (seatNumber q))) s
          = .next (answered a seq (.abortCharge (byte (seatNumber q))) .ok [byte e.tag] t) ∧
        ended (addLate e s.tags.late) t ∧ cancelled t) ∧
    (∀ (station : BitVec 6) (r : Station), stationAt s.line.roster station.toNat = some r →
      r.cls = .reader → r.timer ≠ none → r.addr = e.reader →
      (∀ x f, x ≠ q → s.tags.slots.get x = some f → f.reader ≠ e.reader) →
      ∃ t, exec (.presenceTimeout station) s = .next t ∧ ended (addLate e s.tags.late) t ∧
        cancelled t ∧ t.line.roster = setPresence s.line.roster station.toNat none)

/-- ABORT_CHARGE is refused with RANGE for a seat outside 1 to 4 and with STATE for a seat that is not
PAYING; a charge timer's expiry for a seat without a charge in flight changes nothing, which is the
model's choice (notes/assumptions/13.md). -/
def Claims.NoChargeNoEnding : Prop :=
  ∀ (s : State) (a : Nat) (seq seat : Byte), ConsoleReady s a →
    (seatOfNumber seat.toNat = none →
      exec (.abortCharge seq seat) s = .next (answered a seq (.abortCharge seat) .range [] s)) ∧
    ∀ q : Seat, seatOfNumber seat.toNat = some q →
      ((s.seat q).state ≠ .paying →
        exec (.abortCharge seq seat) s = .next (answered a seq (.abortCharge seat) .state [] s)) ∧
      (s.charges.get q = none → exec (.chargeTimerExpiry q) s = .next s)

/-- A seat whose own card is removed by a refused charge falls back to the party's card in the same event:
the pass starts the next charge at that card's reader. -/
def Claims.RefusedCardFallsBackToParty : Prop :=
  ∀ (s : State) (q : Seat) (c : Charge) (p r : Payer) (j : Fin 8) (reader ref : Nat),
    (∀ x : Seat, x ≠ q → (s.seat x).state ≠ .due) → (s.seat q).state = .paying →
    0 < (s.seat q).due → (s.seat q).payments.length < 6 →
    s.payers.get c.index = some p → p.charging = some q → p.scope = .seat q →
    j ≠ c.index → s.payers.get j = some r → r.scope = .party → r.kind = .card reader ref →
    r.charging = none → r.spent < r.limit →
    (∀ k : Fin 8, k ≠ c.index → k ≠ j → s.payers.get k = none) →
    readerPresent s.line.roster reader = true →
    (∀ x f, x ≠ q → s.tags.slots.get x = some f → f.reader ≠ reader) →
    s.line.queue.length < 12 →
    let t := decline q c s
    let freed := { s.tags with slots := s.tags.slots.set q none }
    let n := min (s.seat q).due (r.limit - r.spent)
    let ceiling := min (min (n * s.tariff.tipPercent / 100) (r.limit - r.spent - n)) 99999
    t.seats = s.seats ∧
    t.payers = (s.payers.set c.index none).set j (some { r with charging := some q }) ∧
    t.charges = s.charges.set q (some
      { index := j, requested := n, ceiling := ceiling, timer := s.tariff.chargeTimeout }) ∧
    t.tags = { s.tags with
      counter := newTag freed,
      slots := s.tags.slots.set q (some { tag := newTag freed, reader := reader }) } ∧
    { dest := reader, answer := false,
      body := .chargeRequest (newTag freed) q n ceiling } ∈ t.line.queue

/-- How a charge ends without a credit, what takes it up, and what happens where there is none (the last
is the model's choice, notes/assumptions/13.md). -/
def Obligations.ChargeEndsOrIsNotThere : Prop :=
  Claims.ChargeEndsWithoutCredit ∧ Claims.RefusedCardFallsBackToParty ∧ Claims.NoChargeNoEnding

/-! ### The intercom -/

/-- A driver press and a driver release, by TALK from the DRIVER_PANEL or by the lapse of its press
record, in every state of the switch. -/
def Obligations.DriverPressAndRelease : Prop :=
  ∀ (s : State) (e : Station) (h : Header), Sent s e 1 h → e.cls = .driverPanel →
    let i := s.intercom
    let guard := s.tariff.guardTime
    (∃ t, exec (.talk h [1]) s = .next t ∧
      t.intercom.driverPress = some 1500 ∧
      t.intercom.gates = gatesOf t.intercom.state i.target s.seats ∧
      t.intercom.queue = i.queue ∧
      (i.state = .idle → t.intercom.state = .driverTalk) ∧
      (i.state = .driverTalk → t.intercom.state = .driverTalk) ∧
      (∀ q : Seat, i.state = .seatTalk q →
        t.intercom.state = .guard ∧ t.intercom.guardTimer = some guard ∧
        t.intercom.talkTimer = none ∧ t.intercom.pendingDriver = true ∧
        t.intercom.needsRelease = i.needsRelease.set q true) ∧
      (i.state = .guard →
        t.intercom.state = .guard ∧ t.intercom.pendingDriver = true ∧
        t.intercom.guardTimer = (if i.pendingDriver = true then i.guardTimer else some guard))) ∧
    (∃ t, exec (.talk h [0]) s = .next t ∧
      t.intercom.driverPress = none ∧ t.intercom.queue = i.queue ∧
      t.intercom.pendingDriver = i.pendingDriver ∧
      (i.driverPress ≠ none → i.state = .driverTalk →
        t.intercom.state = .guard ∧ t.intercom.guardTimer = some guard ∧
        t.intercom.gates = gatesClosed) ∧
      (i.driverPress = none ∨ i.state ≠ .driverTalk →
        t.intercom.state = i.state ∧ t.intercom.guardTimer = i.guardTimer)) ∧
    (i.driverPress ≠ none →
      ∃ t, exec (.pressLapse .driver) s = .next t ∧
        (i.state = .driverTalk → t.intercom = { i with
          driverPress := none, state := .guard, guardTimer := some guard, talkTimer := none,
          gates := gatesClosed }) ∧
        (i.state ≠ .driverTalk → t.intercom = { i with
          driverPress := none, gates := gatesOf i.state i.target s.seats }))

/-- A seat press, by TALK from the seat's panel: it counts only for a non-VACANT, unmuted seat whose
needs-release flag is clear, and is then taken by the state of the switch; any other press only holds
the record, and that of a muted seat alone has its INTERCOM_STATE queued. -/
def Claims.SeatPressCounts : Prop :=
  ∀ (s : State) (e : Station) (h : Header) (q : Seat), Sent s e 1 h → e.cls = .seatPanel →
    seatOfNumber e.binding = some q →
    let i := s.intercom
    ∃ t, exec (.talk h [1]) s = .next t ∧
      t.intercom.seatPress = i.seatPress.set q (some 1500) ∧
      ((s.seat q).state = .vacant ∨ i.needsRelease.get q = true ∨ i.mute.get q = true →
        t.intercom = { i with seatPress := i.seatPress.set q (some 1500) }) ∧
      (e.timer ≠ none → (s.seat q).state = .vacant ∨ i.needsRelease.get q = true →
        t.line = (heardAgain e s).line) ∧
      ((s.seat q).state ≠ .vacant → i.needsRelease.get q = false → i.mute.get q = true →
        s.line.queue.length < 15 →
        { dest := broadcast, answer := false,
          body := .intercomState ⟨i.state, i.queue, i.mute⟩ } ∈ t.line.queue) ∧
      ((s.seat q).state ≠ .vacant → i.needsRelease.get q = false → i.mute.get q = false →
        t.intercom.gates = gatesOf t.intercom.state i.target s.seats ∧
        (i.state = .idle →
          t.intercom.state = .seatTalk q ∧ t.intercom.talkTimer = some s.tariff.talkLimit ∧
          t.intercom.queue = i.queue) ∧
        (i.state = .seatTalk q → t.intercom.state = .seatTalk q ∧ t.intercom.queue = i.queue) ∧
        (i.state = .driverTalk ∨ i.state = .guard ∨ (∃ p : Seat, p ≠ q ∧ i.state = .seatTalk p) →
          t.intercom.state = i.state ∧
          t.intercom.queue = (if q ∈ i.queue then i.queue else i.queue ++ [q])) ∧
        (i.state = .guard →
          t.intercom.guardTimer
            = (if i.queue = [] ∧ i.pendingDriver = false then some s.tariff.guardTime
               else i.guardTimer)))

/-- A seat's release, by TALK from its panel, by the lapse of its press record or by its panel turning
SILENT: needs-release is cleared, its talk ends into the guard, and it leaves the call queue. -/
def Claims.SeatReleaseEndsCall : Prop :=
  ∀ (s : State) (q : Seat), s.line.fifo = [] → s.intercom.seatPress.get q ≠ none →
    let i := s.intercom
    let released := fun (t : State) =>
      t.intercom.seatPress = i.seatPress.set q none ∧
      t.intercom.needsRelease = i.needsRelease.set q false ∧
      t.intercom.queue = i.queue.filter (fun p => p ≠ q) ∧
      (i.state = .seatTalk q →
        t.intercom.state = .guard ∧ t.intercom.guardTimer = some s.tariff.guardTime ∧
        t.intercom.talkTimer = none ∧ t.intercom.gates = gatesClosed) ∧
      (i.state ≠ .seatTalk q →
        t.intercom.state = i.state ∧ t.intercom.guardTimer = i.guardTimer ∧
        t.intercom.talkTimer = i.talkTimer)
    (∃ t, exec (.pressLapse (.seat q)) s = .next t ∧ released t) ∧
    (∀ (e : Station) (h : Header), Sent s e 1 h → e.cls = .seatPanel →
      seatOfNumber e.binding = some q → ∃ t, exec (.talk h [0]) s = .next t ∧ released t) ∧
    (∀ (station : BitVec 6) (e : Station), stationAt s.line.roster station.toNat = some e →
      e.cls = .seatPanel → seatOfNumber e.binding = some q → e.timer ≠ none →
      ∃ t, exec (.presenceTimeout station) s = .next t ∧ released t ∧
        t.line.roster = setPresence s.line.roster station.toNat none)

/-- A seat's press and its release. -/
def Obligations.SeatPressAndRelease : Prop :=
  Claims.SeatPressCounts ∧ Claims.SeatReleaseEndsCall

/-- Guard expiry gives the talk to the pending driver if still held, else to the head of the call
queue, else to nobody; the talk limit cuts the talking seat off into the guard. -/
def Claims.GuardAndLimitExpire : Prop :=
  ∀ s : State, s.line.fifo = [] →
    let i := s.intercom
    (i.guardTimer ≠ none →
      ∃ t, exec .guardExpiry s = .next t ∧
        t.intercom.pendingDriver = false ∧ t.intercom.guardTimer = none ∧
        t.intercom.gates = gatesOf t.intercom.state i.target s.seats ∧
        (i.pendingDriver = true → i.driverPress ≠ none →
          t.intercom.state = .driverTalk ∧ t.intercom.queue = i.queue) ∧
        (i.pendingDriver = false ∨ i.driverPress = none →
          (i.queue = [] → t.intercom.state = .idle ∧ t.intercom.queue = []) ∧
          (∀ (q : Seat) (rest : List Seat), i.queue = q :: rest →
            t.intercom.state = .seatTalk q ∧ t.intercom.queue = rest ∧
            t.intercom.talkTimer = some s.tariff.talkLimit))) ∧
    (i.talkTimer ≠ none → ∀ q : Seat, i.state = .seatTalk q →
      ∃ t, exec .talkLimitExpiry s = .next t ∧
        t.intercom = { i with
          state := .guard, guardTimer := some s.tariff.guardTime, talkTimer := none,
          needsRelease := i.needsRelease.set q true, gates := gatesClosed })

/-- INTERCOM_MUTE and INTERCOM_TARGET, every form. -/
def Claims.MuteAndTarget : Prop :=
  ∀ (s : State) (a : Nat) (seq seat on target : Byte), ConsoleReady s a →
    let i := s.intercom
    let mute := exec (.intercomMute seq seat on) s
    let aim := exec (.intercomTarget seq target) s
    (seatOfNumber seat.toNat = none ∨ 1 < on.toNat →
      mute = .next (answered a seq (.intercomMute seat on) .range [] s)) ∧
    (∀ q : Seat, seatOfNumber seat.toNat = some q →
      (on.toNat = 1 → (s.seat q).state = .vacant →
        mute = .next (answered a seq (.intercomMute seat on) .state [] s)) ∧
      (on.toNat = 1 → (s.seat q).state ≠ .vacant →
        ∃ t, mute = .next (answered a seq (.intercomMute seat on) .ok [] t) ∧
          t.intercom.mute = i.mute.set q true ∧
          t.intercom.queue = i.queue.filter (fun p => p ≠ q) ∧
          (i.state = .seatTalk q →
            t.intercom.state = .guard ∧ t.intercom.guardTimer = some s.tariff.guardTime ∧
            t.intercom.talkTimer = none ∧ t.intercom.needsRelease = i.needsRelease.set q true) ∧
          (i.state ≠ .seatTalk q →
            t.intercom.state = i.state ∧ t.intercom.needsRelease = i.needsRelease)) ∧
      (on.toNat = 0 →
        ∃ t, mute = .next (answered a seq (.intercomMute seat on) .ok [] t) ∧
          t.intercom = { i with
            mute := i.mute.set q false, gates := gatesOf i.state i.target s.seats })) ∧
    (4 < target.toNat → aim = .next (answered a seq (.intercomTarget target) .range [] s)) ∧
    (∀ g : Target, (target.toNat = 0 ∧ g = .all)
        ∨ (∃ q : Seat, seatOfNumber target.toNat = some q ∧ g = .seat q) →
      aim = .next (answered a seq (.intercomTarget target) .ok []
        { s with intercom := { i with target := g, gates := gatesOf i.state g s.seats } }))

/-- The switch reports itself: an event of the switch that changes its state, its call queue or a mute
queues an INTERCOM_STATE with the contents as the event leaves them, and an expiry or a lapse that
changes none of the three queues nothing. -/
def Claims.SwitchReportsItsChanges : Prop :=
  ∀ (s t : State) (c : Instr), s.line.fifo = [] → s.line.queue.length < 10 → movesSwitch c →
    exec c s = .next t →
    let same := t.intercom.state = s.intercom.state ∧ t.intercom.queue = s.intercom.queue ∧
      t.intercom.mute = s.intercom.mute
    (¬same →
      { dest := broadcast, answer := false,
        body := .intercomState ⟨t.intercom.state, t.intercom.queue, t.intercom.mute⟩ }
          ∈ t.line.queue) ∧
    (same → c = .guardExpiry ∨ c = .talkLimitExpiry ∨ (∃ k, c = .pressLapse k) → t.line = s.line)

/-- The guard and the talk limit, the two intercom commands, and the switch's reports. -/
def Obligations.GuardLimitMuteAndTarget : Prop :=
  Claims.GuardAndLimitExpire ∧ Claims.MuteAndTarget ∧ Claims.SwitchReportsItsChanges

/-! ### The sign -/

/-- The free-seat count: with advertise-pool on and no exclusive seat occupied, the number of VACANT
seats; otherwise 4 with every seat VACANT, and 0 with any seat occupied. -/
def Claims.FreeSeatsAreCounted : Prop :=
  ∀ (pool : Bool) (v : PerSeat SeatRecord),
    let exclusive := ∃ q : Seat, (v.get q).exclusive = true ∧ (v.get q).state ≠ .vacant
    (pool = true → ¬exclusive →
      freeSeats pool v = (allSeats.filter (fun q => (v.get q).state = .vacant)).length) ∧
    (pool = false ∨ exclusive →
      ((∀ q : Seat, (v.get q).state = .vacant) → freeSeats pool v = 4) ∧
      ((∃ q : Seat, (v.get q).state ≠ .vacant) → freeSeats pool v = 0))

/-- SIGN_MODE: its range check, the mode and flag it sets, the patterns it buffers, and the free-seat
count it answers. -/
def Claims.SignModeIsSet : Prop :=
  ∀ (s : State) (a : Nat) (seq mode pool : Byte), ConsoleReady s a →
    (2 < mode.toNat ∨ 1 < pool.toNat →
      exec (.signMode seq mode pool) s = .next (answered a seq (.signMode mode pool) .range [] s)) ∧
    (∀ (m : SignMode) (p : Bool), mode.toNat = modeValue m → pool.toNat = p.toNat →
      ∃ t, exec (.signMode seq mode pool) s
          = .next (answered a seq (.signMode mode pool) .ok [byte (freeSeats p s.seats)] t) ∧
        t.sign.mode = m ∧ t.sign.pool = p ∧ t.sign.level = s.sign.level ∧
        t.sign.blink = s.sign.blink ∧
        ∀ c : Channel, t.sign.lamps.get c = { s.sign.lamps.get c with
          buffer := (signPatterns s.hold.held s.accounts.shift.state m p s.seats).get c })

/-- The sign state, row by row, the first row whose condition holds: OUT alone while HELD; OFFDUTY alone,
steady for a CLOSED shift or OFF_DUTY and slow for BREAK; HIRED alone in CLOSING, for an occupied cab;
and AVAIL, HIRED and the bars in an OPEN shift on duty. -/
def Claims.SignStateFollowsTable : Prop :=
  ∀ (held pool : Bool) (shift : ShiftState) (mode : SignMode) (v : PerSeat SeatRecord),
    let p := signPatterns held shift mode pool v
    let f := freeSeats pool v
    let occupied := ∃ q : Seat, (v.get q).state ≠ .vacant
    let darkBut := fun (lit : List Channel) => ∀ c : Channel, c ∉ lit → p.get c = .off
    let steadyIff := fun (c : Channel) (lit : Prop) =>
      (lit → p.get c = .steady) ∧ (¬lit → p.get c = .off)
    (held = true → p.out = .steady ∧ darkBut [.out]) ∧
    (held = false →
      (shift = .closed ∨ mode = .offDuty → p.offduty = .steady ∧ darkBut [.offduty]) ∧
      (shift ≠ .closed → mode = .brk → p.offduty = .slow ∧ darkBut [.offduty]) ∧
      (shift = .closing → mode = .onDuty → steadyIff .hired occupied ∧ darkBut [.hired]) ∧
      (shift = .opened → mode = .onDuty →
        steadyIff .avail (1 ≤ f) ∧ steadyIff .hired occupied ∧
        steadyIff .bar1 (pool = true ∧ occupied ∧ 1 ≤ f) ∧
        steadyIff .bar2 (pool = true ∧ occupied ∧ 2 ≤ f) ∧
        steadyIff .bar3 (pool = true ∧ occupied ∧ 3 ≤ f) ∧
        steadyIff .bar4 (pool = true ∧ occupied ∧ 4 ≤ f) ∧
        darkBut [.avail, .hired, .bar1, .bar2, .bar3, .bar4]))

/-- The free-seat count, the sign state by its table, and SIGN_MODE. -/
def Obligations.FreeSeatsAndSignMode : Prop :=
  Claims.FreeSeatsAreCounted ∧ Claims.SignStateFollowsTable ∧ Claims.SignModeIsSet

/-- A lamp period boundary: each lit channel takes a sample, three dark samples in a row set its fault
and three good ones clear it, a channel without an on-period keeps its record, every buffered pattern
becomes current with the level's duty, and a fault that comes to AVAIL, HIRED or OUT raises LAMP. The
period is an on-period of a STEADY channel always, of an OFF one never, of a SLOW one with the blink clock
below 500, and of a FAST one with the clock modulo 250 below 125. That
the raise comes before the patterns become current is the model's reading, and that the row carries the
sense levels its choice (notes/assumptions/21.md, 3.md). -/
def Obligations.LampBoundarySamplesAndLatches : Prop :=
  ∀ (s : State) (sense : BitVec 8), s.line.fifo = [] → s.sign.timebase ≠ none →
    ∃ t, exec (.lampPeriodBoundary sense) s = .next t ∧
      t.pins = { s.pins with sense := sense } ∧
      t.sign.blink = (s.sign.blink + 4) % 1000 ∧
      (∀ c : Channel,
        let l := s.sign.lamps.get c
        let k := t.sign.lamps.get c
        let lit := sense.getLsbD c.number
        k.current = k.buffer ∧ k.on = onPeriod t.sign.blink k.buffer ∧
        (k.buffer = .off → k.on = false) ∧ (k.buffer = .steady → k.on = true) ∧
        (k.buffer = .slow → k.on = decide (t.sign.blink < 500)) ∧
        (k.buffer = .fast → k.on = decide (t.sign.blink % 250 < 125)) ∧
        k.duty = some (match s.sign.level with
          | .day => s.tariff.dayDuty
          | .night => s.tariff.nightDuty) ∧
        (l.on = false → k.dark = l.dark ∧ k.good = l.good ∧ k.fault = l.fault) ∧
        (l.on = true → lit = false →
          k.dark = min 3 (l.dark + 1) ∧ k.good = 0 ∧
          k.fault = (l.fault || decide (2 ≤ l.dark))) ∧
        (l.on = true → lit = true →
          k.dark = 0 ∧ k.good = min 3 (l.good + 1) ∧
          k.fault = (l.fault && decide (l.good < 2)))) ∧
      ((∃ c ∈ [Channel.avail, .hired, .out],
          (s.sign.lamps.get c).fault = false ∧ (t.sign.lamps.get c).fault = true) →
        t.hold.status.lamp = true ∧ t.monitor.condition.lamp = true) ∧
      ((∃ c ∈ [Channel.avail, .hired, .out],
          (s.sign.lamps.get c).fault = true ∧ (t.sign.lamps.get c).fault = false) →
        (∀ c ∈ [Channel.avail, .hired, .out], (t.sign.lamps.get c).fault = false) →
        t.monitor.condition.lamp = false) ∧
      ((∀ c ∈ [Channel.avail, .hired, .out],
          (t.sign.lamps.get c).fault = (s.sign.lamps.get c).fault) →
        t.hold = s.hold ∧ t.monitor = s.monitor)

/-! ### The metrology hold -/

/-- A raise of a cause: its status and last source are set; a masked raise ends there; an unmasked one
of HOLD severity enters HELD while RUNNING, with the hold number, the trigger record, the pointer, and
its HOLD_EVENT and STATUS where the queue has room; any other sets a pointer that is NONE. -/
def Claims.RaiseSetsStatusAndMayHold : Prop :=
  ∀ (s : State) (c : Cause) (src : Nat),
    let t := raiseCause c src s
    let status := s.hold.status.set c true
    let n := min max24 (s.hold.count + 1)
    t.monitor = { s.monitor with lastSource := s.monitor.lastSource.set c src } ∧
    (s.monitor.masked.get c = true → t.hold = { s.hold with status := status }) ∧
    (s.monitor.masked.get c = false →
      (s.monitor.note.get c = false → s.hold.held = false →
        t.hold = {
          held := true, status := status, pointer := some c, count := n,
          trigger := { cause := some c, source := src, time := s.clock.time,
                       valid := s.clock.valid, number := n } } ∧
        (s.line.queue.length < 16 →
          { dest := broadcast, answer := false,
            body := .holdEvent false (some c) (some c) src } ∈ t.line.queue) ∧
        (s.line.queue.length < 15 →
          { dest := broadcast, answer := false, body := .status (statusReport t) } ∈ t.line.queue) ∧
        t.accounts.shift.totals.holds
          = (if s.accounts.shift.state = .closed then s.accounts.shift.totals.holds
             else min max16 (s.accounts.shift.totals.holds + 1)) ∧
        (∀ x : Channel, (t.sign.lamps.get x).buffer = if x = .out then .steady else .off)) ∧
      (s.monitor.note.get c = true ∨ s.hold.held = true →
        (s.hold.pointer = none →
          t.hold = { s.hold with status := status, pointer := some c }) ∧
        (s.hold.pointer ≠ none → t.hold = { s.hold with status := status }) ∧
        t.accounts = s.accounts ∧ t.sign = s.sign ∧ t.line = s.line))

/-- HOLD_TRIGGER raises CONSOLE with the console's address; CLEAR_CAUSE and HOLD_RELEASE with every
refusal in its order; a release keeps the trigger record, the pointer and the count, and queues its
HOLD_EVENT and STATUS where the queue has room. -/
def Claims.HoldIsTriggeredClearedReleased : Prop :=
  ∀ (s : State) (a : Nat) (seq cause : Byte) (service : Bool), ConsoleReady s a →
    let clear := exec (.clearCause service seq cause) s
    let release := exec (.holdRelease seq) s
    let u := s.setPins { s.pins with service := service }
    let refused := fun (code : ResultCode) =>
      clear = .next (answered a seq (.clearCause cause) code [] u)
    exec (.holdTrigger seq) s
      = .next (answered a seq .holdTrigger .ok [] (raiseCause .console a s)) ∧
    (9 < cause.toNat → refused .range) ∧
    (∀ c : Cause, cause.toNat = c.number →
      (c = .config → refused .state) ∧
      (c ≠ .config →
        (s.monitor.condition.get c = true → refused .cond) ∧
        (s.monitor.condition.get c = false →
          (c = .tamper → service = false → refused .state) ∧
          (c ≠ .tamper ∨ service = true →
            clear = .next (answered a seq (.clearCause cause) .ok []
              { u with hold := { s.hold with
                  status := s.hold.status.set c false,
                  pointer :=
                    if s.hold.pointer = some c then none else s.hold.pointer } }))))) ∧
    (s.hold.held = false → release = .next (answered a seq .holdRelease .state [] s)) ∧
    (s.hold.held = true →
      ((∃ c : Cause, s.hold.status.get c = true ∧ s.monitor.masked.get c = false
          ∧ s.monitor.note.get c = false) →
        release = .next (answered a seq .holdRelease .cause [] s)) ∧
      ((∀ c : Cause, s.hold.status.get c = true → s.monitor.masked.get c = false →
          s.monitor.note.get c = true) →
        ∃ t, release = .next (answered a seq .holdRelease .ok [] t) ∧
          t.hold = { s.hold with held := false } ∧
          (s.line.queue.length < 16 →
            { dest := broadcast, answer := false,
              body := .holdEvent true s.hold.trigger.cause s.hold.pointer
                s.hold.trigger.source } ∈ t.line.queue) ∧
          (s.line.queue.length < 15 →
            { dest := broadcast, answer := false,
              body := .status (statusReport t) } ∈ t.line.queue) ∧
          ∀ x : Channel, (t.sign.lamps.get x).buffer
            = (signPatterns false s.accounts.shift.state s.sign.mode s.sign.pool s.seats).get x))

/-- A raise of a cause, and the hold's three commands that write; that CLEAR_CAUSE's row carries the SERVICE
level it reads is the model's choice (notes/assumptions/3.md). -/
def Obligations.HoldIsRaisedAndReleased : Prop :=
  Claims.RaiseSetsStatusAndMayHold ∧ Claims.HoldIsTriggeredClearedReleased

/-- The TAMPER input: a change of level begins or is discarded; a settled assertion raises TAMPER with
its condition present from load completion on, and before it sets the status alone; a settled release
clears the condition and leaves the status. That one filter serves both watches, and that a settling
with no change under way does nothing, are the model's (notes/assumptions/13.md, 20.md). -/
def Obligations.TamperIsFilteredAndRaised : Prop :=
  ∀ (s : State) (level : Bool),
    exec (.tamperChange level) s = .next { s with
      pins := { s.pins with tamper := level },
      tamperFilter := { s.tamperFilter with changing := decide (level ≠ s.tamperFilter.settled) } } ∧
    (s.line.fifo = [] →
      let u := { s with tamperFilter := { settled := s.pins.tamper, changing := false } }
      let condition := fun (v : Bool) (t : State) =>
        { t with monitor := { t.monitor with
            condition := { t.monitor.condition with tamper := v } } }
      (s.tamperFilter.changing = false → exec .tamperSettled s = .next s) ∧
      (s.tamperFilter.changing = true →
        (s.start.loaded = true → s.pins.tamper = true →
          exec .tamperSettled s
            = .next (condition true (raiseCause .tamper s.tariff.own u))) ∧
        (s.start.loaded = true → s.pins.tamper = false →
          exec .tamperSettled s = .next (condition false u)) ∧
        (s.start.loaded = false → s.pins.tamper = true →
          exec .tamperSettled s = .next { u with hold := { s.hold with
            status := { s.hold.status with tamper := true } } }) ∧
        (s.start.loaded = false → s.pins.tamper = false → exec .tamperSettled s = .next u)))

/-! ### Receiving -/

/-- A NAV_REPORT from the NAV station: its speed part moves the plausibility count and the PULSE_LOSS
condition, raising PULSE_LOSS when the count reaches N_plaus; its ambient part sets the brightness
level. -/
def Obligations.NavReportIsTakenInTwoParts : Prop :=
  ∀ (s : State) (e : Station) (h : Header) (v1 v0 flags ambient : Byte), Sent s e 2 h →
    e.cls = .nav →
    let speed := fromBigEndian [v1, v0]
    let zero := s.motion.speed = 0
    ∃ t, exec (.navReport h [v1, v0, flags, ambient]) s = .next t ∧
      t.sign.level
        = (if flags.getLsbD 1 = true ∧ ambient.toNat < s.tariff.nightBelow then .night
           else if flags.getLsbD 1 = true ∧ s.tariff.dayAbove < ambient.toNat then .day
           else s.sign.level) ∧
      t.motion.speed = s.motion.speed ∧ t.motion.window = s.motion.window ∧
      t.motion.counter = s.motion.counter ∧
      (flags.getLsbD 0 = false →
        t.motion.plausibility = 0 ∧ t.hold = s.hold ∧ t.monitor = s.monitor) ∧
      (flags.getLsbD 0 = true → speed < s.tariff.vMin →
        t.motion.plausibility = 0 ∧ t.hold = s.hold ∧
        t.monitor = { s.monitor with
          condition := { s.monitor.condition with pulseLoss := false } }) ∧
      (flags.getLsbD 0 = true → s.tariff.vMin ≤ speed →
        (¬zero → t.motion.plausibility = 0 ∧ t.hold = s.hold ∧ t.monitor = s.monitor) ∧
        (zero → s.motion.plausibility + 1 < s.tariff.nPlaus →
          t.motion.plausibility = s.motion.plausibility + 1 ∧ t.hold = s.hold ∧
          t.monitor = s.monitor) ∧
        (zero → s.motion.plausibility + 1 = s.tariff.nPlaus →
          t.motion.plausibility = s.tariff.nPlaus ∧ t.hold.status.pulseLoss = true ∧
          t.monitor.condition.pulseLoss = true ∧
          t.monitor.lastSource.pulseLoss = s.tariff.own) ∧
        (zero → s.tariff.nPlaus ≤ s.motion.plausibility →
          t.motion = s.motion ∧ t.hold = s.hold ∧ t.monitor = s.monitor))

/-- Source validation: a frame to the CF-14 whose source is not listed, whose kind its class may not
send, whose class field is wrong, or which is a HEARTBEAT without its source's class, is dropped with
SOURCE raised; a FAULT_REPORT raises PEER with its code; a HEARTBEAT of the right class has no effect
beyond presence. That a row is taken by its bytes, whatever its name, is the model's reading
(notes/assumptions/17.md). -/
def Claims.FramesAreValidatedBySource : Prop :=
  ∀ (s : State) (h : Header), s.start.loaded = true → s.line.fifo = [] → h.wf = true →
    h.dest.toNat = s.tariff.own ∨ h.dest.toNat = broadcast →
    (∀ (v : Option Bool) (kind : BitVec 6) (payload : List Byte), payload.length ≤ 16 →
      stationAt s.line.roster h.source.toNat = none
          ∨ kindClass kind.toNat ≠ some h.cls.toNat
          ∨ (∀ e : Station, stationAt s.line.roster h.source.toNat = some e →
              kindAllowed e.cls kind.toNat = false) →
      receiveKind v kind h payload s = raiseCause .source h.source.toNat s) ∧
    (∀ (e : Station) (p : List Byte), stationAt s.line.roster h.source.toNat = some e →
      p.length ≤ 16 → p.head? ≠ some (byte (classValue e.cls)) →
      exec (.heartbeat h p) s = .next (raiseCause .source h.source.toNat s)) ∧
    (stationAt s.line.roster h.source.toNat = none → ∀ (p : List Byte) (service : Bool),
      p.length ≤ 16 →
      let dropped : Host.Outcome State Fault Refusal :=
        .next (raiseCause .source h.source.toNat s)
      exec (.talk h p) s = dropped ∧ exec (.cardPresented h p) s = dropped ∧
      exec (.chargeResult h p) s = dropped ∧ exec (.navReport h p) s = dropped ∧
      exec (.faultReport h p) s = dropped ∧ exec (.heartbeat h p) s = dropped ∧
      exec (.command service h p) s = dropped) ∧
    (∀ (e : Station) (code : Byte), stationAt s.line.roster h.source.toNat = some e →
      h.cls.toNat = 1 →
      ∃ t, exec (.faultReport h [code]) s = .next t ∧
        t.hold.status.peer = true ∧ t.monitor.lastSource.peer = e.addr ∧
        t.monitor.lastCode = code.toNat) ∧
    (∀ (e : Station) (health : Byte), stationAt s.line.roster h.source.toNat = some e →
      h.cls.toNat = 3 → e.timer ≠ none →
      exec (.heartbeat h [byte (classValue e.cls), health]) s = .next (heardAgain e s))

/-- Presence: a frame addressed to another station makes its listed source heard; a SILENT reader that
is heard brings a pass, a SILENT panel that is heard gets its seat's display at once, and an unlisted
source leaves no trace. -/
def Claims.StationsAreHeard : Prop :=
  ∀ (s : State) (kind : BitVec 6) (h : Header) (payload : List Byte),
    s.start.loaded = true → s.line.fifo = [] → h.wf = true → payload.length ≤ 16 →
    h.dest.toNat ≠ s.tariff.own → h.dest.toNat ≠ broadcast →
    (stationAt s.line.roster h.source.toNat = none →
      exec (.frameToOtherStation kind h payload) s = .next s) ∧
    (∀ e : Station, stationAt s.line.roster h.source.toNat = some e →
      (e.timer ≠ none →
        exec (.frameToOtherStation kind h payload) s = .next (heardAgain e s)) ∧
      (e.timer = none → e.cls ≠ .reader → e.cls ≠ .seatPanel →
        exec (.frameToOtherStation kind h payload) s = .next (heardAgain e s)) ∧
      (e.timer = none → e.cls = .reader →
        exec (.frameToOtherStation kind h payload) s
          = .next (passAndCompare (heardAgain e s))) ∧
      (e.timer = none → e.cls = .seatPanel → ∀ q : Seat, seatOfNumber e.binding = some q →
        presentPanel s.line.roster q = none →
        (∀ x ∈ s.line.roster, x.cls = .seatPanel → x.binding = e.binding → x.addr = e.addr) →
        s.line.queue.length < 16 →
        ∃ t, exec (.frameToOtherStation kind h payload) s = .next t ∧
          t.display = s.display.set q (some (displayOf (s.seat q))) ∧
          { dest := e.addr, answer := false,
            body := .seatDisplay q (displayOf (s.seat q)) } ∈ t.line.queue))

/-- Presence timers: a PRESENT station turns SILENT with its notice, and an unlisted or SILENT one has
none, which is the model's choice (notes/assumptions/13.md); a NAV station's silence clears the
plausibility count and keeps the rest. -/
def Claims.SilenceIsNoticed : Prop :=
  ∀ (s : State) (station : BitVec 6), s.line.fifo = [] →
    (stationAt s.line.roster station.toNat = none →
      exec (.presenceTimeout station) s = .next s) ∧
    (∀ e : Station, stationAt s.line.roster station.toNat = some e →
      let u := s.setLine { s.line with roster := setPresence s.line.roster station.toNat none }
      (e.timer = none → exec (.presenceTimeout station) s = .next s) ∧
      (e.timer ≠ none → e.cls = .console ∨ e.cls = .aux →
        exec (.presenceTimeout station) s = .next u) ∧
      (e.timer ≠ none → e.cls = .nav →
        exec (.presenceTimeout station) s
          = .next { u with motion := { s.motion with plausibility := 0 } }) ∧
      (e.timer ≠ none → e.cls = .driverPanel → s.intercom.state = .driverTalk →
        s.intercom.driverPress ≠ none →
        ∃ t, exec (.presenceTimeout station) s = .next t ∧ t.intercom.state = .guard ∧
          t.intercom.driverPress = none ∧ t.intercom.guardTimer = some s.tariff.guardTime))

/-- A frame that passes source validation with a wrong payload length, or a TALK whose held byte is neither
0 nor 1, is dropped without a cause: its station is heard, and nothing else. -/
def Claims.WrongLengthIsOnlyHeard : Prop :=
  ∀ (s : State) (e : Station) (h : Header) (p : List Byte) (cls : Nat), Sent s e cls h →
    e.timer ≠ none → p.length ≤ 16 →
    let heard : Host.Outcome State Fault Refusal := .next (heardAgain e s)
    (cls = 1 → p.length ≠ 1 → exec (.faultReport h p) s = heard) ∧
    (cls = 1 → e.cls = .driverPanel ∨ e.cls = .seatPanel →
      p.length ≠ 1 ∨ (∃ b : Byte, p = [b] ∧ 1 < b.toNat) → exec (.talk h p) s = heard) ∧
    (cls = 1 → e.cls = .reader → p.length ≠ 5 → exec (.cardPresented h p) s = heard) ∧
    (cls = 0 → e.cls = .reader → p.length ≠ 8 → exec (.chargeResult h p) s = heard) ∧
    (cls = 2 → e.cls = .nav → p.length ≠ 4 → exec (.navReport h p) s = heard) ∧
    (cls = 3 → p.head? = some (byte (classValue e.cls)) → exec (.heartbeat h p) s = heard)

/-- Presence, heard and lost; when displays are compared at a pass, and the timeout of a station that is
not PRESENT, are the model's (notes/assumptions/11.md, 13.md). -/
def Obligations.PresenceIsHeardAndLost : Prop :=
  Claims.StationsAreHeard ∧ Claims.SilenceIsNoticed ∧ Claims.WrongLengthIsOnlyHeard

/-- Frames that R187 discards leave no trace: bytes whose last two are not the CRC of the rest, bytes that
spell no frame, and a header out of range; nor does any frame before load completion (R4, R202). That a
row of another name is discarded by its bytes, and that bytes fewer or more than the length field
announces are, is the model's (notes/assumptions/17.md, 35.md). -/
def Claims.DiscardedFramesLeaveNoTrace : Prop :=
  ∀ (s : State) (bytes : List Byte) (kind : BitVec 6) (h : Header) (payload : List Byte)
    (service : Bool),
    (parseFrame bytes = none → exec (.frameDiscarded bytes) s = .next s) ∧
    (∀ (body : List Byte) (high low : Byte), bytes = body ++ [high, low] →
      high.toNat * 256 + low.toNat ≠ (crc16 body).toNat →
      exec (.frameDiscarded bytes) s = .next s) ∧
    (s.start.loaded = false ∨ h.wf = false ∨ 16 < payload.length →
      exec (.frameToOtherStation kind h payload) s = .next s ∧
      exec (.talk h payload) s = .next s ∧ exec (.cardPresented h payload) s = .next s ∧
      exec (.chargeResult h payload) s = .next s ∧ exec (.navReport h payload) s = .next s ∧
      exec (.faultReport h payload) s = .next s ∧ exec (.heartbeat h payload) s = .next s ∧
      exec (.command service h payload) s = .next s) ∧
    (∀ a b c n : Byte, ∀ rest : List Byte, bytes = a :: b :: c :: n :: rest →
      16 < n.toNat ∨ 64 ≤ b.toNat ∨ 64 ≤ c.toNat ∨ b.toNat = 0 ∨ b.toNat = 63 ∨ c.toNat = 0
        ∨ rest.length ≠ n.toNat + 2 →
      exec (.frameDiscarded bytes) s = .next s)

/-- The tables of source validation: the class of each kind that another station sends, and the kinds that
each roster class may send. -/
def Claims.KindsAreListed : Prop :=
  ∀ (c : StationClass) (kind cls : Nat),
    (kindClass kind = some cls ↔
      (kind, cls) ∈ [(8, 0), (16, 1), (18, 1), (20, 1), (22, 1), (32, 2), (49, 3)]) ∧
    (kindAllowed c kind = true ↔
      kind = 16 ∨ kind = 49 ∨ c = .console ∧ kind = 18 ∨
      (c = .driverPanel ∨ c = .seatPanel) ∧ kind = 20 ∨
      c = .reader ∧ (kind = 8 ∨ kind = 22) ∨ c = .nav ∧ kind = 32)

/-- Source validation with its tables, and the frames that leave no trace; rows are taken by their bytes, and bytes of
another length than announced spell no frame (notes/assumptions/17.md, 35.md, the model's). -/
def Obligations.FramesAreValidatedOrDiscarded : Prop :=
  Claims.FramesAreValidatedBySource ∧ Claims.KindsAreListed ∧ Claims.DiscardedFramesLeaveNoTrace

/-! ### Commands and the transmit queue -/

/-- A COMMAND frame from the PRESENT console has the effect of its command's row, which is the model's
reading of the rows (notes/assumptions/16.md); the SERVICE level is the one the frame's row carries
(notes/assumptions/3.md). -/
def Claims.CommandFrameIsItsRow : Prop :=
  ∀ (s : State) (e : Station) (h : Header) (seq : Byte) (c : Command) (service : Bool),
    Sent s e 1 h → e.cls = .console → consoleAddr s.line.roster = some e.addr →
    (∀ x ∈ s.line.roster, x.addr = e.addr → x.timer = some 2000) →
    exec (.command service h (commandPayload seq c)) s = exec (rowOf service seq c) s

/-- The intake takes a ready console's command at once and hands it to its owning block: the row of
every command ends in the owning block's effect and its RESULT, with SERVICE read as the command is
taken. RESET answers OK and starts the 100 ms timer. -/
def Claims.IntakeTakesCommandAtOnce : Prop :=
  ∀ (s : State) (a : Nat) (seq : Byte) (c : Command) (service : Bool), ConsoleReady s a →
    (let u := if readsService c = true then s.setPins { s.pins with service := service } else s
     exec (rowOf service seq c) s
       = .next (answered a seq c (perform a c u).2.code (perform a c u).2.data (perform a c u).1)) ∧
    exec (.reset seq) s = .next (answered a seq .reset .ok []
      (s.setLine { s.line with resetTimer := some 100 }))

/-- A console command, by frame or by row, has its owning block's effect, and a refusal has none; that a
row is its command's arrival from the CONSOLE is the model's reading (notes/assumptions/16.md). -/
def Obligations.CommandsReachTheirBlock : Prop :=
  Claims.CommandFrameIsItsRow ∧ Claims.IntakeTakesCommandAtOnce ∧ Claims.RefusalsChangeNothing

/-- A command that cannot be taken waits: it joins the tail of a FIFO with room while an answer is
pending or a RESET awaits its start, and finds BUSY at a full one; without load completion or a CONSOLE
on the roster nothing happens, which is the model's choice for rows (notes/assumptions/16.md). -/
def Claims.CommandWaitsOrFindsBusy : Prop :=
  ∀ (s : State) (a : Nat) (seq : Byte) (c : Command) (service : Bool),
    let row := exec (rowOf service seq c) s
    (s.start.loaded = false ∨ consoleAddr s.line.roster = none → row = .next s) ∧
    (s.start.loaded = true → consoleAddr s.line.roster = some a →
      s.line.answerPending = true ∨ s.line.resetTimer ≠ none →
      (s.line.fifo.length < 4 →
        row = .next (s.setLine { s.line with
          fifo := s.line.fifo ++ [{ source := a, payload := commandPayload seq c }] })) ∧
      (4 ≤ s.line.fifo.length →
        row = .next (enqueue
          { dest := a, answer := false, body := .result seq .busy c.code [] } s)))

/-- A COMMAND that does not decode is answered with RANGE and changes nothing else; the echo of a byte
that its payload was too short to hold is a free value, which is the model's choice
(notes/assumptions/6.md). -/
def Claims.UndecodableCommandIsRange : Prop :=
  ∀ (s : State) (e : Station) (h : Header) (payload : List Byte) (service : Bool),
    Sent s e 1 h → e.cls = .console → e.timer ≠ none → payload.length ≤ 16 →
    s.line.answerPending = false → s.line.resetTimer = none → decodeCommand payload = none →
    let u := heardAgain e s
    ∃ t, exec (.command service h payload) s = .next t ∧
      t = { enqueue
          { dest := e.addr, answer := true,
            body := .result (payload.getD 0 (Config.missingEcho s.draws)) .range
              (payload.getD 1 (Config.missingEcho (s.draws + 1))) [] }
          (u.setLine { u.line with answerPending := true }) with
        draws := if payload.length < 2 then s.draws + 2 else s.draws }

/-- Commands that cannot be taken at once or do not decode. -/
def Obligations.CommandsWaitOrAreAnswered : Prop :=
  Claims.CommandWaitsOrFindsBusy ∧ Claims.UndecodableCommandIsRange

/-- How the transmit queue takes a new frame: in the place of a queued frame of its coalescing key;
else behind its class while there is room; else, in a full queue, in the place of the youngest frame
of the highest class, if that is above its own; else it is discarded. A discarded SEAT_DISPLAY makes
its copy invalid, and a discarded pending RESULT clears the answer-pending mark. -/
def Claims.QueueTakesFrameByRule : Prop :=
  ∀ (s : State) (f : TxFrame), QueueLaw s →
    let q := s.line.queue
    let t := enqueue f s
    let keyed := f.body.key ≠ none ∧ ∃ g ∈ q, g.body.key = f.body.key
    let placed := fun (q : List TxFrame) =>
      q.filter (fun g => g.body.cls ≤ f.body.cls) ++ f :: q.filter (fun g => f.body.cls < g.body.cls)
    (keyed → t.line.queue = q.map (fun g => if g.body.key = f.body.key then f else g) ∧
      f ∈ t.line.queue ∧ t.display = s.display ∧
      t.line.answerPending = s.line.answerPending) ∧
    (¬keyed → q.length < 16 → t.line.queue = placed q ∧ t.display = s.display ∧
      t.line.answerPending = s.line.answerPending) ∧
    (¬keyed → ∀ (rest : List TxFrame) (g : TxFrame), q = rest ++ [g] → q.length = 16 →
      let lost := if f.body.cls < g.body.cls then g else f
      t.line.queue = (if f.body.cls < g.body.cls then placed rest else q) ∧
      (∀ (x : Seat) (d : Display), lost.body = .seatDisplay x d →
        t.display = s.display.set x none) ∧
      ((∃ seq code command data, lost.body = .result seq code command data) → lost.answer = true →
        t.line.answerPending = false))

/-- The line: at the idle line the head of the queue goes into transmission exactly if no other
station's class, kind and source are lower; its completion or abandonment ends it, the completion of
the pending RESULT clears the mark, and an abandoned SEAT_DISPLAY makes its copy invalid; the STATUS
timer queues a STATUS of what stands. The model's choices: an equal header does not win
(notes/assumptions/22.md), the flag `answer` tells the pending RESULT (8.md), and an idle line during a
transmission, or an end of none, changes nothing (13.md). -/
def Claims.LineSendsHeadOfQueue : Prop :=
  ∀ s : State,
    let complete := exec .transmissionComplete s
    let abandoned := exec .transmissionAbandoned s
    (∀ (others : List Contender) (f : TxFrame) (rest : List TxFrame), s.start.loaded = true →
      s.line.transmitting = none → s.line.queue = f :: rest →
      ((∀ x ∈ others, arbitration f.body.cls f.body.kind s.tariff.own
          ≤ arbitration x.cls.toNat x.kind.toNat x.source.toNat) →
        exec (.lineIdle others) s
          = .next (s.setLine { s.line with queue := rest, transmitting := some f })) ∧
      ((∃ x ∈ others, arbitration x.cls.toNat x.kind.toNat x.source.toNat
          < arbitration f.body.cls f.body.kind s.tariff.own) →
        exec (.lineIdle others) s = .next s)) ∧
    (∀ others : List Contender, s.line.queue = [] ∨ s.line.transmitting ≠ none →
      exec (.lineIdle others) s = .next s) ∧
    (s.line.transmitting = none →
      complete = .next s ∧ abandoned = .next s) ∧
    (∀ f : TxFrame, s.line.transmitting = some f → s.line.fifo = [] →
      let u := s.setLine { s.line with transmitting := none }
      (f.answer = false → complete = .next u) ∧
      (f.answer = true → s.line.resetTimer = none →
        complete
          = .next (s.setLine { s.line with transmitting := none, answerPending := false })) ∧
      (∀ (q : Seat) (d : Display), f.body = .seatDisplay q d →
        abandoned = .next { u with display := s.display.set q none }) ∧
      (∀ seq code command data, f.body = .result seq code command data → f.answer = true →
        abandoned
          = .next (s.setLine { s.line with transmitting := none, answerPending := false })) ∧
      ((∀ q d, f.body ≠ .seatDisplay q d) →
        (∀ seq code command data, f.body ≠ .result seq code command data) →
        abandoned = .next u)) ∧
    (s.line.fifo = [] → s.line.statusTimer ≠ none →
      exec .statusTimerExpiry s = .next (send broadcast (.status (statusReport s)) s))

/-- The completion of the pending RESULT lets the next command be taken in the same event, and a command
that reads SERVICE reads its level at that event, a free value, since the row carries none
(notes/assumptions/3.md). -/
def Claims.CompletionTakesNextCommand : Prop :=
  ∀ (s : State) (f : TxFrame) (a : Nat) (seq : Byte) (c : Command),
    s.line.transmitting = some f → f.answer = true → s.line.resetTimer = none →
    s.start.loaded = true → s.line.fifo = [{ source := a, payload := commandPayload seq c }] →
    let v := s.setLine { s.line with transmitting := none, answerPending := false, fifo := [] }
    let u := if readsService c = true then
        (v.setPins { v.pins with service := Config.serviceLevel s.draws }).setDraws (s.draws + 1)
      else v
    exec .transmissionComplete s
      = .next (answered a seq c (perform a c u).2.code (perform a c u).2.data (perform a c u).1)

/-- The kind code and class of each frame the CF-14 sends. -/
def Claims.SentKindsAreListed : Prop :=
  ∀ (q : Seat) (d : Display) (r : IntercomReport) (x : StatusReport) (trigger pointer : Option Cause)
    (source tag amount tip index shift page : Nat) (seq command : Byte) (code : ResultCode)
    (data : List Byte) (released : Bool),
    let listed := fun (b : TxBody) (kind cls : Nat) => b.kind = kind ∧ b.cls = cls
    listed (.holdEvent released trigger pointer source) 4 0 ∧
    listed (.chargeRequest tag q amount tip) 9 0 ∧ listed (.chargeCancel tag) 10 0 ∧
    listed (.void tag) 11 0 ∧ listed (.adjust tag amount tip) 12 0 ∧
    listed (.result seq code command data) 19 1 ∧ listed (.cardReply code index) 23 1 ∧
    listed (.seatDisplay q d) 33 2 ∧ listed (.intercomState r) 34 2 ∧
    listed (.report shift page data) 35 2 ∧ listed (.status x) 48 3

/-- Two frames share a coalescing key exactly if both are STATUS, both SEAT_DISPLAY for one seat, or both
INTERCOM_STATE; and arbitration compares the class first, then the kind, then the source. -/
def Claims.KeysAndArbitrationFollowTables : Prop :=
  (∀ b c : TxBody,
    (b.key ≠ none ∧ b.key = c.key) ↔
      (∃ x y, b = .status x ∧ c = .status y) ∨
      (∃ q d e, b = .seatDisplay q d ∧ c = .seatDisplay q e) ∨
      (∃ x y, b = .intercomState x ∧ c = .intercomState y)) ∧
  (∀ cls kind source cls' kind' source' : Nat,
    kind < 64 → source < 64 → kind' < 64 → source' < 64 →
    (arbitration cls kind source < arbitration cls' kind' source' ↔
      cls < cls' ∨ cls = cls' ∧ (kind < kind' ∨ kind = kind' ∧ source < source')))

/-- The transmit queue and the line with their tables of kinds and keys, with the model's choices that notes/assumptions/8.md, 12.md, 13.md
and 22.md name: the flag of the pending RESULT, the taking at the end of the event, rows without a
transmission, and equal headers. -/
def Obligations.TransmitQueueAndLine : Prop :=
  Claims.QueueTakesFrameByRule ∧ Claims.LineSendsHeadOfQueue ∧ Claims.CompletionTakesNextCommand ∧
  Claims.SentKindsAreListed ∧ Claims.KeysAndArbitrationFollowTables

/-- The expiry of a stopped timer, and a load completion outside an image read, change nothing, but for the
sense levels that a lamp boundary's row carries; both are the model's choice (notes/assumptions/13.md,
3.md). -/
def Obligations.StoppedTimersDoNothing : Prop :=
  ∀ s : State, s.line.fifo = [] →
    (s.start.imageTimer = none → exec .imageReadTimeout s = .next s ∧
      ∀ image : List Byte, exec (.loadCompletion image) s = .next s) ∧
    (s.line.resetTimer = none → exec .resetTimerExpiry s = .next s) ∧
    (s.motion.intervalTimer = none → exec .intervalExpiry s = .next s) ∧
    (s.line.statusTimer = none → exec .statusTimerExpiry s = .next s) ∧
    (s.intercom.guardTimer = none → exec .guardExpiry s = .next s) ∧
    (s.intercom.talkTimer = none → exec .talkLimitExpiry s = .next s) ∧
    (∀ k : PressKey, pressRecord s.intercom k = none → exec (.pressLapse k) s = .next s) ∧
    (∀ sense : BitVec 8, s.sign.timebase = none →
      exec (.lampPeriodBoundary sense) s
        = .next { s with pins := { s.pins with sense := sense } })

/-! ### Layouts -/

/-- The bytes of the totals pages, 0 to 12 as in REPORT and 13 to 15 for the lifetime totalizers. -/
def Claims.TotalsPagesAreLaidOut : Prop :=
  ∀ a : Accounts,
    let sh := a.shift
    let x := sh.totals
    let z := a.totalizers
    let clock := fun (c : DayTime) => byte c.day :: bigEndian c.seconds 3
    totalsPage a 0
      = bigEndian sh.number 2 ++ bigEndian sh.driver 3 ++ bigEndian sh.identity 2 ++ [13] ∧
    totalsPage a 1 = clock sh.openClock ++ clock (sh.closeClock.getD ⟨0, 0⟩) ∧
    totalsPage a 2
      = bigEndian x.settled 3 ++ bigEndian x.cancelled 3 ++ bigEndian x.pooled 3
        ++ [byte x.maxRiders] ∧
    totalsPage a 3 = bigEndian x.voids 2 ++ bigEndian x.holds 2 ++ bigEndian a.tripCounter 3 ∧
    totalsPage a 4 = bigEndian x.fare 6 ++ bigEndian x.tips 6 ∧
    totalsPage a 5 = bigEndian x.extras.luggage 6 ++ bigEndian x.extras.toll 6 ∧
    totalsPage a 6 = bigEndian x.extras.booking 6 ++ bigEndian x.extras.other 6 ∧
    totalsPage a 7 = bigEndian x.card 6 ++ bigEndian x.account 6 ∧
    totalsPage a 8 = bigEndian x.cash 6 ++ bigEndian x.waived 6 ∧
    totalsPage a 9 = bigEndian x.band1 6 ++ bigEndian x.band2 6 ∧
    totalsPage a 10 = bigEndian x.band3 6 ++ bigEndian x.band4 6 ∧
    totalsPage a 11
      = bigEndian x.hired.metres 4 ++ bigEndian x.unhired.metres 4 ++ bigEndian x.held.metres 4 ∧
    totalsPage a 12 = bigEndian x.seatSeconds 6 ++ bigEndian x.steps 6 ∧
    totalsPage a 13 = bigEndian z.total.metres 4 ++ bigEndian z.hired.metres 4 ∧
    totalsPage a 14 = bigEndian z.trips 4 ++ bigEndian z.steps 4 ∧
    totalsPage a 15 = bigEndian z.fare 4 ++ bigEndian z.voids 4 ++ bigEndian a.tripCounter 3

/-- The bytes of a trip record's pages: 0 to 4, and one page for each payment entry from 5 on; the marks'
bits 7 to 4 are 0, which is the model's choice (notes/assumptions/36.md). -/
def Claims.TripPagesAreLaidOut : Prop :=
  ∀ t : Trip,
    let clock := fun (c : DayTime) => byte c.day :: bigEndian c.seconds 3
    let mark := fun (b : Bool) (n : Nat) => if b = true then n else 0
    tripPage t 0 = some (bigEndian t.number 3
      ++ [byte (seatNumber t.seat), if t.ending = .settled then 0 else 1]
      ++ bigEndian t.shift 2 ++ bigEndian t.identity 2
      ++ [byte (mark t.pooled 1 + mark t.saturated 2 + mark t.heldDuring 4 + mark t.brk 8),
          byte t.maxRiders]) ∧
    (t.bandsUsed.length ≤ 4 →
      tripPage t 1 = some (clock t.hireClock ++ clock (t.stopClock.getD ⟨0, 0⟩)
        ++ (List.range 4).map (fun i => byte (t.bandsUsed.getD i 0)) ++ [byte t.activeBand])) ∧
    tripPage t 2 = some (bigEndian t.flagFall 2 ++ bigEndian t.steps 3 ++ [byte t.freeUsed]
      ++ bigEndian t.fare 3) ∧
    tripPage t 3 = some (bigEndian t.extras.luggage 3 ++ bigEndian t.extras.toll 3
      ++ bigEndian t.extras.booking 3 ++ bigEndian t.extras.other 3) ∧
    tripPage t 4 = some (bigEndian t.tips 3 ++ bigEndian t.waived 3 ++ bigEndian t.metres 3
      ++ bigEndian t.seconds 3 ++ [byte t.payments.length]) ∧
    (∀ k : Nat, t.payments[k]? = none → tripPage t (5 + k) = none) ∧
    (∀ (k : Nat) (p : Payment), t.payments[k]? = some p →
      tripPage t (5 + k) = some (
        [(match p.method with
          | .card => 0
          | .account => 1
          | .cash => 2 : Byte)]
        ++ bigEndian p.amount 3 ++ bigEndian p.tip 3 ++ bigEndian (p.ref.getD 0) 4))

/-- The bytes of the hold pages, of a payer record, and of the STATUS, by their bits; bits 6 to 3 of the
trigger day are 0, which is the model's choice (notes/assumptions/36.md). -/
def Claims.HoldPayerAndStatusAreLaidOut : Prop :=
  ∀ (s : State) (i : Fin 8) (viaParty : Bool) (p : Payer) (r : StatusReport),
    let page := fun (n k : Nat) => (holdPage s n).getD k 0
    let payer := fun (k : Nat) => (payerBytes i viaParty p).getD k 0
    let status := fun (k : Nat) => (statusBytes r).getD k 0
    let trigger := s.hold.trigger
    let held := fun (b : Byte) (h : Bool) (c : Option Cause) =>
      b.getLsbD 7 = h ∧ b.toNat % 128 = (match c with
        | some c => c.number
        | none => 15)
    held (page 0 0) s.hold.held s.hold.pointer ∧
    (page 0 1).toNat = (match trigger.cause with
      | some c => c.number
      | none => 15) ∧
    page 0 2 = byte trigger.source ∧
    (trigger.time.day ≤ 7 →
      (page 0 3).toNat % 128 = trigger.time.day ∧ (page 0 3).getLsbD 7 = trigger.valid) ∧
    (holdPage s 0).drop 4
      = bigEndian trigger.time.seconds 3 ++ bigEndian trigger.number 3 ++ bigEndian s.hold.count 3 ∧
    (holdPage s 1).length = 10 ∧ (holdPage s 2).length = 12 ∧
    (∀ c : Cause,
      (page 1 c.number).getLsbD 0 = s.hold.status.get c ∧
      (page 1 c.number).getLsbD 1 = s.monitor.masked.get c ∧
      (page 1 c.number).getLsbD 2 = s.monitor.note.get c ∧
      (page 1 c.number).getLsbD 3 = s.monitor.condition.get c ∧
      page 2 c.number = byte (s.monitor.lastSource.get c)) ∧
    page 2 10 = byte s.monitor.lastCode ∧
    (page 2 11).getLsbD 0 = s.pins.tamper ∧ (page 2 11).getLsbD 1 = s.pins.service ∧
    (payer 0).toNat % 8 = i.val ∧
    (payer 0).getLsbD 3 = (match p.kind with
      | .card _ _ => false
      | .account _ => true) ∧
    (payer 0).getLsbD 4 = p.charging.isSome ∧ (payer 0).getLsbD 5 = p.tipsAllowed ∧
    (payer 0).getLsbD 6 = viaParty ∧ (payer 0).getLsbD 7 = false ∧
    (payer 1).toNat % 16 = (match p.scope with
      | .seat q => seatNumber q
      | .party => 5) ∧
    (payer 1).toNat / 16 = (match p.charging with
      | some q => seatNumber q
      | none => 0) ∧
    payer 2 = (match p.kind with
      | .card reader _ => byte reader
      | .account _ => 0) ∧
    (payerBytes i viaParty p).drop 3
      = bigEndian (match p.kind with
          | .card _ ref => ref
          | .account id => id) 4 ++ bigEndian p.limit 3 ++ bigEndian p.spent 3 ∧
    (statusBytes r).length = 14 ∧
    (status 0).toNat = (match r.shift with
      | .closed => 0
      | .opened => 1
      | .closing => 2) ∧
    [status 1, status 2] = bigEndian r.number 2 ∧ held (status 3) r.held r.pointer ∧
    (∀ c : Cause, (fromBigEndian [status 4, status 5]).testBit c.number = r.status.get c) ∧
    (∀ q : Seat, (status 6).toNat / 4 ^ (seatNumber q - 1) % 4 = (match r.seats.get q with
      | .vacant => 0
      | .hired => 1
      | .due => 2
      | .paying => 3)) ∧
    (r.free ≤ 4 →
      (status 7).toNat % 4 = (match r.mode with
        | .onDuty => 0
        | .brk => 1
        | .offDuty => 2) ∧
      (status 7).getLsbD 2 = r.pool ∧ (status 7).toNat / 16 = r.free) ∧
    (∀ c : Channel, (status 8).getLsbD c.number = r.faults.get c) ∧
    (r.selected ≤ 4 →
      (status 9).toNat % 128 = r.selected ∧
      (status 9).getLsbD 7 = (match r.bandMode with
        | .auto => false
        | .manual => true)) ∧
    [status 10, status 11] = bigEndian r.speed 2 ∧
    (∀ k : Nat, k < 16 →
      (fromBigEndian [status 12, status 13]).testBit k = r.presence.getD k false)

/-- The payloads of the other frames the CF-14 sends; bits 7 to 4 of the muted seats are 0, which is the
model's choice (notes/assumptions/36.md). -/
def Claims.SentPayloadsAreLaidOut : Prop :=
  ∀ (q : Seat) (d : Display) (r : IntercomReport) (tag amount tip source index shift page : Nat)
    (seq command : Byte) (code : ResultCode) (data : List Byte) (released : Bool)
    (trigger pointer : Option Cause),
    let three := fun (n : Nat) => bigEndian n 3
    let cause := fun (c : Option Cause) => match c with
      | some c => byte c.number
      | none => 15
    (TxBody.holdEvent released trigger pointer source).payload
      = [if released = true then 1 else 0, cause trigger, cause pointer, byte source] ∧
    (TxBody.chargeRequest tag q amount tip).payload
      = [byte tag, byte (seatNumber q)] ++ three amount ++ three tip ∧
    (TxBody.chargeCancel tag).payload = [byte tag] ∧ (TxBody.void tag).payload = [byte tag] ∧
    (TxBody.adjust tag amount tip).payload = [byte tag] ++ three amount ++ three tip ∧
    (TxBody.result seq code command data).payload
      = [seq, byte (resultValue code), command] ++ data ∧
    (TxBody.cardReply code index).payload = [byte (resultValue code), byte index] ∧
    (TxBody.report shift page data).payload = bigEndian shift 2 ++ [byte page] ++ data ∧
    (TxBody.seatDisplay q d).payload
      = [byte (seatNumber q), byte (seatStateValue d.state)] ++ three d.fare ++ three d.extras
        ++ three d.due ++ [byte d.activeBand, if d.pooled = true then 1 else 0] ∧
    (r.queue.length ≤ 4 →
      (TxBody.intercomState r).payload
        = [byte (talkValue r.state),
            (match r.state with
              | .idle | .guard => 0
              | .driverTalk => 5
              | .seatTalk q => byte (seatNumber q)),
            byte r.queue.length]
          ++ (List.range 4).map (fun k => (r.queue[k]?.map (fun q => byte (seatNumber q))).getD 0)
          ++ [byte (bitsOf (allSeats.map r.mute.get))])

/-- The codes that the layouts carry: causes, channels and seats by their numbers, the result codes, and the
intercom and seat states. -/
def Claims.CodesAreListed : Prop :=
  [Cause.config, .clock, .overrun, .pulseLoss, .tamper, .lamp, .source, .brk, .console, .peer].map
    Cause.number = List.range 10 ∧
  [Channel.avail, .hired, .offduty, .out, .bar1, .bar2, .bar3, .bar4].map Channel.number
    = List.range 8 ∧
  [Seat.one, .two, .three, .four].map seatNumber = [1, 2, 3, 4] ∧
  [ResultCode.ok, .busy, .state, .range, .existing, .full, .nothing, .hold, .shift, .charged,
    .exclusive, .clock, .gone, .limit, .cause, .cond].map resultValue = List.range 16 ∧
  [SeatState.vacant, .hired, .due, .paying].map seatStateValue = [0, 1, 2, 3] ∧
  talkValue .idle = 0 ∧ talkValue .driverTalk = 1 ∧ (∀ q : Seat, talkValue (.seatTalk q) = 2) ∧
  talkValue .guard = 3

/-- The items of the state that a STATUS and a SEAT_DISPLAY take when they are queued. -/
def Claims.ReportsTakeTheirItems : Prop :=
  ∀ (s : State) (q : Seat),
    let r := statusReport s
    let x := s.seat q
    r.shift = s.accounts.shift.state ∧ r.number = s.accounts.shift.number ∧
    r.held = s.hold.held ∧ r.pointer = s.hold.pointer ∧
    (∀ c : Cause, r.status.get c = s.hold.status.get c) ∧ r.seats.get q = x.state ∧
    r.mode = s.sign.mode ∧ r.pool = s.sign.pool ∧ r.free = freeSeats s.sign.pool s.seats ∧
    (∀ c : Channel, r.faults.get c = (s.sign.lamps.get c).fault) ∧
    r.selected = s.band.selected ∧ r.bandMode = s.band.mode ∧ r.speed = s.motion.speed ∧
    r.presence = s.line.roster.map (fun e => e.timer.isSome) ∧
    displayOf x =
      let extras := x.extras.luggage + x.extras.toll + x.extras.booking + x.extras.other
      { state := x.state, fare := x.fare, extras := extras,
        due := x.fare + extras - x.paid - x.waived, activeBand := x.activeBand, pooled := x.pooled }

/-- The layouts of R190: what the pages that commands answer and the frames that the CF-14 sends hold,
byte by byte, with every number high byte first, the codes they use, and the items a STATUS and a
SEAT_DISPLAY take. Bits to which no layout gives a meaning or 0 are sent as 0, which is the model's choice
(notes/assumptions/36.md). -/
def Obligations.PagesAndFramesAreLaidOut : Prop :=
  (∀ n k : Nat, (bigEndian n k).length = k ∧ fromBigEndian (bigEndian n k) = n % 256 ^ k) ∧
  Claims.TotalsPagesAreLaidOut ∧ Claims.TripPagesAreLaidOut ∧ Claims.HoldPayerAndStatusAreLaidOut ∧
  Claims.SentPayloadsAreLaidOut ∧ Claims.CodesAreListed ∧ Claims.ReportsTakeTheirItems
end

