-- ==== Sys2Proof/Laws/State.lean ====
section
/-! SUPPORT. One lemma per field of State and per update, true by rfl, and the laws of reading after
writing the item of a seat, cause or payer index. -/

namespace Sys2Proof.Machine

@[simp] theorem State.setPins_pins (s : State) (v : Pins) : (s.setPins v).pins = v := rfl
@[simp] theorem State.setPins_start (s : State) (v : Pins) : (s.setPins v).start = s.start := rfl
@[simp] theorem State.setPins_markerValid (s : State) (v : Pins) : (s.setPins v).markerValid = s.markerValid := rfl
@[simp] theorem State.setPins_clock (s : State) (v : Pins) : (s.setPins v).clock = s.clock := rfl
@[simp] theorem State.setPins_tamperFilter (s : State) (v : Pins) : (s.setPins v).tamperFilter = s.tamperFilter := rfl
@[simp] theorem State.setPins_seats (s : State) (v : Pins) : (s.setPins v).seats = s.seats := rfl
@[simp] theorem State.setPins_tags (s : State) (v : Pins) : (s.setPins v).tags = s.tags := rfl
@[simp] theorem State.setPins_hold (s : State) (v : Pins) : (s.setPins v).hold = s.hold := rfl
@[simp] theorem State.setPins_accounts (s : State) (v : Pins) : (s.setPins v).accounts = s.accounts := rfl
@[simp] theorem State.setPins_tariff (s : State) (v : Pins) : (s.setPins v).tariff = s.tariff := rfl
@[simp] theorem State.setPins_band (s : State) (v : Pins) : (s.setPins v).band = s.band := rfl
@[simp] theorem State.setPins_motion (s : State) (v : Pins) : (s.setPins v).motion = s.motion := rfl
@[simp] theorem State.setPins_payers (s : State) (v : Pins) : (s.setPins v).payers = s.payers := rfl
@[simp] theorem State.setPins_charges (s : State) (v : Pins) : (s.setPins v).charges = s.charges := rfl
@[simp] theorem State.setPins_intercom (s : State) (v : Pins) : (s.setPins v).intercom = s.intercom := rfl
@[simp] theorem State.setPins_sign (s : State) (v : Pins) : (s.setPins v).sign = s.sign := rfl
@[simp] theorem State.setPins_monitor (s : State) (v : Pins) : (s.setPins v).monitor = s.monitor := rfl
@[simp] theorem State.setPins_display (s : State) (v : Pins) : (s.setPins v).display = s.display := rfl
@[simp] theorem State.setPins_line (s : State) (v : Pins) : (s.setPins v).line = s.line := rfl
@[simp] theorem State.setPins_draws (s : State) (v : Pins) : (s.setPins v).draws = s.draws := rfl
@[simp] theorem State.setPins_pending (s : State) (v : Pins) : (s.setPins v).pending = s.pending := rfl
@[simp] theorem State.setStart_pins (s : State) (v : StartState) : (s.setStart v).pins = s.pins := rfl
@[simp] theorem State.setStart_start (s : State) (v : StartState) : (s.setStart v).start = v := rfl
@[simp] theorem State.setStart_markerValid (s : State) (v : StartState) : (s.setStart v).markerValid = s.markerValid := rfl
@[simp] theorem State.setStart_clock (s : State) (v : StartState) : (s.setStart v).clock = s.clock := rfl
@[simp] theorem State.setStart_tamperFilter (s : State) (v : StartState) : (s.setStart v).tamperFilter = s.tamperFilter := rfl
@[simp] theorem State.setStart_seats (s : State) (v : StartState) : (s.setStart v).seats = s.seats := rfl
@[simp] theorem State.setStart_tags (s : State) (v : StartState) : (s.setStart v).tags = s.tags := rfl
@[simp] theorem State.setStart_hold (s : State) (v : StartState) : (s.setStart v).hold = s.hold := rfl
@[simp] theorem State.setStart_accounts (s : State) (v : StartState) : (s.setStart v).accounts = s.accounts := rfl
@[simp] theorem State.setStart_tariff (s : State) (v : StartState) : (s.setStart v).tariff = s.tariff := rfl
@[simp] theorem State.setStart_band (s : State) (v : StartState) : (s.setStart v).band = s.band := rfl
@[simp] theorem State.setStart_motion (s : State) (v : StartState) : (s.setStart v).motion = s.motion := rfl
@[simp] theorem State.setStart_payers (s : State) (v : StartState) : (s.setStart v).payers = s.payers := rfl
@[simp] theorem State.setStart_charges (s : State) (v : StartState) : (s.setStart v).charges = s.charges := rfl
@[simp] theorem State.setStart_intercom (s : State) (v : StartState) : (s.setStart v).intercom = s.intercom := rfl
@[simp] theorem State.setStart_sign (s : State) (v : StartState) : (s.setStart v).sign = s.sign := rfl
@[simp] theorem State.setStart_monitor (s : State) (v : StartState) : (s.setStart v).monitor = s.monitor := rfl
@[simp] theorem State.setStart_display (s : State) (v : StartState) : (s.setStart v).display = s.display := rfl
@[simp] theorem State.setStart_line (s : State) (v : StartState) : (s.setStart v).line = s.line := rfl
@[simp] theorem State.setStart_draws (s : State) (v : StartState) : (s.setStart v).draws = s.draws := rfl
@[simp] theorem State.setStart_pending (s : State) (v : StartState) : (s.setStart v).pending = s.pending := rfl
@[simp] theorem State.setMarkerValid_pins (s : State) (v : Bool) : (s.setMarkerValid v).pins = s.pins := rfl
@[simp] theorem State.setMarkerValid_start (s : State) (v : Bool) : (s.setMarkerValid v).start = s.start := rfl
@[simp] theorem State.setMarkerValid_markerValid (s : State) (v : Bool) : (s.setMarkerValid v).markerValid = v := rfl
@[simp] theorem State.setMarkerValid_clock (s : State) (v : Bool) : (s.setMarkerValid v).clock = s.clock := rfl
@[simp] theorem State.setMarkerValid_tamperFilter (s : State) (v : Bool) : (s.setMarkerValid v).tamperFilter = s.tamperFilter := rfl
@[simp] theorem State.setMarkerValid_seats (s : State) (v : Bool) : (s.setMarkerValid v).seats = s.seats := rfl
@[simp] theorem State.setMarkerValid_tags (s : State) (v : Bool) : (s.setMarkerValid v).tags = s.tags := rfl
@[simp] theorem State.setMarkerValid_hold (s : State) (v : Bool) : (s.setMarkerValid v).hold = s.hold := rfl
@[simp] theorem State.setMarkerValid_accounts (s : State) (v : Bool) : (s.setMarkerValid v).accounts = s.accounts := rfl
@[simp] theorem State.setMarkerValid_tariff (s : State) (v : Bool) : (s.setMarkerValid v).tariff = s.tariff := rfl
@[simp] theorem State.setMarkerValid_band (s : State) (v : Bool) : (s.setMarkerValid v).band = s.band := rfl
@[simp] theorem State.setMarkerValid_motion (s : State) (v : Bool) : (s.setMarkerValid v).motion = s.motion := rfl
@[simp] theorem State.setMarkerValid_payers (s : State) (v : Bool) : (s.setMarkerValid v).payers = s.payers := rfl
@[simp] theorem State.setMarkerValid_charges (s : State) (v : Bool) : (s.setMarkerValid v).charges = s.charges := rfl
@[simp] theorem State.setMarkerValid_intercom (s : State) (v : Bool) : (s.setMarkerValid v).intercom = s.intercom := rfl
@[simp] theorem State.setMarkerValid_sign (s : State) (v : Bool) : (s.setMarkerValid v).sign = s.sign := rfl
@[simp] theorem State.setMarkerValid_monitor (s : State) (v : Bool) : (s.setMarkerValid v).monitor = s.monitor := rfl
@[simp] theorem State.setMarkerValid_display (s : State) (v : Bool) : (s.setMarkerValid v).display = s.display := rfl
@[simp] theorem State.setMarkerValid_line (s : State) (v : Bool) : (s.setMarkerValid v).line = s.line := rfl
@[simp] theorem State.setMarkerValid_draws (s : State) (v : Bool) : (s.setMarkerValid v).draws = s.draws := rfl
@[simp] theorem State.setMarkerValid_pending (s : State) (v : Bool) : (s.setMarkerValid v).pending = s.pending := rfl
@[simp] theorem State.setClock_pins (s : State) (v : Clock) : (s.setClock v).pins = s.pins := rfl
@[simp] theorem State.setClock_start (s : State) (v : Clock) : (s.setClock v).start = s.start := rfl
@[simp] theorem State.setClock_markerValid (s : State) (v : Clock) : (s.setClock v).markerValid = s.markerValid := rfl
@[simp] theorem State.setClock_clock (s : State) (v : Clock) : (s.setClock v).clock = v := rfl
@[simp] theorem State.setClock_tamperFilter (s : State) (v : Clock) : (s.setClock v).tamperFilter = s.tamperFilter := rfl
@[simp] theorem State.setClock_seats (s : State) (v : Clock) : (s.setClock v).seats = s.seats := rfl
@[simp] theorem State.setClock_tags (s : State) (v : Clock) : (s.setClock v).tags = s.tags := rfl
@[simp] theorem State.setClock_hold (s : State) (v : Clock) : (s.setClock v).hold = s.hold := rfl
@[simp] theorem State.setClock_accounts (s : State) (v : Clock) : (s.setClock v).accounts = s.accounts := rfl
@[simp] theorem State.setClock_tariff (s : State) (v : Clock) : (s.setClock v).tariff = s.tariff := rfl
@[simp] theorem State.setClock_band (s : State) (v : Clock) : (s.setClock v).band = s.band := rfl
@[simp] theorem State.setClock_motion (s : State) (v : Clock) : (s.setClock v).motion = s.motion := rfl
@[simp] theorem State.setClock_payers (s : State) (v : Clock) : (s.setClock v).payers = s.payers := rfl
@[simp] theorem State.setClock_charges (s : State) (v : Clock) : (s.setClock v).charges = s.charges := rfl
@[simp] theorem State.setClock_intercom (s : State) (v : Clock) : (s.setClock v).intercom = s.intercom := rfl
@[simp] theorem State.setClock_sign (s : State) (v : Clock) : (s.setClock v).sign = s.sign := rfl
@[simp] theorem State.setClock_monitor (s : State) (v : Clock) : (s.setClock v).monitor = s.monitor := rfl
@[simp] theorem State.setClock_display (s : State) (v : Clock) : (s.setClock v).display = s.display := rfl
@[simp] theorem State.setClock_line (s : State) (v : Clock) : (s.setClock v).line = s.line := rfl
@[simp] theorem State.setClock_draws (s : State) (v : Clock) : (s.setClock v).draws = s.draws := rfl
@[simp] theorem State.setClock_pending (s : State) (v : Clock) : (s.setClock v).pending = s.pending := rfl
@[simp] theorem State.setTamperFilter_pins (s : State) (v : TamperFilter) : (s.setTamperFilter v).pins = s.pins := rfl
@[simp] theorem State.setTamperFilter_start (s : State) (v : TamperFilter) : (s.setTamperFilter v).start = s.start := rfl
@[simp] theorem State.setTamperFilter_markerValid (s : State) (v : TamperFilter) : (s.setTamperFilter v).markerValid = s.markerValid := rfl
@[simp] theorem State.setTamperFilter_clock (s : State) (v : TamperFilter) : (s.setTamperFilter v).clock = s.clock := rfl
@[simp] theorem State.setTamperFilter_tamperFilter (s : State) (v : TamperFilter) : (s.setTamperFilter v).tamperFilter = v := rfl
@[simp] theorem State.setTamperFilter_seats (s : State) (v : TamperFilter) : (s.setTamperFilter v).seats = s.seats := rfl
@[simp] theorem State.setTamperFilter_tags (s : State) (v : TamperFilter) : (s.setTamperFilter v).tags = s.tags := rfl
@[simp] theorem State.setTamperFilter_hold (s : State) (v : TamperFilter) : (s.setTamperFilter v).hold = s.hold := rfl
@[simp] theorem State.setTamperFilter_accounts (s : State) (v : TamperFilter) : (s.setTamperFilter v).accounts = s.accounts := rfl
@[simp] theorem State.setTamperFilter_tariff (s : State) (v : TamperFilter) : (s.setTamperFilter v).tariff = s.tariff := rfl
@[simp] theorem State.setTamperFilter_band (s : State) (v : TamperFilter) : (s.setTamperFilter v).band = s.band := rfl
@[simp] theorem State.setTamperFilter_motion (s : State) (v : TamperFilter) : (s.setTamperFilter v).motion = s.motion := rfl
@[simp] theorem State.setTamperFilter_payers (s : State) (v : TamperFilter) : (s.setTamperFilter v).payers = s.payers := rfl
@[simp] theorem State.setTamperFilter_charges (s : State) (v : TamperFilter) : (s.setTamperFilter v).charges = s.charges := rfl
@[simp] theorem State.setTamperFilter_intercom (s : State) (v : TamperFilter) : (s.setTamperFilter v).intercom = s.intercom := rfl
@[simp] theorem State.setTamperFilter_sign (s : State) (v : TamperFilter) : (s.setTamperFilter v).sign = s.sign := rfl
@[simp] theorem State.setTamperFilter_monitor (s : State) (v : TamperFilter) : (s.setTamperFilter v).monitor = s.monitor := rfl
@[simp] theorem State.setTamperFilter_display (s : State) (v : TamperFilter) : (s.setTamperFilter v).display = s.display := rfl
@[simp] theorem State.setTamperFilter_line (s : State) (v : TamperFilter) : (s.setTamperFilter v).line = s.line := rfl
@[simp] theorem State.setTamperFilter_draws (s : State) (v : TamperFilter) : (s.setTamperFilter v).draws = s.draws := rfl
@[simp] theorem State.setTamperFilter_pending (s : State) (v : TamperFilter) : (s.setTamperFilter v).pending = s.pending := rfl
@[simp] theorem State.setSeats_pins (s : State) (v : PerSeat SeatRecord) : (s.setSeats v).pins = s.pins := rfl
@[simp] theorem State.setSeats_start (s : State) (v : PerSeat SeatRecord) : (s.setSeats v).start = s.start := rfl
@[simp] theorem State.setSeats_markerValid (s : State) (v : PerSeat SeatRecord) : (s.setSeats v).markerValid = s.markerValid := rfl
@[simp] theorem State.setSeats_clock (s : State) (v : PerSeat SeatRecord) : (s.setSeats v).clock = s.clock := rfl
@[simp] theorem State.setSeats_tamperFilter (s : State) (v : PerSeat SeatRecord) : (s.setSeats v).tamperFilter = s.tamperFilter := rfl
@[simp] theorem State.setSeats_seats (s : State) (v : PerSeat SeatRecord) : (s.setSeats v).seats = v := rfl
@[simp] theorem State.setSeats_tags (s : State) (v : PerSeat SeatRecord) : (s.setSeats v).tags = s.tags := rfl
@[simp] theorem State.setSeats_hold (s : State) (v : PerSeat SeatRecord) : (s.setSeats v).hold = s.hold := rfl
@[simp] theorem State.setSeats_accounts (s : State) (v : PerSeat SeatRecord) : (s.setSeats v).accounts = s.accounts := rfl
@[simp] theorem State.setSeats_tariff (s : State) (v : PerSeat SeatRecord) : (s.setSeats v).tariff = s.tariff := rfl
@[simp] theorem State.setSeats_band (s : State) (v : PerSeat SeatRecord) : (s.setSeats v).band = s.band := rfl
@[simp] theorem State.setSeats_motion (s : State) (v : PerSeat SeatRecord) : (s.setSeats v).motion = s.motion := rfl
@[simp] theorem State.setSeats_payers (s : State) (v : PerSeat SeatRecord) : (s.setSeats v).payers = s.payers := rfl
@[simp] theorem State.setSeats_charges (s : State) (v : PerSeat SeatRecord) : (s.setSeats v).charges = s.charges := rfl
@[simp] theorem State.setSeats_intercom (s : State) (v : PerSeat SeatRecord) : (s.setSeats v).intercom = s.intercom := rfl
@[simp] theorem State.setSeats_sign (s : State) (v : PerSeat SeatRecord) : (s.setSeats v).sign = s.sign := rfl
@[simp] theorem State.setSeats_monitor (s : State) (v : PerSeat SeatRecord) : (s.setSeats v).monitor = s.monitor := rfl
@[simp] theorem State.setSeats_display (s : State) (v : PerSeat SeatRecord) : (s.setSeats v).display = s.display := rfl
@[simp] theorem State.setSeats_line (s : State) (v : PerSeat SeatRecord) : (s.setSeats v).line = s.line := rfl
@[simp] theorem State.setSeats_draws (s : State) (v : PerSeat SeatRecord) : (s.setSeats v).draws = s.draws := rfl
@[simp] theorem State.setSeats_pending (s : State) (v : PerSeat SeatRecord) : (s.setSeats v).pending = s.pending := rfl
@[simp] theorem State.setTags_pins (s : State) (v : Tags) : (s.setTags v).pins = s.pins := rfl
@[simp] theorem State.setTags_start (s : State) (v : Tags) : (s.setTags v).start = s.start := rfl
@[simp] theorem State.setTags_markerValid (s : State) (v : Tags) : (s.setTags v).markerValid = s.markerValid := rfl
@[simp] theorem State.setTags_clock (s : State) (v : Tags) : (s.setTags v).clock = s.clock := rfl
@[simp] theorem State.setTags_tamperFilter (s : State) (v : Tags) : (s.setTags v).tamperFilter = s.tamperFilter := rfl
@[simp] theorem State.setTags_seats (s : State) (v : Tags) : (s.setTags v).seats = s.seats := rfl
@[simp] theorem State.setTags_tags (s : State) (v : Tags) : (s.setTags v).tags = v := rfl
@[simp] theorem State.setTags_hold (s : State) (v : Tags) : (s.setTags v).hold = s.hold := rfl
@[simp] theorem State.setTags_accounts (s : State) (v : Tags) : (s.setTags v).accounts = s.accounts := rfl
@[simp] theorem State.setTags_tariff (s : State) (v : Tags) : (s.setTags v).tariff = s.tariff := rfl
@[simp] theorem State.setTags_band (s : State) (v : Tags) : (s.setTags v).band = s.band := rfl
@[simp] theorem State.setTags_motion (s : State) (v : Tags) : (s.setTags v).motion = s.motion := rfl
@[simp] theorem State.setTags_payers (s : State) (v : Tags) : (s.setTags v).payers = s.payers := rfl
@[simp] theorem State.setTags_charges (s : State) (v : Tags) : (s.setTags v).charges = s.charges := rfl
@[simp] theorem State.setTags_intercom (s : State) (v : Tags) : (s.setTags v).intercom = s.intercom := rfl
@[simp] theorem State.setTags_sign (s : State) (v : Tags) : (s.setTags v).sign = s.sign := rfl
@[simp] theorem State.setTags_monitor (s : State) (v : Tags) : (s.setTags v).monitor = s.monitor := rfl
@[simp] theorem State.setTags_display (s : State) (v : Tags) : (s.setTags v).display = s.display := rfl
@[simp] theorem State.setTags_line (s : State) (v : Tags) : (s.setTags v).line = s.line := rfl
@[simp] theorem State.setTags_draws (s : State) (v : Tags) : (s.setTags v).draws = s.draws := rfl
@[simp] theorem State.setTags_pending (s : State) (v : Tags) : (s.setTags v).pending = s.pending := rfl
@[simp] theorem State.setHold_pins (s : State) (v : Hold) : (s.setHold v).pins = s.pins := rfl
@[simp] theorem State.setHold_start (s : State) (v : Hold) : (s.setHold v).start = s.start := rfl
@[simp] theorem State.setHold_markerValid (s : State) (v : Hold) : (s.setHold v).markerValid = s.markerValid := rfl
@[simp] theorem State.setHold_clock (s : State) (v : Hold) : (s.setHold v).clock = s.clock := rfl
@[simp] theorem State.setHold_tamperFilter (s : State) (v : Hold) : (s.setHold v).tamperFilter = s.tamperFilter := rfl
@[simp] theorem State.setHold_seats (s : State) (v : Hold) : (s.setHold v).seats = s.seats := rfl
@[simp] theorem State.setHold_tags (s : State) (v : Hold) : (s.setHold v).tags = s.tags := rfl
@[simp] theorem State.setHold_hold (s : State) (v : Hold) : (s.setHold v).hold = v := rfl
@[simp] theorem State.setHold_accounts (s : State) (v : Hold) : (s.setHold v).accounts = s.accounts := rfl
@[simp] theorem State.setHold_tariff (s : State) (v : Hold) : (s.setHold v).tariff = s.tariff := rfl
@[simp] theorem State.setHold_band (s : State) (v : Hold) : (s.setHold v).band = s.band := rfl
@[simp] theorem State.setHold_motion (s : State) (v : Hold) : (s.setHold v).motion = s.motion := rfl
@[simp] theorem State.setHold_payers (s : State) (v : Hold) : (s.setHold v).payers = s.payers := rfl
@[simp] theorem State.setHold_charges (s : State) (v : Hold) : (s.setHold v).charges = s.charges := rfl
@[simp] theorem State.setHold_intercom (s : State) (v : Hold) : (s.setHold v).intercom = s.intercom := rfl
@[simp] theorem State.setHold_sign (s : State) (v : Hold) : (s.setHold v).sign = s.sign := rfl
@[simp] theorem State.setHold_monitor (s : State) (v : Hold) : (s.setHold v).monitor = s.monitor := rfl
@[simp] theorem State.setHold_display (s : State) (v : Hold) : (s.setHold v).display = s.display := rfl
@[simp] theorem State.setHold_line (s : State) (v : Hold) : (s.setHold v).line = s.line := rfl
@[simp] theorem State.setHold_draws (s : State) (v : Hold) : (s.setHold v).draws = s.draws := rfl
@[simp] theorem State.setHold_pending (s : State) (v : Hold) : (s.setHold v).pending = s.pending := rfl
@[simp] theorem State.setAccounts_pins (s : State) (v : Accounts) : (s.setAccounts v).pins = s.pins := rfl
@[simp] theorem State.setAccounts_start (s : State) (v : Accounts) : (s.setAccounts v).start = s.start := rfl
@[simp] theorem State.setAccounts_markerValid (s : State) (v : Accounts) : (s.setAccounts v).markerValid = s.markerValid := rfl
@[simp] theorem State.setAccounts_clock (s : State) (v : Accounts) : (s.setAccounts v).clock = s.clock := rfl
@[simp] theorem State.setAccounts_tamperFilter (s : State) (v : Accounts) : (s.setAccounts v).tamperFilter = s.tamperFilter := rfl
@[simp] theorem State.setAccounts_seats (s : State) (v : Accounts) : (s.setAccounts v).seats = s.seats := rfl
@[simp] theorem State.setAccounts_tags (s : State) (v : Accounts) : (s.setAccounts v).tags = s.tags := rfl
@[simp] theorem State.setAccounts_hold (s : State) (v : Accounts) : (s.setAccounts v).hold = s.hold := rfl
@[simp] theorem State.setAccounts_accounts (s : State) (v : Accounts) : (s.setAccounts v).accounts = v := rfl
@[simp] theorem State.setAccounts_tariff (s : State) (v : Accounts) : (s.setAccounts v).tariff = s.tariff := rfl
@[simp] theorem State.setAccounts_band (s : State) (v : Accounts) : (s.setAccounts v).band = s.band := rfl
@[simp] theorem State.setAccounts_motion (s : State) (v : Accounts) : (s.setAccounts v).motion = s.motion := rfl
@[simp] theorem State.setAccounts_payers (s : State) (v : Accounts) : (s.setAccounts v).payers = s.payers := rfl
@[simp] theorem State.setAccounts_charges (s : State) (v : Accounts) : (s.setAccounts v).charges = s.charges := rfl
@[simp] theorem State.setAccounts_intercom (s : State) (v : Accounts) : (s.setAccounts v).intercom = s.intercom := rfl
@[simp] theorem State.setAccounts_sign (s : State) (v : Accounts) : (s.setAccounts v).sign = s.sign := rfl
@[simp] theorem State.setAccounts_monitor (s : State) (v : Accounts) : (s.setAccounts v).monitor = s.monitor := rfl
@[simp] theorem State.setAccounts_display (s : State) (v : Accounts) : (s.setAccounts v).display = s.display := rfl
@[simp] theorem State.setAccounts_line (s : State) (v : Accounts) : (s.setAccounts v).line = s.line := rfl
@[simp] theorem State.setAccounts_draws (s : State) (v : Accounts) : (s.setAccounts v).draws = s.draws := rfl
@[simp] theorem State.setAccounts_pending (s : State) (v : Accounts) : (s.setAccounts v).pending = s.pending := rfl
@[simp] theorem State.setTariff_pins (s : State) (v : Tariff) : (s.setTariff v).pins = s.pins := rfl
@[simp] theorem State.setTariff_start (s : State) (v : Tariff) : (s.setTariff v).start = s.start := rfl
@[simp] theorem State.setTariff_markerValid (s : State) (v : Tariff) : (s.setTariff v).markerValid = s.markerValid := rfl
@[simp] theorem State.setTariff_clock (s : State) (v : Tariff) : (s.setTariff v).clock = s.clock := rfl
@[simp] theorem State.setTariff_tamperFilter (s : State) (v : Tariff) : (s.setTariff v).tamperFilter = s.tamperFilter := rfl
@[simp] theorem State.setTariff_seats (s : State) (v : Tariff) : (s.setTariff v).seats = s.seats := rfl
@[simp] theorem State.setTariff_tags (s : State) (v : Tariff) : (s.setTariff v).tags = s.tags := rfl
@[simp] theorem State.setTariff_hold (s : State) (v : Tariff) : (s.setTariff v).hold = s.hold := rfl
@[simp] theorem State.setTariff_accounts (s : State) (v : Tariff) : (s.setTariff v).accounts = s.accounts := rfl
@[simp] theorem State.setTariff_tariff (s : State) (v : Tariff) : (s.setTariff v).tariff = v := rfl
@[simp] theorem State.setTariff_band (s : State) (v : Tariff) : (s.setTariff v).band = s.band := rfl
@[simp] theorem State.setTariff_motion (s : State) (v : Tariff) : (s.setTariff v).motion = s.motion := rfl
@[simp] theorem State.setTariff_payers (s : State) (v : Tariff) : (s.setTariff v).payers = s.payers := rfl
@[simp] theorem State.setTariff_charges (s : State) (v : Tariff) : (s.setTariff v).charges = s.charges := rfl
@[simp] theorem State.setTariff_intercom (s : State) (v : Tariff) : (s.setTariff v).intercom = s.intercom := rfl
@[simp] theorem State.setTariff_sign (s : State) (v : Tariff) : (s.setTariff v).sign = s.sign := rfl
@[simp] theorem State.setTariff_monitor (s : State) (v : Tariff) : (s.setTariff v).monitor = s.monitor := rfl
@[simp] theorem State.setTariff_display (s : State) (v : Tariff) : (s.setTariff v).display = s.display := rfl
@[simp] theorem State.setTariff_line (s : State) (v : Tariff) : (s.setTariff v).line = s.line := rfl
@[simp] theorem State.setTariff_draws (s : State) (v : Tariff) : (s.setTariff v).draws = s.draws := rfl
@[simp] theorem State.setTariff_pending (s : State) (v : Tariff) : (s.setTariff v).pending = s.pending := rfl
@[simp] theorem State.setBand_pins (s : State) (v : BandSelector) : (s.setBand v).pins = s.pins := rfl
@[simp] theorem State.setBand_start (s : State) (v : BandSelector) : (s.setBand v).start = s.start := rfl
@[simp] theorem State.setBand_markerValid (s : State) (v : BandSelector) : (s.setBand v).markerValid = s.markerValid := rfl
@[simp] theorem State.setBand_clock (s : State) (v : BandSelector) : (s.setBand v).clock = s.clock := rfl
@[simp] theorem State.setBand_tamperFilter (s : State) (v : BandSelector) : (s.setBand v).tamperFilter = s.tamperFilter := rfl
@[simp] theorem State.setBand_seats (s : State) (v : BandSelector) : (s.setBand v).seats = s.seats := rfl
@[simp] theorem State.setBand_tags (s : State) (v : BandSelector) : (s.setBand v).tags = s.tags := rfl
@[simp] theorem State.setBand_hold (s : State) (v : BandSelector) : (s.setBand v).hold = s.hold := rfl
@[simp] theorem State.setBand_accounts (s : State) (v : BandSelector) : (s.setBand v).accounts = s.accounts := rfl
@[simp] theorem State.setBand_tariff (s : State) (v : BandSelector) : (s.setBand v).tariff = s.tariff := rfl
@[simp] theorem State.setBand_band (s : State) (v : BandSelector) : (s.setBand v).band = v := rfl
@[simp] theorem State.setBand_motion (s : State) (v : BandSelector) : (s.setBand v).motion = s.motion := rfl
@[simp] theorem State.setBand_payers (s : State) (v : BandSelector) : (s.setBand v).payers = s.payers := rfl
@[simp] theorem State.setBand_charges (s : State) (v : BandSelector) : (s.setBand v).charges = s.charges := rfl
@[simp] theorem State.setBand_intercom (s : State) (v : BandSelector) : (s.setBand v).intercom = s.intercom := rfl
@[simp] theorem State.setBand_sign (s : State) (v : BandSelector) : (s.setBand v).sign = s.sign := rfl
@[simp] theorem State.setBand_monitor (s : State) (v : BandSelector) : (s.setBand v).monitor = s.monitor := rfl
@[simp] theorem State.setBand_display (s : State) (v : BandSelector) : (s.setBand v).display = s.display := rfl
@[simp] theorem State.setBand_line (s : State) (v : BandSelector) : (s.setBand v).line = s.line := rfl
@[simp] theorem State.setBand_draws (s : State) (v : BandSelector) : (s.setBand v).draws = s.draws := rfl
@[simp] theorem State.setBand_pending (s : State) (v : BandSelector) : (s.setBand v).pending = s.pending := rfl
@[simp] theorem State.setMotion_pins (s : State) (v : Motion) : (s.setMotion v).pins = s.pins := rfl
@[simp] theorem State.setMotion_start (s : State) (v : Motion) : (s.setMotion v).start = s.start := rfl
@[simp] theorem State.setMotion_markerValid (s : State) (v : Motion) : (s.setMotion v).markerValid = s.markerValid := rfl
@[simp] theorem State.setMotion_clock (s : State) (v : Motion) : (s.setMotion v).clock = s.clock := rfl
@[simp] theorem State.setMotion_tamperFilter (s : State) (v : Motion) : (s.setMotion v).tamperFilter = s.tamperFilter := rfl
@[simp] theorem State.setMotion_seats (s : State) (v : Motion) : (s.setMotion v).seats = s.seats := rfl
@[simp] theorem State.setMotion_tags (s : State) (v : Motion) : (s.setMotion v).tags = s.tags := rfl
@[simp] theorem State.setMotion_hold (s : State) (v : Motion) : (s.setMotion v).hold = s.hold := rfl
@[simp] theorem State.setMotion_accounts (s : State) (v : Motion) : (s.setMotion v).accounts = s.accounts := rfl
@[simp] theorem State.setMotion_tariff (s : State) (v : Motion) : (s.setMotion v).tariff = s.tariff := rfl
@[simp] theorem State.setMotion_band (s : State) (v : Motion) : (s.setMotion v).band = s.band := rfl
@[simp] theorem State.setMotion_motion (s : State) (v : Motion) : (s.setMotion v).motion = v := rfl
@[simp] theorem State.setMotion_payers (s : State) (v : Motion) : (s.setMotion v).payers = s.payers := rfl
@[simp] theorem State.setMotion_charges (s : State) (v : Motion) : (s.setMotion v).charges = s.charges := rfl
@[simp] theorem State.setMotion_intercom (s : State) (v : Motion) : (s.setMotion v).intercom = s.intercom := rfl
@[simp] theorem State.setMotion_sign (s : State) (v : Motion) : (s.setMotion v).sign = s.sign := rfl
@[simp] theorem State.setMotion_monitor (s : State) (v : Motion) : (s.setMotion v).monitor = s.monitor := rfl
@[simp] theorem State.setMotion_display (s : State) (v : Motion) : (s.setMotion v).display = s.display := rfl
@[simp] theorem State.setMotion_line (s : State) (v : Motion) : (s.setMotion v).line = s.line := rfl
@[simp] theorem State.setMotion_draws (s : State) (v : Motion) : (s.setMotion v).draws = s.draws := rfl
@[simp] theorem State.setMotion_pending (s : State) (v : Motion) : (s.setMotion v).pending = s.pending := rfl
@[simp] theorem State.setPayers_pins (s : State) (v : PerIndex (Option Payer)) : (s.setPayers v).pins = s.pins := rfl
@[simp] theorem State.setPayers_start (s : State) (v : PerIndex (Option Payer)) : (s.setPayers v).start = s.start := rfl
@[simp] theorem State.setPayers_markerValid (s : State) (v : PerIndex (Option Payer)) : (s.setPayers v).markerValid = s.markerValid := rfl
@[simp] theorem State.setPayers_clock (s : State) (v : PerIndex (Option Payer)) : (s.setPayers v).clock = s.clock := rfl
@[simp] theorem State.setPayers_tamperFilter (s : State) (v : PerIndex (Option Payer)) : (s.setPayers v).tamperFilter = s.tamperFilter := rfl
@[simp] theorem State.setPayers_seats (s : State) (v : PerIndex (Option Payer)) : (s.setPayers v).seats = s.seats := rfl
@[simp] theorem State.setPayers_tags (s : State) (v : PerIndex (Option Payer)) : (s.setPayers v).tags = s.tags := rfl
@[simp] theorem State.setPayers_hold (s : State) (v : PerIndex (Option Payer)) : (s.setPayers v).hold = s.hold := rfl
@[simp] theorem State.setPayers_accounts (s : State) (v : PerIndex (Option Payer)) : (s.setPayers v).accounts = s.accounts := rfl
@[simp] theorem State.setPayers_tariff (s : State) (v : PerIndex (Option Payer)) : (s.setPayers v).tariff = s.tariff := rfl
@[simp] theorem State.setPayers_band (s : State) (v : PerIndex (Option Payer)) : (s.setPayers v).band = s.band := rfl
@[simp] theorem State.setPayers_motion (s : State) (v : PerIndex (Option Payer)) : (s.setPayers v).motion = s.motion := rfl
@[simp] theorem State.setPayers_payers (s : State) (v : PerIndex (Option Payer)) : (s.setPayers v).payers = v := rfl
@[simp] theorem State.setPayers_charges (s : State) (v : PerIndex (Option Payer)) : (s.setPayers v).charges = s.charges := rfl
@[simp] theorem State.setPayers_intercom (s : State) (v : PerIndex (Option Payer)) : (s.setPayers v).intercom = s.intercom := rfl
@[simp] theorem State.setPayers_sign (s : State) (v : PerIndex (Option Payer)) : (s.setPayers v).sign = s.sign := rfl
@[simp] theorem State.setPayers_monitor (s : State) (v : PerIndex (Option Payer)) : (s.setPayers v).monitor = s.monitor := rfl
@[simp] theorem State.setPayers_display (s : State) (v : PerIndex (Option Payer)) : (s.setPayers v).display = s.display := rfl
@[simp] theorem State.setPayers_line (s : State) (v : PerIndex (Option Payer)) : (s.setPayers v).line = s.line := rfl
@[simp] theorem State.setPayers_draws (s : State) (v : PerIndex (Option Payer)) : (s.setPayers v).draws = s.draws := rfl
@[simp] theorem State.setPayers_pending (s : State) (v : PerIndex (Option Payer)) : (s.setPayers v).pending = s.pending := rfl
@[simp] theorem State.setCharges_pins (s : State) (v : PerSeat (Option Charge)) : (s.setCharges v).pins = s.pins := rfl
@[simp] theorem State.setCharges_start (s : State) (v : PerSeat (Option Charge)) : (s.setCharges v).start = s.start := rfl
@[simp] theorem State.setCharges_markerValid (s : State) (v : PerSeat (Option Charge)) : (s.setCharges v).markerValid = s.markerValid := rfl
@[simp] theorem State.setCharges_clock (s : State) (v : PerSeat (Option Charge)) : (s.setCharges v).clock = s.clock := rfl
@[simp] theorem State.setCharges_tamperFilter (s : State) (v : PerSeat (Option Charge)) : (s.setCharges v).tamperFilter = s.tamperFilter := rfl
@[simp] theorem State.setCharges_seats (s : State) (v : PerSeat (Option Charge)) : (s.setCharges v).seats = s.seats := rfl
@[simp] theorem State.setCharges_tags (s : State) (v : PerSeat (Option Charge)) : (s.setCharges v).tags = s.tags := rfl
@[simp] theorem State.setCharges_hold (s : State) (v : PerSeat (Option Charge)) : (s.setCharges v).hold = s.hold := rfl
@[simp] theorem State.setCharges_accounts (s : State) (v : PerSeat (Option Charge)) : (s.setCharges v).accounts = s.accounts := rfl
@[simp] theorem State.setCharges_tariff (s : State) (v : PerSeat (Option Charge)) : (s.setCharges v).tariff = s.tariff := rfl
@[simp] theorem State.setCharges_band (s : State) (v : PerSeat (Option Charge)) : (s.setCharges v).band = s.band := rfl
@[simp] theorem State.setCharges_motion (s : State) (v : PerSeat (Option Charge)) : (s.setCharges v).motion = s.motion := rfl
@[simp] theorem State.setCharges_payers (s : State) (v : PerSeat (Option Charge)) : (s.setCharges v).payers = s.payers := rfl
@[simp] theorem State.setCharges_charges (s : State) (v : PerSeat (Option Charge)) : (s.setCharges v).charges = v := rfl
@[simp] theorem State.setCharges_intercom (s : State) (v : PerSeat (Option Charge)) : (s.setCharges v).intercom = s.intercom := rfl
@[simp] theorem State.setCharges_sign (s : State) (v : PerSeat (Option Charge)) : (s.setCharges v).sign = s.sign := rfl
@[simp] theorem State.setCharges_monitor (s : State) (v : PerSeat (Option Charge)) : (s.setCharges v).monitor = s.monitor := rfl
@[simp] theorem State.setCharges_display (s : State) (v : PerSeat (Option Charge)) : (s.setCharges v).display = s.display := rfl
@[simp] theorem State.setCharges_line (s : State) (v : PerSeat (Option Charge)) : (s.setCharges v).line = s.line := rfl
@[simp] theorem State.setCharges_draws (s : State) (v : PerSeat (Option Charge)) : (s.setCharges v).draws = s.draws := rfl
@[simp] theorem State.setCharges_pending (s : State) (v : PerSeat (Option Charge)) : (s.setCharges v).pending = s.pending := rfl
@[simp] theorem State.setIntercom_pins (s : State) (v : Intercom) : (s.setIntercom v).pins = s.pins := rfl
@[simp] theorem State.setIntercom_start (s : State) (v : Intercom) : (s.setIntercom v).start = s.start := rfl
@[simp] theorem State.setIntercom_markerValid (s : State) (v : Intercom) : (s.setIntercom v).markerValid = s.markerValid := rfl
@[simp] theorem State.setIntercom_clock (s : State) (v : Intercom) : (s.setIntercom v).clock = s.clock := rfl
@[simp] theorem State.setIntercom_tamperFilter (s : State) (v : Intercom) : (s.setIntercom v).tamperFilter = s.tamperFilter := rfl
@[simp] theorem State.setIntercom_seats (s : State) (v : Intercom) : (s.setIntercom v).seats = s.seats := rfl
@[simp] theorem State.setIntercom_tags (s : State) (v : Intercom) : (s.setIntercom v).tags = s.tags := rfl
@[simp] theorem State.setIntercom_hold (s : State) (v : Intercom) : (s.setIntercom v).hold = s.hold := rfl
@[simp] theorem State.setIntercom_accounts (s : State) (v : Intercom) : (s.setIntercom v).accounts = s.accounts := rfl
@[simp] theorem State.setIntercom_tariff (s : State) (v : Intercom) : (s.setIntercom v).tariff = s.tariff := rfl
@[simp] theorem State.setIntercom_band (s : State) (v : Intercom) : (s.setIntercom v).band = s.band := rfl
@[simp] theorem State.setIntercom_motion (s : State) (v : Intercom) : (s.setIntercom v).motion = s.motion := rfl
@[simp] theorem State.setIntercom_payers (s : State) (v : Intercom) : (s.setIntercom v).payers = s.payers := rfl
@[simp] theorem State.setIntercom_charges (s : State) (v : Intercom) : (s.setIntercom v).charges = s.charges := rfl
@[simp] theorem State.setIntercom_intercom (s : State) (v : Intercom) : (s.setIntercom v).intercom = v := rfl
@[simp] theorem State.setIntercom_sign (s : State) (v : Intercom) : (s.setIntercom v).sign = s.sign := rfl
@[simp] theorem State.setIntercom_monitor (s : State) (v : Intercom) : (s.setIntercom v).monitor = s.monitor := rfl
@[simp] theorem State.setIntercom_display (s : State) (v : Intercom) : (s.setIntercom v).display = s.display := rfl
@[simp] theorem State.setIntercom_line (s : State) (v : Intercom) : (s.setIntercom v).line = s.line := rfl
@[simp] theorem State.setIntercom_draws (s : State) (v : Intercom) : (s.setIntercom v).draws = s.draws := rfl
@[simp] theorem State.setIntercom_pending (s : State) (v : Intercom) : (s.setIntercom v).pending = s.pending := rfl
@[simp] theorem State.setSign_pins (s : State) (v : Sign) : (s.setSign v).pins = s.pins := rfl
@[simp] theorem State.setSign_start (s : State) (v : Sign) : (s.setSign v).start = s.start := rfl
@[simp] theorem State.setSign_markerValid (s : State) (v : Sign) : (s.setSign v).markerValid = s.markerValid := rfl
@[simp] theorem State.setSign_clock (s : State) (v : Sign) : (s.setSign v).clock = s.clock := rfl
@[simp] theorem State.setSign_tamperFilter (s : State) (v : Sign) : (s.setSign v).tamperFilter = s.tamperFilter := rfl
@[simp] theorem State.setSign_seats (s : State) (v : Sign) : (s.setSign v).seats = s.seats := rfl
@[simp] theorem State.setSign_tags (s : State) (v : Sign) : (s.setSign v).tags = s.tags := rfl
@[simp] theorem State.setSign_hold (s : State) (v : Sign) : (s.setSign v).hold = s.hold := rfl
@[simp] theorem State.setSign_accounts (s : State) (v : Sign) : (s.setSign v).accounts = s.accounts := rfl
@[simp] theorem State.setSign_tariff (s : State) (v : Sign) : (s.setSign v).tariff = s.tariff := rfl
@[simp] theorem State.setSign_band (s : State) (v : Sign) : (s.setSign v).band = s.band := rfl
@[simp] theorem State.setSign_motion (s : State) (v : Sign) : (s.setSign v).motion = s.motion := rfl
@[simp] theorem State.setSign_payers (s : State) (v : Sign) : (s.setSign v).payers = s.payers := rfl
@[simp] theorem State.setSign_charges (s : State) (v : Sign) : (s.setSign v).charges = s.charges := rfl
@[simp] theorem State.setSign_intercom (s : State) (v : Sign) : (s.setSign v).intercom = s.intercom := rfl
@[simp] theorem State.setSign_sign (s : State) (v : Sign) : (s.setSign v).sign = v := rfl
@[simp] theorem State.setSign_monitor (s : State) (v : Sign) : (s.setSign v).monitor = s.monitor := rfl
@[simp] theorem State.setSign_display (s : State) (v : Sign) : (s.setSign v).display = s.display := rfl
@[simp] theorem State.setSign_line (s : State) (v : Sign) : (s.setSign v).line = s.line := rfl
@[simp] theorem State.setSign_draws (s : State) (v : Sign) : (s.setSign v).draws = s.draws := rfl
@[simp] theorem State.setSign_pending (s : State) (v : Sign) : (s.setSign v).pending = s.pending := rfl
@[simp] theorem State.setMonitor_pins (s : State) (v : Monitor) : (s.setMonitor v).pins = s.pins := rfl
@[simp] theorem State.setMonitor_start (s : State) (v : Monitor) : (s.setMonitor v).start = s.start := rfl
@[simp] theorem State.setMonitor_markerValid (s : State) (v : Monitor) : (s.setMonitor v).markerValid = s.markerValid := rfl
@[simp] theorem State.setMonitor_clock (s : State) (v : Monitor) : (s.setMonitor v).clock = s.clock := rfl
@[simp] theorem State.setMonitor_tamperFilter (s : State) (v : Monitor) : (s.setMonitor v).tamperFilter = s.tamperFilter := rfl
@[simp] theorem State.setMonitor_seats (s : State) (v : Monitor) : (s.setMonitor v).seats = s.seats := rfl
@[simp] theorem State.setMonitor_tags (s : State) (v : Monitor) : (s.setMonitor v).tags = s.tags := rfl
@[simp] theorem State.setMonitor_hold (s : State) (v : Monitor) : (s.setMonitor v).hold = s.hold := rfl
@[simp] theorem State.setMonitor_accounts (s : State) (v : Monitor) : (s.setMonitor v).accounts = s.accounts := rfl
@[simp] theorem State.setMonitor_tariff (s : State) (v : Monitor) : (s.setMonitor v).tariff = s.tariff := rfl
@[simp] theorem State.setMonitor_band (s : State) (v : Monitor) : (s.setMonitor v).band = s.band := rfl
@[simp] theorem State.setMonitor_motion (s : State) (v : Monitor) : (s.setMonitor v).motion = s.motion := rfl
@[simp] theorem State.setMonitor_payers (s : State) (v : Monitor) : (s.setMonitor v).payers = s.payers := rfl
@[simp] theorem State.setMonitor_charges (s : State) (v : Monitor) : (s.setMonitor v).charges = s.charges := rfl
@[simp] theorem State.setMonitor_intercom (s : State) (v : Monitor) : (s.setMonitor v).intercom = s.intercom := rfl
@[simp] theorem State.setMonitor_sign (s : State) (v : Monitor) : (s.setMonitor v).sign = s.sign := rfl
@[simp] theorem State.setMonitor_monitor (s : State) (v : Monitor) : (s.setMonitor v).monitor = v := rfl
@[simp] theorem State.setMonitor_display (s : State) (v : Monitor) : (s.setMonitor v).display = s.display := rfl
@[simp] theorem State.setMonitor_line (s : State) (v : Monitor) : (s.setMonitor v).line = s.line := rfl
@[simp] theorem State.setMonitor_draws (s : State) (v : Monitor) : (s.setMonitor v).draws = s.draws := rfl
@[simp] theorem State.setMonitor_pending (s : State) (v : Monitor) : (s.setMonitor v).pending = s.pending := rfl
@[simp] theorem State.setDisplay_pins (s : State) (v : PerSeat (Option Display)) : (s.setDisplay v).pins = s.pins := rfl
@[simp] theorem State.setDisplay_start (s : State) (v : PerSeat (Option Display)) : (s.setDisplay v).start = s.start := rfl
@[simp] theorem State.setDisplay_markerValid (s : State) (v : PerSeat (Option Display)) : (s.setDisplay v).markerValid = s.markerValid := rfl
@[simp] theorem State.setDisplay_clock (s : State) (v : PerSeat (Option Display)) : (s.setDisplay v).clock = s.clock := rfl
@[simp] theorem State.setDisplay_tamperFilter (s : State) (v : PerSeat (Option Display)) : (s.setDisplay v).tamperFilter = s.tamperFilter := rfl
@[simp] theorem State.setDisplay_seats (s : State) (v : PerSeat (Option Display)) : (s.setDisplay v).seats = s.seats := rfl
@[simp] theorem State.setDisplay_tags (s : State) (v : PerSeat (Option Display)) : (s.setDisplay v).tags = s.tags := rfl
@[simp] theorem State.setDisplay_hold (s : State) (v : PerSeat (Option Display)) : (s.setDisplay v).hold = s.hold := rfl
@[simp] theorem State.setDisplay_accounts (s : State) (v : PerSeat (Option Display)) : (s.setDisplay v).accounts = s.accounts := rfl
@[simp] theorem State.setDisplay_tariff (s : State) (v : PerSeat (Option Display)) : (s.setDisplay v).tariff = s.tariff := rfl
@[simp] theorem State.setDisplay_band (s : State) (v : PerSeat (Option Display)) : (s.setDisplay v).band = s.band := rfl
@[simp] theorem State.setDisplay_motion (s : State) (v : PerSeat (Option Display)) : (s.setDisplay v).motion = s.motion := rfl
@[simp] theorem State.setDisplay_payers (s : State) (v : PerSeat (Option Display)) : (s.setDisplay v).payers = s.payers := rfl
@[simp] theorem State.setDisplay_charges (s : State) (v : PerSeat (Option Display)) : (s.setDisplay v).charges = s.charges := rfl
@[simp] theorem State.setDisplay_intercom (s : State) (v : PerSeat (Option Display)) : (s.setDisplay v).intercom = s.intercom := rfl
@[simp] theorem State.setDisplay_sign (s : State) (v : PerSeat (Option Display)) : (s.setDisplay v).sign = s.sign := rfl
@[simp] theorem State.setDisplay_monitor (s : State) (v : PerSeat (Option Display)) : (s.setDisplay v).monitor = s.monitor := rfl
@[simp] theorem State.setDisplay_display (s : State) (v : PerSeat (Option Display)) : (s.setDisplay v).display = v := rfl
@[simp] theorem State.setDisplay_line (s : State) (v : PerSeat (Option Display)) : (s.setDisplay v).line = s.line := rfl
@[simp] theorem State.setDisplay_draws (s : State) (v : PerSeat (Option Display)) : (s.setDisplay v).draws = s.draws := rfl
@[simp] theorem State.setDisplay_pending (s : State) (v : PerSeat (Option Display)) : (s.setDisplay v).pending = s.pending := rfl
@[simp] theorem State.setLine_pins (s : State) (v : Line) : (s.setLine v).pins = s.pins := rfl
@[simp] theorem State.setLine_start (s : State) (v : Line) : (s.setLine v).start = s.start := rfl
@[simp] theorem State.setLine_markerValid (s : State) (v : Line) : (s.setLine v).markerValid = s.markerValid := rfl
@[simp] theorem State.setLine_clock (s : State) (v : Line) : (s.setLine v).clock = s.clock := rfl
@[simp] theorem State.setLine_tamperFilter (s : State) (v : Line) : (s.setLine v).tamperFilter = s.tamperFilter := rfl
@[simp] theorem State.setLine_seats (s : State) (v : Line) : (s.setLine v).seats = s.seats := rfl
@[simp] theorem State.setLine_tags (s : State) (v : Line) : (s.setLine v).tags = s.tags := rfl
@[simp] theorem State.setLine_hold (s : State) (v : Line) : (s.setLine v).hold = s.hold := rfl
@[simp] theorem State.setLine_accounts (s : State) (v : Line) : (s.setLine v).accounts = s.accounts := rfl
@[simp] theorem State.setLine_tariff (s : State) (v : Line) : (s.setLine v).tariff = s.tariff := rfl
@[simp] theorem State.setLine_band (s : State) (v : Line) : (s.setLine v).band = s.band := rfl
@[simp] theorem State.setLine_motion (s : State) (v : Line) : (s.setLine v).motion = s.motion := rfl
@[simp] theorem State.setLine_payers (s : State) (v : Line) : (s.setLine v).payers = s.payers := rfl
@[simp] theorem State.setLine_charges (s : State) (v : Line) : (s.setLine v).charges = s.charges := rfl
@[simp] theorem State.setLine_intercom (s : State) (v : Line) : (s.setLine v).intercom = s.intercom := rfl
@[simp] theorem State.setLine_sign (s : State) (v : Line) : (s.setLine v).sign = s.sign := rfl
@[simp] theorem State.setLine_monitor (s : State) (v : Line) : (s.setLine v).monitor = s.monitor := rfl
@[simp] theorem State.setLine_display (s : State) (v : Line) : (s.setLine v).display = s.display := rfl
@[simp] theorem State.setLine_line (s : State) (v : Line) : (s.setLine v).line = v := rfl
@[simp] theorem State.setLine_draws (s : State) (v : Line) : (s.setLine v).draws = s.draws := rfl
@[simp] theorem State.setLine_pending (s : State) (v : Line) : (s.setLine v).pending = s.pending := rfl
@[simp] theorem State.setDraws_pins (s : State) (v : Nat) : (s.setDraws v).pins = s.pins := rfl
@[simp] theorem State.setDraws_start (s : State) (v : Nat) : (s.setDraws v).start = s.start := rfl
@[simp] theorem State.setDraws_markerValid (s : State) (v : Nat) : (s.setDraws v).markerValid = s.markerValid := rfl
@[simp] theorem State.setDraws_clock (s : State) (v : Nat) : (s.setDraws v).clock = s.clock := rfl
@[simp] theorem State.setDraws_tamperFilter (s : State) (v : Nat) : (s.setDraws v).tamperFilter = s.tamperFilter := rfl
@[simp] theorem State.setDraws_seats (s : State) (v : Nat) : (s.setDraws v).seats = s.seats := rfl
@[simp] theorem State.setDraws_tags (s : State) (v : Nat) : (s.setDraws v).tags = s.tags := rfl
@[simp] theorem State.setDraws_hold (s : State) (v : Nat) : (s.setDraws v).hold = s.hold := rfl
@[simp] theorem State.setDraws_accounts (s : State) (v : Nat) : (s.setDraws v).accounts = s.accounts := rfl
@[simp] theorem State.setDraws_tariff (s : State) (v : Nat) : (s.setDraws v).tariff = s.tariff := rfl
@[simp] theorem State.setDraws_band (s : State) (v : Nat) : (s.setDraws v).band = s.band := rfl
@[simp] theorem State.setDraws_motion (s : State) (v : Nat) : (s.setDraws v).motion = s.motion := rfl
@[simp] theorem State.setDraws_payers (s : State) (v : Nat) : (s.setDraws v).payers = s.payers := rfl
@[simp] theorem State.setDraws_charges (s : State) (v : Nat) : (s.setDraws v).charges = s.charges := rfl
@[simp] theorem State.setDraws_intercom (s : State) (v : Nat) : (s.setDraws v).intercom = s.intercom := rfl
@[simp] theorem State.setDraws_sign (s : State) (v : Nat) : (s.setDraws v).sign = s.sign := rfl
@[simp] theorem State.setDraws_monitor (s : State) (v : Nat) : (s.setDraws v).monitor = s.monitor := rfl
@[simp] theorem State.setDraws_display (s : State) (v : Nat) : (s.setDraws v).display = s.display := rfl
@[simp] theorem State.setDraws_line (s : State) (v : Nat) : (s.setDraws v).line = s.line := rfl
@[simp] theorem State.setDraws_draws (s : State) (v : Nat) : (s.setDraws v).draws = v := rfl
@[simp] theorem State.setDraws_pending (s : State) (v : Nat) : (s.setDraws v).pending = s.pending := rfl
@[simp] theorem State.setPending_pins (s : State) (v : List Instr) : (s.setPending v).pins = s.pins := rfl
@[simp] theorem State.setPending_start (s : State) (v : List Instr) : (s.setPending v).start = s.start := rfl
@[simp] theorem State.setPending_markerValid (s : State) (v : List Instr) : (s.setPending v).markerValid = s.markerValid := rfl
@[simp] theorem State.setPending_clock (s : State) (v : List Instr) : (s.setPending v).clock = s.clock := rfl
@[simp] theorem State.setPending_tamperFilter (s : State) (v : List Instr) : (s.setPending v).tamperFilter = s.tamperFilter := rfl
@[simp] theorem State.setPending_seats (s : State) (v : List Instr) : (s.setPending v).seats = s.seats := rfl
@[simp] theorem State.setPending_tags (s : State) (v : List Instr) : (s.setPending v).tags = s.tags := rfl
@[simp] theorem State.setPending_hold (s : State) (v : List Instr) : (s.setPending v).hold = s.hold := rfl
@[simp] theorem State.setPending_accounts (s : State) (v : List Instr) : (s.setPending v).accounts = s.accounts := rfl
@[simp] theorem State.setPending_tariff (s : State) (v : List Instr) : (s.setPending v).tariff = s.tariff := rfl
@[simp] theorem State.setPending_band (s : State) (v : List Instr) : (s.setPending v).band = s.band := rfl
@[simp] theorem State.setPending_motion (s : State) (v : List Instr) : (s.setPending v).motion = s.motion := rfl
@[simp] theorem State.setPending_payers (s : State) (v : List Instr) : (s.setPending v).payers = s.payers := rfl
@[simp] theorem State.setPending_charges (s : State) (v : List Instr) : (s.setPending v).charges = s.charges := rfl
@[simp] theorem State.setPending_intercom (s : State) (v : List Instr) : (s.setPending v).intercom = s.intercom := rfl
@[simp] theorem State.setPending_sign (s : State) (v : List Instr) : (s.setPending v).sign = s.sign := rfl
@[simp] theorem State.setPending_monitor (s : State) (v : List Instr) : (s.setPending v).monitor = s.monitor := rfl
@[simp] theorem State.setPending_display (s : State) (v : List Instr) : (s.setPending v).display = s.display := rfl
@[simp] theorem State.setPending_line (s : State) (v : List Instr) : (s.setPending v).line = s.line := rfl
@[simp] theorem State.setPending_draws (s : State) (v : List Instr) : (s.setPending v).draws = s.draws := rfl
@[simp] theorem State.setPending_pending (s : State) (v : List Instr) : (s.setPending v).pending = v := rfl

/-! ### Reading after writing -/

@[simp] theorem PerSeat.get_set_self {α : Type} (v : PerSeat α) (q : Seat) (a : α) :
    (v.set q a).get q = a := by
  cases q <;> rfl

theorem PerSeat.get_set_of_ne {α : Type} (v : PerSeat α) {p q : Seat} (a : α) (h : p ≠ q) :
    (v.set q a).get p = v.get p := by
  cases p <;> cases q <;> first | rfl | exact absurd rfl h

theorem PerSeat.get_set {α : Type} (v : PerSeat α) (p q : Seat) (a : α) :
    (v.set q a).get p = if p = q then a else v.get p := by
  cases p <;> cases q <;> rfl

theorem PerSeat.ext_get {α : Type} {v w : PerSeat α} (h : ∀ q, v.get q = w.get q) : v = w := by
  obtain ⟨a, b, c, d⟩ := v
  obtain ⟨a', b', c', d'⟩ := w
  have h1 : a = a' := h .one
  have h2 : b = b' := h .two
  have h3 : c = c' := h .three
  have h4 : d = d' := h .four
  subst h1 h2 h3 h4
  rfl

@[simp] theorem PerSeat.set_set {α : Type} (v : PerSeat α) (q : Seat) (a b : α) :
    (v.set q a).set q b = v.set q b := by
  cases q <;> rfl

@[simp] theorem PerSeat.set_get {α : Type} (v : PerSeat α) (q : Seat) : v.set q (v.get q) = v := by
  cases q <;> rfl

@[simp] theorem PerSeat.get_map {α β : Type} (f : α → β) (v : PerSeat α) (q : Seat) :
    (v.map f).get q = f (v.get q) := by
  cases q <;> rfl

@[simp] theorem seatsOf_get {α : Type} (a : α) (q : Seat) : (seatsOf a).get q = a := by
  cases q <;> rfl

theorem PerSeat.any_iff {α : Type} (p : α → Bool) (v : PerSeat α) :
    v.any p = true ↔ ∃ q, p (v.get q) = true := by
  constructor
  · intro h
    simp only [PerSeat.any, Bool.or_eq_true] at h
    rcases h with ((h | h) | h) | h
    exacts [⟨.one, h⟩, ⟨.two, h⟩, ⟨.three, h⟩, ⟨.four, h⟩]
  · rintro ⟨q, h⟩
    cases q <;> simp_all [PerSeat.any, PerSeat.get]

@[simp] theorem PerCause.get_set_self {α : Type} (v : PerCause α) (c : Cause) (a : α) :
    (v.set c a).get c = a := by
  cases c <;> rfl

theorem PerCause.get_set {α : Type} (v : PerCause α) (c d : Cause) (a : α) :
    (v.set d a).get c = if c = d then a else v.get c := by
  cases c <;> cases d <;> rfl

@[simp] theorem causesOf_get {α : Type} (a : α) (c : Cause) : (causesOf a).get c = a := by
  cases c <;> rfl

@[simp] theorem PerChannel.get_mapIdx {α β : Type} (f : Channel → α → β) (v : PerChannel α)
    (c : Channel) : (v.mapIdx f).get c = f c (v.get c) := by
  cases c <;> rfl

@[simp] theorem channelsOf_get {α : Type} (a : α) (c : Channel) : (channelsOf a).get c = a := by
  cases c <;> rfl

@[simp] theorem PerIndex.get_set_self {α : Type} (v : PerIndex α) (i : Fin 8) (a : α) :
    (v.set i a).get i = a := by
  fin_cases i <;> rfl

theorem PerIndex.get_set {α : Type} (v : PerIndex α) (i j : Fin 8) (a : α) :
    (v.set j a).get i = if i = j then a else v.get i := by
  fin_cases i <;> fin_cases j <;> rfl

@[simp] theorem PerIndex.get_map {α β : Type} (f : α → β) (v : PerIndex α) (i : Fin 8) :
    (v.map f).get i = f (v.get i) := by
  fin_cases i <;> rfl

@[simp] theorem indexesOf_get {α : Type} (a : α) (i : Fin 8) : (indexesOf a).get i = a := by
  fin_cases i <;> rfl

/-! ### Seats through the state -/

@[simp] theorem State.setSeat_seat_self (s : State) (q : Seat) (r : SeatRecord) :
    (s.setSeat q r).seat q = r := by
  simp [State.setSeat, State.seat]

theorem State.setSeat_seat_of_ne (s : State) {p q : Seat} (r : SeatRecord) (h : p ≠ q) :
    (s.setSeat q r).seat p = s.seat p := by
  simp [State.setSeat, State.seat, PerSeat.get_set_of_ne _ _ h]

@[simp] theorem State.setSeat_pins (s : State) (q : Seat) (r : SeatRecord) : (s.setSeat q r).pins = s.pins := rfl
@[simp] theorem State.setSeat_start (s : State) (q : Seat) (r : SeatRecord) : (s.setSeat q r).start = s.start := rfl
@[simp] theorem State.setSeat_markerValid (s : State) (q : Seat) (r : SeatRecord) : (s.setSeat q r).markerValid = s.markerValid := rfl
@[simp] theorem State.setSeat_clock (s : State) (q : Seat) (r : SeatRecord) : (s.setSeat q r).clock = s.clock := rfl
@[simp] theorem State.setSeat_tamperFilter (s : State) (q : Seat) (r : SeatRecord) : (s.setSeat q r).tamperFilter = s.tamperFilter := rfl
@[simp] theorem State.setSeat_tags (s : State) (q : Seat) (r : SeatRecord) : (s.setSeat q r).tags = s.tags := rfl
@[simp] theorem State.setSeat_hold (s : State) (q : Seat) (r : SeatRecord) : (s.setSeat q r).hold = s.hold := rfl
@[simp] theorem State.setSeat_accounts (s : State) (q : Seat) (r : SeatRecord) : (s.setSeat q r).accounts = s.accounts := rfl
@[simp] theorem State.setSeat_tariff (s : State) (q : Seat) (r : SeatRecord) : (s.setSeat q r).tariff = s.tariff := rfl
@[simp] theorem State.setSeat_band (s : State) (q : Seat) (r : SeatRecord) : (s.setSeat q r).band = s.band := rfl
@[simp] theorem State.setSeat_motion (s : State) (q : Seat) (r : SeatRecord) : (s.setSeat q r).motion = s.motion := rfl
@[simp] theorem State.setSeat_payers (s : State) (q : Seat) (r : SeatRecord) : (s.setSeat q r).payers = s.payers := rfl
@[simp] theorem State.setSeat_charges (s : State) (q : Seat) (r : SeatRecord) : (s.setSeat q r).charges = s.charges := rfl
@[simp] theorem State.setSeat_intercom (s : State) (q : Seat) (r : SeatRecord) : (s.setSeat q r).intercom = s.intercom := rfl
@[simp] theorem State.setSeat_sign (s : State) (q : Seat) (r : SeatRecord) : (s.setSeat q r).sign = s.sign := rfl
@[simp] theorem State.setSeat_monitor (s : State) (q : Seat) (r : SeatRecord) : (s.setSeat q r).monitor = s.monitor := rfl
@[simp] theorem State.setSeat_display (s : State) (q : Seat) (r : SeatRecord) : (s.setSeat q r).display = s.display := rfl
@[simp] theorem State.setSeat_line (s : State) (q : Seat) (r : SeatRecord) : (s.setSeat q r).line = s.line := rfl
@[simp] theorem State.setSeat_draws (s : State) (q : Seat) (r : SeatRecord) : (s.setSeat q r).draws = s.draws := rfl
@[simp] theorem State.setSeat_pending (s : State) (q : Seat) (r : SeatRecord) : (s.setSeat q r).pending = s.pending := rfl
@[simp] theorem State.setSeat_seats (s : State) (q : Seat) (r : SeatRecord) :
    (s.setSeat q r).seats = s.seats.set q r := rfl

end Sys2Proof.Machine
end

