-- ==== Sys2Proof/Laws/Queue.lean ====
section
/-! SUPPORT. What the transmit queue's operations can do: they change the queue, the answer-pending mark
and the display copies, and nothing else (R199, R200). -/

namespace Sys2Proof.Machine

/-- `t` is `s` but for the transmit queue, the answer-pending mark and the display copies. -/
structure QueueOnly (s t : State) : Prop where
  pins : t.pins = s.pins
  start : t.start = s.start
  markerValid : t.markerValid = s.markerValid
  clock : t.clock = s.clock
  tamperFilter : t.tamperFilter = s.tamperFilter
  seats : t.seats = s.seats
  tags : t.tags = s.tags
  hold : t.hold = s.hold
  accounts : t.accounts = s.accounts
  tariff : t.tariff = s.tariff
  band : t.band = s.band
  motion : t.motion = s.motion
  payers : t.payers = s.payers
  charges : t.charges = s.charges
  intercom : t.intercom = s.intercom
  sign : t.sign = s.sign
  monitor : t.monitor = s.monitor
  draws : t.draws = s.draws
  pending : t.pending = s.pending
  roster : t.line.roster = s.line.roster
  fifo : t.line.fifo = s.line.fifo
  resetTimer : t.line.resetTimer = s.line.resetTimer
  transmitting : t.line.transmitting = s.line.transmitting
  statusTimer : t.line.statusTimer = s.line.statusTimer

theorem QueueOnly.refl (s : State) : QueueOnly s s := by constructor <;> rfl

theorem QueueOnly.trans {s t u : State} (h : QueueOnly s t) (k : QueueOnly t u) : QueueOnly s u where
  pins := k.pins.trans h.pins
  start := k.start.trans h.start
  markerValid := k.markerValid.trans h.markerValid
  clock := k.clock.trans h.clock
  tamperFilter := k.tamperFilter.trans h.tamperFilter
  seats := k.seats.trans h.seats
  tags := k.tags.trans h.tags
  hold := k.hold.trans h.hold
  accounts := k.accounts.trans h.accounts
  tariff := k.tariff.trans h.tariff
  band := k.band.trans h.band
  motion := k.motion.trans h.motion
  payers := k.payers.trans h.payers
  charges := k.charges.trans h.charges
  intercom := k.intercom.trans h.intercom
  sign := k.sign.trans h.sign
  monitor := k.monitor.trans h.monitor
  draws := k.draws.trans h.draws
  pending := k.pending.trans h.pending
  roster := k.roster.trans h.roster
  fifo := k.fifo.trans h.fifo
  resetTimer := k.resetTimer.trans h.resetTimer
  transmitting := k.transmitting.trans h.transmitting
  statusTimer := k.statusTimer.trans h.statusTimer

theorem setQueue_only (s : State) (q : List TxFrame) : QueueOnly s (setQueue s q) := by constructor <;> rfl

theorem setDisplay_only (s : State) (d : PerSeat (Option Display)) : QueueOnly s (s.setDisplay d) := by
  constructor <;> rfl

theorem discardNotice_only (f : TxFrame) (s : State) : QueueOnly s (discardNotice f s) := by
  unfold discardNotice
  split
  · exact setDisplay_only s _
  · split
    · constructor <;> rfl
    · exact .refl s
  · exact .refl s

theorem joinQueue_only (f : TxFrame) (s : State) : QueueOnly s (joinQueue f s) := by
  unfold joinQueue
  split
  · exact setQueue_only s _
  · split
    · split
      · exact (setQueue_only s _).trans (discardNotice_only _ _)
      · exact discardNotice_only _ _
    · exact discardNotice_only _ _

theorem enqueue_only (f : TxFrame) (s : State) : QueueOnly s (enqueue f s) := by
  unfold enqueue
  split
  · exact setQueue_only s _
  · exact joinQueue_only f s

theorem send_only (dest : Nat) (body : TxBody) (s : State) : QueueOnly s (send dest body s) :=
  enqueue_only _ s

theorem queueStatus_only (s : State) : QueueOnly s (queueStatus s) := send_only _ _ s

/-- A frame without a coalescing key joins a queue that has room (R198, R200). -/
theorem enqueue_room {f : TxFrame} {s : State} (k : f.body.key = none)
    (h : s.line.queue.length < queuePlaces) :
    enqueue f s = setQueue s (insertByClass f s.line.queue) := by
  simp [enqueue, joinQueue, k, h]

/-- The places in the queue after a frame is placed. -/
@[simp] theorem insertByClass_length (f : TxFrame) (q : List TxFrame) :
    (insertByClass f q).length = q.length + 1 := by
  induction q with
  | nil => rfl
  | cons g gs ih => simp only [insertByClass]; split <;> simp [ih]

/-- A placed frame is in the queue, and so is every frame that was. -/
theorem mem_insertByClass {f g : TxFrame} {q : List TxFrame} :
    g ∈ insertByClass f q ↔ g = f ∨ g ∈ q := by
  induction q with
  | nil => simp [insertByClass]
  | cons x xs ih =>
    simp only [insertByClass]
    split
    · simp only [List.mem_cons, ih]; tauto
    · simp

end Sys2Proof.Machine
end

