-- ==== Sys2Proof/Laws/Fare.lean ====
section
/-! SUPPORT. What a seat's change, a close, a charge and a charge-start pass can do: they change the
seats and the blocks that a trip reaches, and nothing else (R40, R52, R98, R109). -/

namespace Sys2Proof.Machine

/-- `t` is `s` but for the seats, the late-tag area, the accounts, the payer map, the charges, the
intercom switch, the sign, the transmit queue, the answer-pending mark and the display copies. -/
structure FareOnly (s t : State) : Prop where
  pins : t.pins = s.pins
  start : t.start = s.start
  markerValid : t.markerValid = s.markerValid
  clock : t.clock = s.clock
  tamperFilter : t.tamperFilter = s.tamperFilter
  hold : t.hold = s.hold
  tariff : t.tariff = s.tariff
  band : t.band = s.band
  motion : t.motion = s.motion
  monitor : t.monitor = s.monitor
  draws : t.draws = s.draws
  pending : t.pending = s.pending
  roster : t.line.roster = s.line.roster
  fifo : t.line.fifo = s.line.fifo
  resetTimer : t.line.resetTimer = s.line.resetTimer
  transmitting : t.line.transmitting = s.line.transmitting
  statusTimer : t.line.statusTimer = s.line.statusTimer

theorem FareOnly.refl (s : State) : FareOnly s s := by constructor <;> rfl

theorem FareOnly.trans {s t u : State} (h : FareOnly s t) (k : FareOnly t u) : FareOnly s u where
  pins := k.pins.trans h.pins
  start := k.start.trans h.start
  markerValid := k.markerValid.trans h.markerValid
  clock := k.clock.trans h.clock
  tamperFilter := k.tamperFilter.trans h.tamperFilter
  hold := k.hold.trans h.hold
  tariff := k.tariff.trans h.tariff
  band := k.band.trans h.band
  motion := k.motion.trans h.motion
  monitor := k.monitor.trans h.monitor
  draws := k.draws.trans h.draws
  pending := k.pending.trans h.pending
  roster := k.roster.trans h.roster
  fifo := k.fifo.trans h.fifo
  resetTimer := k.resetTimer.trans h.resetTimer
  transmitting := k.transmitting.trans h.transmitting
  statusTimer := k.statusTimer.trans h.statusTimer

theorem QueueOnly.fare {s t : State} (h : QueueOnly s t) : FareOnly s t where
  pins := h.pins
  start := h.start
  markerValid := h.markerValid
  clock := h.clock
  tamperFilter := h.tamperFilter
  hold := h.hold
  tariff := h.tariff
  band := h.band
  motion := h.motion
  monitor := h.monitor
  draws := h.draws
  pending := h.pending
  roster := h.roster
  fifo := h.fifo
  resetTimer := h.resetTimer
  transmitting := h.transmitting
  statusTimer := h.statusTimer

theorem setSeats_fare (s : State) (v : PerSeat SeatRecord) : FareOnly s (s.setSeats v) := by
  constructor <;> rfl

theorem setSeat_fare (s : State) (q : Seat) (r : SeatRecord) : FareOnly s (s.setSeat q r) :=
  setSeats_fare s _

theorem setTags_fare (s : State) (v : Tags) : FareOnly s (s.setTags v) := by
  constructor <;> rfl

theorem setAccounts_fare (s : State) (v : Accounts) : FareOnly s (s.setAccounts v) := by
  constructor <;> rfl

theorem setPayers_fare (s : State) (v : PerIndex (Option Payer)) : FareOnly s (s.setPayers v) := by
  constructor <;> rfl

theorem setCharges_fare (s : State) (v : PerSeat (Option Charge)) : FareOnly s (s.setCharges v) := by
  constructor <;> rfl

theorem setIntercom_fare (s : State) (v : Intercom) : FareOnly s (s.setIntercom v) := by
  constructor <;> rfl

theorem computeSign_fare (s : State) : FareOnly s (computeSign s) := by
  constructor <;> rfl

theorem changeIntercom_fare (f : Intercom → Intercom) (s : State) :
    FareOnly s (changeIntercom f s) := by
  unfold changeIntercom
  dsimp only
  split
  · exact setIntercom_fare s _
  · exact (setIntercom_fare s _).trans (send_only _ _ _).fare

theorem occupancyNotice_fare (q : Seat) (w : Bool) (s : State) :
    FareOnly s (occupancyNotice q w s) := by
  unfold occupancyNotice
  split
  · exact .refl s
  · split <;> exact changeIntercom_fare _ s

theorem announce_fare (q : Seat) (w : Bool) (s : State) : FareOnly s (announce q w s) :=
  ((computeSign_fare s).trans (occupancyNotice_fare q w _)).trans (queueStatus_only _).fare

/-- All that a change of a seat's state can change (R40). -/
theorem changeSeat_fare (q : Seat) (r : SeatRecord) (s : State) : FareOnly s (changeSeat q r s) :=
  (setSeat_fare s q r).trans (announce_fare q _ _)

theorem compareDisplay_only (s : State) (q : Seat) : QueueOnly s (compareDisplay s q) := by
  unfold compareDisplay
  dsimp only
  split
  · exact .refl s
  · split
    · exact .refl s
    · exact (setDisplay_only s _).trans (send_only _ _ _)

theorem compareDisplays_only (s : State) : QueueOnly s (compareDisplays s) :=
  (((compareDisplay_only s .one).trans (compareDisplay_only _ .two)).trans
    (compareDisplay_only _ .three)).trans (compareDisplay_only _ .four)

theorem compareIfChanged_only (s t : State) : QueueOnly t (compareIfChanged s t) := by
  unfold compareIfChanged
  split
  · exact .refl t
  · exact compareDisplays_only t

theorem changeShift_fare (sh : Shift) (s : State) : FareOnly s (changeShift sh s) :=
  ((setAccounts_fare s _).trans (computeSign_fare _)).trans (queueStatus_only _).fare

theorem sendPages_only (dest : Nat) (pages : List Nat) (s : State) :
    QueueOnly s (pages.foldl (sendPage dest) s) := by
  induction pages generalizing s with
  | nil => exact .refl s
  | cons p ps ih => exact (send_only _ _ s).trans (ih (sendPage dest s p))

theorem queueReport_only (s : State) : QueueOnly s (queueReport s) := by
  unfold queueReport
  split
  · exact .refl s
  · exact sendPages_only _ _ s

theorem closeShift_fare (s : State) : FareOnly s (closeShift s) :=
  (changeShift_fare _ s).trans (queueReport_only _).fare

theorem afterTrip_fare (o : Bool) (s : State) : FareOnly s (afterTrip o s) := by
  unfold afterTrip
  dsimp only
  split
  · exact .refl s
  · split
    · exact .refl s
    · exact closeShift_fare s
  · split
    · split
      · exact changeShift_fare _ s
      · exact (changeShift_fare _ s).trans (closeShift_fare _)
    · exact .refl s

theorem takeTrip_fare (t : Trip) (o : Bool) (s : State) : FareOnly s (takeTrip t o s) :=
  (setAccounts_fare s _).trans (afterTrip_fare o _)

theorem removeScope_fare (sc : Scope) (s : State) : FareOnly s (removeScope sc s) := by
  unfold removeScope
  split
  · exact setPayers_fare s _
  · exact .refl s

theorem payersAtClose_fare (q : Seat) (o : Bool) (s : State) : FareOnly s (payersAtClose q o s) := by
  unfold payersAtClose
  dsimp only
  split
  · exact removeScope_fare _ s
  · exact (removeScope_fare _ s).trans (removeScope_fare _ _)

/-- All that a close of a seat can change (R52). -/
theorem closeSeat_fare (q : Seat) (e : TripEnd) (s : State) : FareOnly s (closeSeat q e s) :=
  (((takeTrip_fare _ _ s).trans (payersAtClose_fare q _ _)).trans (changeSeat_fare q _ _)).trans
    (compareDisplay_only _ q).fare

theorem closeIfPaid_fare (q : Seat) (s : State) : FareOnly s (closeIfPaid q s) := by
  unfold closeIfPaid
  split
  · exact closeSeat_fare q _ s
  · exact .refl s

theorem enterPaying_fare (q : Seat) (s : State) : FareOnly s (enterPaying q s) := by
  unfold enterPaying
  dsimp only
  split
  · exact changeSeat_fare q _ s
  · exact .refl s

theorem leavePaying_fare (q : Seat) (s : State) : FareOnly s (leavePaying q s) := by
  unfold leavePaying
  dsimp only
  split
  · exact changeSeat_fare q _ s
  · exact .refl s

theorem creditCard_fare (q : Seat) (p : Payment) (s : State) : FareOnly s (creditCard q p s) := by
  unfold creditCard
  dsimp only
  split
  · exact (changeSeat_fare q _ s).trans (closeIfPaid_fare q _)
  · exact .refl s

theorem creditAccount_fare (q : Seat) (p : Payment) (s : State) :
    FareOnly s (creditAccount q p s) := by
  unfold creditAccount
  dsimp only
  split
  · exact (setSeat_fare s q _).trans (closeIfPaid_fare q _)
  · exact .refl s

theorem beginCharge_fare (i : Fin 8) (q : Seat) (s : State) : FareOnly s (beginCharge i q s) := by
  unfold beginCharge
  split
  · split
    · exact setPayers_fare s _
    · exact .refl s
  · exact .refl s

theorem endCharge_fare (i : Fin 8) (n : Nat) (full : Bool) (s : State) :
    FareOnly s (endCharge i n full s) := by
  unfold endCharge
  split
  · split
    · exact setPayers_fare s _
    · exact .refl s
  · exact .refl s

theorem settlePayer_fare (i : Fin 8) (n : Nat) (s : State) : FareOnly s (settlePayer i n s) := by
  unfold settlePayer
  split
  · split
    · exact setPayers_fare s _
    · exact .refl s
  · exact .refl s

theorem setCharge_fare (q : Seat) (c : Option Charge) (e : Option Tag) (s : State) :
    FareOnly s (setCharge q c e s) := (setCharges_fare s _).trans (setTags_fare _ _)

theorem startCharge_fare (q : Seat) (i : Fin 8) (p : Payer) (r : Nat) (s : State) :
    FareOnly s (startCharge q i p r s) :=
  ((((setTags_fare s _).trans (send_only _ _ _).fare).trans (setCharge_fare _ _ _ _)).trans
    (beginCharge_fare i q _)).trans (enterPaying_fare q _)

theorem settle_fare (q : Seat) (i : Fin 8) (p : Payer) (n : Nat) (s : State) :
    FareOnly s (settle q i p n s) := (settlePayer_fare _ _ s).trans (creditAccount_fare _ _ _)

theorem passSeat_fare (q : Seat) (fuel : Nat) (s : State) : FareOnly s (passSeat q fuel s) := by
  induction fuel generalizing s with
  | zero => exact .refl s
  | succ n ih =>
    unfold passSeat
    split
    · exact .refl s
    · split
      · exact startCharge_fare _ _ _ _ s
      · exact (settle_fare _ _ _ _ s).trans (ih _)

/-- All that a charge-start pass can change (R98). -/
theorem chargePass_fare (s : State) : FareOnly s (chargePass s) :=
  (((passSeat_fare .one _ s).trans (passSeat_fare .two _ _)).trans (passSeat_fare .three _ _)).trans
    (passSeat_fare .four _ _)

theorem passAndCompare_fare (s : State) : FareOnly s (passAndCompare s) :=
  (chargePass_fare s).trans (compareIfChanged_only _ _).fare

theorem passIfDue_fare (q : Seat) (s : State) : FareOnly s (passIfDue q s) := by
  unfold passIfDue
  split
  · exact chargePass_fare s
  · exact .refl s

theorem endWithoutResult_fare (q : Seat) (s : State) : FareOnly s (endWithoutResult q s) := by
  unfold endWithoutResult
  split
  · exact ((((((setCharge_fare _ _ _ s).trans (setTags_fare _ _)).trans (send_only _ _ _).fare).trans
      (endCharge_fare _ _ _ _)).trans (leavePaying_fare q _)).trans (chargePass_fare _)).trans
      (compareDisplays_only _).fare
  · exact .refl s

/-- All that a STOP of a HIRED seat can change (R44). -/
theorem stopSeat_fare (q : Seat) (s : State) : FareOnly s (stopSeat q s) :=
  (((changeSeat_fare q _ s).trans (closeIfPaid_fare q _)).trans (chargePass_fare _)).trans
    (compareDisplays_only _).fare

theorem addExtra_fare (q : Seat) (k : ExtraKind) (n : Nat) (s : State) :
    FareOnly s (addExtra q k n s) := by
  unfold addExtra
  dsimp only
  refine FareOnly.trans ?_ (compareIfChanged_only s _).fare
  split
  · exact (setSeat_fare s q _).trans (chargePass_fare _)
  · exact setSeat_fare s q _

theorem creditCash_fare (q : Seat) (p : Payment) (s : State) : FareOnly s (creditCash q p s) :=
  (((setSeat_fare s q _).trans (closeIfPaid_fare q _)).trans (passIfDue_fare q _)).trans
    (compareDisplays_only _).fare

/-- An examination passes only on a DUE seat that owes something and has room for a payment, against
the payer that serves it, which is IDLE and has a limit left (R99). -/
theorem examine_some {s : State} {q : Seat} {i : Fin 8} {p : Payer} (h : examine s q = some (i, p)) :
    (s.seat q).state = .due ∧ 0 < (s.seat q).due ∧ (s.seat q).payments.length < paymentPlaces ∧
      resolve s.payers q = some i ∧ s.payers.get i = some p ∧ p.charging = none ∧
      0 < p.remaining ∧ readerReady s p = true := by
  unfold examine at h
  dsimp only at h
  split at h
  · rename_i hs
    split at h
    · cases h
    · split at h
      · cases h
      · split at h
        · rename_i hc
          cases h
          exact ⟨hs.1, hs.2.1, hs.2.2, by assumption, by assumption, hc.1, hc.2.1, hc.2.2⟩
        · cases h
  · cases h

/-- A pass at a seat whose examination fails changes nothing (R98, R99). -/
theorem passSeat_of_examine_none {s : State} {q : Seat} (h : examine s q = none) (n : Nat) :
    passSeat q n s = s := by
  cases n with
  | zero => rfl
  | succ n => simp [passSeat, h]

/-- A pass that finds no seat to charge changes nothing (R98). -/
theorem chargePass_of_none {s : State} (h : ∀ q, examine s q = none) : chargePass s = s := by
  simp [chargePass, allSeats, passSeat_of_examine_none (h _)]

end Sys2Proof.Machine
end

