-- ==== Sys2Proof/Laws/Hold.lean ====
section
/-! SUPPORT. What a raise, an entry to HELD and a computation of the sign state can do (R144, R155,
R156). -/

namespace Sys2Proof.Machine

/-- A computation of the sign state changes the lamp channels alone. -/
theorem computeSign_only (s : State) :
    ∃ l, computeSign s = s.setSign { s.sign with lamps := l } := ⟨_, rfl⟩

/-- `t` is `s` but for the hold monitor, the sign, the accounts, the transmit queue, the
answer-pending mark and the display copies. -/
structure RaiseOnly (s t : State) : Prop where
  pins : t.pins = s.pins
  start : t.start = s.start
  markerValid : t.markerValid = s.markerValid
  clock : t.clock = s.clock
  tamperFilter : t.tamperFilter = s.tamperFilter
  seats : t.seats = s.seats
  tags : t.tags = s.tags
  tariff : t.tariff = s.tariff
  band : t.band = s.band
  motion : t.motion = s.motion
  payers : t.payers = s.payers
  charges : t.charges = s.charges
  intercom : t.intercom = s.intercom
  draws : t.draws = s.draws
  pending : t.pending = s.pending
  roster : t.line.roster = s.line.roster
  fifo : t.line.fifo = s.line.fifo
  resetTimer : t.line.resetTimer = s.line.resetTimer
  transmitting : t.line.transmitting = s.line.transmitting
  statusTimer : t.line.statusTimer = s.line.statusTimer

theorem RaiseOnly.refl (s : State) : RaiseOnly s s := by constructor <;> rfl

theorem RaiseOnly.trans {s t u : State} (h : RaiseOnly s t) (k : RaiseOnly t u) : RaiseOnly s u where
  pins := k.pins.trans h.pins
  start := k.start.trans h.start
  markerValid := k.markerValid.trans h.markerValid
  clock := k.clock.trans h.clock
  tamperFilter := k.tamperFilter.trans h.tamperFilter
  seats := k.seats.trans h.seats
  tags := k.tags.trans h.tags
  tariff := k.tariff.trans h.tariff
  band := k.band.trans h.band
  motion := k.motion.trans h.motion
  payers := k.payers.trans h.payers
  charges := k.charges.trans h.charges
  intercom := k.intercom.trans h.intercom
  draws := k.draws.trans h.draws
  pending := k.pending.trans h.pending
  roster := k.roster.trans h.roster
  fifo := k.fifo.trans h.fifo
  resetTimer := k.resetTimer.trans h.resetTimer
  transmitting := k.transmitting.trans h.transmitting
  statusTimer := k.statusTimer.trans h.statusTimer

theorem QueueOnly.raise {s t : State} (h : QueueOnly s t) : RaiseOnly s t where
  pins := h.pins
  start := h.start
  markerValid := h.markerValid
  clock := h.clock
  tamperFilter := h.tamperFilter
  seats := h.seats
  tags := h.tags
  tariff := h.tariff
  band := h.band
  motion := h.motion
  payers := h.payers
  charges := h.charges
  intercom := h.intercom
  draws := h.draws
  pending := h.pending
  roster := h.roster
  fifo := h.fifo
  resetTimer := h.resetTimer
  transmitting := h.transmitting
  statusTimer := h.statusTimer

theorem computeSign_raise (s : State) : RaiseOnly s (computeSign s) := by constructor <;> rfl

theorem countHold_raise (s : State) : RaiseOnly s (countHold s) := by
  unfold countHold
  dsimp only
  split
  · exact .refl s
  · constructor <;> rfl

theorem setHold_raise (s : State) (h : Hold) : RaiseOnly s (s.setHold h) := by
  constructor <;> rfl

theorem setMonitor_raise (s : State) (m : Monitor) : RaiseOnly s (s.setMonitor m) := by
  constructor <;> rfl

theorem enterHeld_raise (c : Cause) (src : Nat) (s : State) : RaiseOnly s (enterHeld c src s) :=
  ((((setHold_raise s _).trans (send_only _ _ _).raise).trans (queueStatus_only _).raise).trans
    (computeSign_raise _)).trans (countHold_raise _)

/-- All that a raise can change (R155). -/
theorem raiseCause_raise (c : Cause) (src : Nat) (s : State) : RaiseOnly s (raiseCause c src s) := by
  have m : RaiseOnly s (markRaised c src s) := (setHold_raise s _).trans (setMonitor_raise _ _)
  unfold raiseCause
  dsimp only
  split
  · exact m
  · split
    · exact m.trans (enterHeld_raise _ _ _)
    · split
      · exact m.trans (setHold_raise _ _)
      · exact m

end Sys2Proof.Machine
end

