-- ==== Sys2Proof/Laws/Intake.lean ====
section
/-! SUPPORT. What the command intake and the console's commands can do (R196, R197): taking a command
from an empty FIFO, an induction over the commands an event lets be taken, and what no command
changes. -/

namespace Sys2Proof.Machine

/-! ### The FIFO -/

/-- With an empty FIFO no command is taken. -/
theorem takeCommands_of_empty {v : Option Bool} {s : State} (h : s.line.fifo = []) :
    takeCommands v s = s := by
  simp [takeCommands, h, drain]

/-- While an answer is pending, or a RESET awaits its start, no command is taken (R197). -/
theorem takeCommands_of_blocked {v : Option Bool} {s : State} (h : canTake s = false) :
    takeCommands v s = s := by
  unfold takeCommands
  cases s.line.fifo.length <;> simp [drain, h]

/-- A COMMAND that finds the FIFO empty, the mark clear and no RESET waiting is taken at once (R197). -/
theorem takeCommands_arrive {v : Option Bool} {s : State} {e : FifoEntry} (h : s.line.fifo = [])
    (c : canTake s = true) : takeCommands v (arrive e s) = takeEntry v e s := by
  have a : arrive e s = s.setLine { s.line with fifo := [e] } := by
    simp [arrive, h, fifoPlaces]
  have r : ∀ l : Line, (s.setLine l).setLine { l with fifo := [] } =
      s.setLine { l with fifo := [] } := fun _ => rfl
  have z : s.setLine { s.line with fifo := [] } = s := by
    simp only [State.setLine, ← h]
  have k : canTake (s.setLine { s.line with fifo := [e] }) = true := c
  rw [a]
  unfold takeCommands drain
  simp only [State.setLine_line, List.length_cons, List.length_nil, k, if_true]
  exact congrArg (takeEntry v e) z

/-- What every command taken keeps, an event's taking of commands keeps. -/
theorem drain_induct {P : State → Prop} {v : Option Bool}
    (step : ∀ (e : FifoEntry) (rest : List FifoEntry) (s : State), P s → s.line.fifo = e :: rest →
      canTake s = true → P (takeEntry v e (s.setLine { s.line with fifo := rest }))) :
    ∀ (n : Nat) (s : State), P s → P (drain v n s) := by
  intro n
  induction n with
  | zero => exact fun s h => h
  | succ n ih =>
    intro s h
    unfold drain
    split
    · rename_i c
      split
      · exact h
      · rename_i e rest f
        exact ih _ (step e rest s h f c)
    · exact h

/-- The RESULT to a full COMMAND joins a queue that has room, and the mark is set (R197). -/
theorem answerCommand_room {e : FifoEntry} {x : State × Reply} (p : 2 ≤ e.payload.length)
    (h : x.1.line.queue.length < queuePlaces) :
    answerCommand e x = x.1.setLine { x.1.line with
      answerPending := true,
      queue := insertByClass (resultFrame e x.2 true x.1.draws) x.1.line.queue } := by
  unfold answerCommand drawEcho
  have q : ¬ e.payload.length < 2 := by omega
  dsimp only
  rw [if_neg q, enqueue_room rfl (by simpa using h)]
  rfl

/-! ### What no console command changes -/

/-- `t` has the pins, the supplies, the image in force, the motion unit, the roster and the model's own
fields of `s`. -/
structure CommandOnly (s t : State) : Prop where
  pins : t.pins = s.pins
  start : t.start = s.start
  markerValid : t.markerValid = s.markerValid
  tamperFilter : t.tamperFilter = s.tamperFilter
  tariff : t.tariff = s.tariff
  motion : t.motion = s.motion
  pending : t.pending = s.pending
  draws : t.draws = s.draws
  roster : t.line.roster = s.line.roster
  fifo : t.line.fifo = s.line.fifo
  transmitting : t.line.transmitting = s.line.transmitting
  statusTimer : t.line.statusTimer = s.line.statusTimer

theorem CommandOnly.refl (s : State) : CommandOnly s s := by constructor <;> rfl

theorem CommandOnly.trans {s t u : State} (h : CommandOnly s t) (k : CommandOnly t u) :
    CommandOnly s u where
  pins := k.pins.trans h.pins
  start := k.start.trans h.start
  markerValid := k.markerValid.trans h.markerValid
  tamperFilter := k.tamperFilter.trans h.tamperFilter
  tariff := k.tariff.trans h.tariff
  motion := k.motion.trans h.motion
  pending := k.pending.trans h.pending
  draws := k.draws.trans h.draws
  roster := k.roster.trans h.roster
  fifo := k.fifo.trans h.fifo
  transmitting := k.transmitting.trans h.transmitting
  statusTimer := k.statusTimer.trans h.statusTimer

theorem FareOnly.command {s t : State} (h : FareOnly s t) : CommandOnly s t where
  pins := h.pins
  start := h.start
  markerValid := h.markerValid
  tamperFilter := h.tamperFilter
  tariff := h.tariff
  motion := h.motion
  pending := h.pending
  draws := h.draws
  roster := h.roster
  fifo := h.fifo
  transmitting := h.transmitting
  statusTimer := h.statusTimer

theorem RaiseOnly.command {s t : State} (h : RaiseOnly s t) : CommandOnly s t where
  pins := h.pins
  start := h.start
  markerValid := h.markerValid
  tamperFilter := h.tamperFilter
  tariff := h.tariff
  motion := h.motion
  pending := h.pending
  draws := h.draws
  roster := h.roster
  fifo := h.fifo
  transmitting := h.transmitting
  statusTimer := h.statusTimer

theorem setClock_command (s : State) (v : Clock) : CommandOnly s (s.setClock v) := by
  constructor <;> rfl

theorem setBand_command (s : State) (v : BandSelector) : CommandOnly s (s.setBand v) := by
  constructor <;> rfl

theorem setSign_command (s : State) (v : Sign) : CommandOnly s (s.setSign v) := by
  constructor <;> rfl

theorem evaluateAuto_command (s : State) : CommandOnly s (evaluateAuto s) := by
  unfold evaluateAuto
  split
  · exact setBand_command s _
  · exact .refl s

theorem selectAuto_command (s : State) : CommandOnly s (selectAuto s) :=
  (setBand_command s _).trans (evaluateAuto_command _)

/-- A command and its reply change no more than `CommandOnly` allows. -/
def ReplyOnly (s : State) (x : State × Reply) : Prop := CommandOnly s x.1

theorem refuse_only (s : State) (c : ResultCode) : ReplyOnly s (refuse s c) := CommandOnly.refl s

theorem read_only (s : State) (d : List Byte) : ReplyOnly s (done s d) := CommandOnly.refl s

theorem done_only {s t : State} (h : CommandOnly s t) (d : List Byte) : ReplyOnly s (done t d) := h

theorem ite_only {s : State} {c : Prop} [Decidable c] {x y : State × Reply} (h : ReplyOnly s x)
    (k : ReplyOnly s y) : ReplyOnly s (if c then x else y) := by
  split <;> assumption

theorem setClockCommand_only (day : Byte) (seconds : Word24) (s : State) :
    ReplyOnly s (setClockCommand day seconds s) :=
  ite_only (refuse_only s _) (ite_only (refuse_only s _)
    (done_only (((setClock_command s _).trans (setMonitor_raise _ _).command).trans
      (evaluateAuto_command _)) _))

theorem setBandCommand_only (n : Byte) (s : State) : ReplyOnly s (setBandCommand n s) :=
  ite_only (refuse_only s _) (ite_only (done_only (selectAuto_command s) _)
    (ite_only (refuse_only s _) (ite_only (refuse_only s _) (done_only (setBand_command s _) _))))

theorem shiftOpenCommand_only (driver : Word24) (s : State) :
    ReplyOnly s (shiftOpenCommand driver s) :=
  ite_only (refuse_only s _) (ite_only (refuse_only s _) (ite_only (refuse_only s _)
    (done_only (changeShift_fare _ s).command _)))

theorem shiftCloseCommand_only (s : State) : ReplyOnly s (shiftCloseCommand s) := by
  unfold shiftCloseCommand
  refine ite_only (refuse_only s _) (done_only ?_ _)
  split
  · exact (closeShift_fare s).command
  · exact (changeShift_fare _ s).command

theorem readTotalsCommand_only (page : Byte) (s : State) : ReplyOnly s (readTotalsCommand page s) :=
  ite_only (refuse_only s _) (ite_only (refuse_only s _) (read_only s _))

theorem readTripCommand_only (n : Word24) (page : Byte) (s : State) :
    ReplyOnly s (readTripCommand n page s) := by
  unfold readTripCommand
  refine ite_only (refuse_only s _) ?_
  split
  · exact refuse_only s _
  · split
    · exact refuse_only s _
    · exact read_only s _

theorem hireCommand_only (seat pool : Byte) (s : State) : ReplyOnly s (hireCommand seat pool s) := by
  unfold hireCommand
  split
  · split
    · exact refuse_only s _
    · exact done_only ((changeSeat_fare _ _ s).trans (compareDisplays_only _).fare).command _
  · exact refuse_only s _

theorem stopCommand_only (seat : Byte) (s : State) : ReplyOnly s (stopCommand seat s) := by
  unfold stopCommand
  split
  · exact refuse_only s _
  · dsimp only
    split
    · exact done_only (stopSeat_fare _ s).command _
    · exact read_only s _
    · exact refuse_only s _
    · exact refuse_only s _

theorem resumeCommand_only (seat : Byte) (s : State) : ReplyOnly s (resumeCommand seat s) := by
  unfold resumeCommand
  split
  · exact refuse_only s _
  · split
    · exact refuse_only s _
    · exact done_only ((changeSeat_fare _ _ s).trans (compareDisplays_only _).fare).command _

theorem cancelCommand_only (seat : Byte) (s : State) : ReplyOnly s (cancelCommand seat s) := by
  unfold cancelCommand
  split
  · exact refuse_only s _
  · exact ite_only (refuse_only s _) (ite_only (refuse_only s _)
      (done_only (((setSeat_fare s _ _).trans (closeSeat_fare _ _ _)).trans
        (compareDisplays_only _).fare).command _))

theorem addExtraCommand_only (seat kind : Byte) (amount : Word24) (s : State) :
    ReplyOnly s (addExtraCommand seat kind amount s) := by
  unfold addExtraCommand
  split
  · exact ite_only (refuse_only s _) (ite_only (refuse_only s _)
      (done_only (addExtra_fare _ _ _ s).command _))
  · exact refuse_only s _

theorem splitExtraCommand_only (kind : Byte) (amount : Word24) (s : State) :
    ReplyOnly s (splitExtraCommand kind amount s) := by
  unfold splitExtraCommand
  dsimp only
  split
  · exact refuse_only s _
  · exact ite_only (refuse_only s _) (ite_only (refuse_only s _)
      (done_only ((setSeats_fare s _).trans (compareIfChanged_only _ _).fare).command _))

theorem cashCommand_only (seat : Byte) (tendered tip : Word24) (s : State) :
    ReplyOnly s (cashCommand seat tendered tip s) := by
  unfold cashCommand
  split
  · exact refuse_only s _
  · refine ite_only (refuse_only s _) ?_
    split
    · exact refuse_only s _
    · exact done_only (creditCash_fare _ _ s).command _

theorem waiveCommand_only (seat : Byte) (s : State) : ReplyOnly s (waiveCommand seat s) := by
  unfold waiveCommand
  split
  · exact refuse_only s _
  · dsimp only
    split
    · exact refuse_only s _
    · exact refuse_only s _
    · exact refuse_only s _
    · exact done_only (((setSeat_fare s _ _).trans (closeSeat_fare _ _ _)).trans
        (compareDisplays_only _).fare).command _

theorem accountMapCommand_only (scope : Byte) (account : Word32) (limit : Word24) (tips : Byte)
    (s : State) : ReplyOnly s (accountMapCommand scope account limit tips s) := by
  unfold accountMapCommand
  split
  · refine ite_only (refuse_only s _) ?_
    split
    · exact refuse_only s _
    · exact done_only ((setPayers_fare s _).trans (passAndCompare_fare _)).command _
  · exact refuse_only s _

theorem unmapCommand_only (index : Byte) (s : State) : ReplyOnly s (unmapCommand index s) := by
  unfold unmapCommand
  split
  · exact refuse_only s _
  · split
    · exact refuse_only s _
    · exact ite_only (refuse_only s _)
        (done_only ((setPayers_fare s _).trans (passAndCompare_fare _)).command _)

theorem flushCommand_only (s : State) : ReplyOnly s (flushCommand s) := by
  unfold flushCommand
  refine done_only ?_ _
  split
  · exact ((setPayers_fare s _).trans (passAndCompare_fare _)).command
  · exact (setPayers_fare s _).command

theorem probeSeatCommand_only (seat : Byte) (s : State) : ReplyOnly s (probeSeatCommand seat s) := by
  unfold probeSeatCommand
  split
  · exact refuse_only s _
  · split
    · exact refuse_only s _
    · split
      · exact refuse_only s _
      · exact read_only s _

theorem probeIndexCommand_only (index : Byte) (s : State) :
    ReplyOnly s (probeIndexCommand index s) := by
  unfold probeIndexCommand
  split
  · exact refuse_only s _
  · split
    · exact refuse_only s _
    · exact read_only s _

theorem abortChargeCommand_only (seat : Byte) (s : State) :
    ReplyOnly s (abortChargeCommand seat s) := by
  unfold abortChargeCommand
  split
  · exact refuse_only s _
  · split
    · split
      · exact done_only (endWithoutResult_fare _ s).command _
      · exact refuse_only s _
    · exact refuse_only s _

theorem intercomMuteCommand_only (seat on : Byte) (s : State) :
    ReplyOnly s (intercomMuteCommand seat on s) := by
  unfold intercomMuteCommand
  split
  · exact ite_only (refuse_only s _) (done_only (changeIntercom_fare _ s).command _)
  · exact done_only (changeIntercom_fare _ s).command _
  · exact refuse_only s _

theorem intercomTargetCommand_only (target : Byte) (s : State) :
    ReplyOnly s (intercomTargetCommand target s) := by
  unfold intercomTargetCommand
  split
  · exact done_only (changeIntercom_fare _ s).command _
  · exact refuse_only s _

theorem signModeCommand_only (mode pool : Byte) (s : State) :
    ReplyOnly s (signModeCommand mode pool s) := by
  unfold signModeCommand
  split
  · exact done_only ((setSign_command s _).trans (computeSign_raise _).command) _
  · exact refuse_only s _

theorem clearCauseCommand_only (cause : Byte) (s : State) :
    ReplyOnly s (clearCauseCommand cause s) := by
  unfold clearCauseCommand
  split
  · exact refuse_only s _
  · exact ite_only (refuse_only s _) (ite_only (refuse_only s _) (ite_only (refuse_only s _)
      (done_only (setHold_raise s _).command _)))

theorem releaseHold_raise (s : State) : RaiseOnly s (releaseHold s) :=
  (((setHold_raise s _).trans (send_only _ _ _).raise).trans (queueStatus_only _).raise).trans
    (computeSign_raise _)

theorem holdReleaseCommand_only (s : State) : ReplyOnly s (holdReleaseCommand s) :=
  ite_only (refuse_only s _) (ite_only (refuse_only s _)
    (done_only (releaseHold_raise s).command _))

theorem readHoldCommand_only (page : Byte) (s : State) : ReplyOnly s (readHoldCommand page s) :=
  ite_only (refuse_only s _) (read_only s _)

/-- What every console command leaves alone. -/
theorem perform_only (src : Nat) (c : Command) (s : State) : ReplyOnly s (perform src c s) := by
  cases c with
  | reset => constructor <;> rfl
  | setClock day seconds => exact setClockCommand_only day seconds s
  | setBand n => exact setBandCommand_only n s
  | shiftOpen driver => exact shiftOpenCommand_only driver s
  | shiftClose => exact shiftCloseCommand_only s
  | readTotals page => exact readTotalsCommand_only page s
  | readTrip n page => exact readTripCommand_only n page s
  | hire seat pool => exact hireCommand_only seat pool s
  | stop seat => exact stopCommand_only seat s
  | resume seat => exact resumeCommand_only seat s
  | cancel seat => exact cancelCommand_only seat s
  | addExtra seat kind amount => exact addExtraCommand_only seat kind amount s
  | splitExtra kind amount => exact splitExtraCommand_only kind amount s
  | cash seat tendered tip => exact cashCommand_only seat tendered tip s
  | waive seat => exact waiveCommand_only seat s
  | accountMap scope account limit tips => exact accountMapCommand_only scope account limit tips s
  | unmap index => exact unmapCommand_only index s
  | flush => exact flushCommand_only s
  | probeSeat seat => exact probeSeatCommand_only seat s
  | probeIndex index => exact probeIndexCommand_only index s
  | abortCharge seat => exact abortChargeCommand_only seat s
  | intercomMute seat on => exact intercomMuteCommand_only seat on s
  | intercomTarget target => exact intercomTargetCommand_only target s
  | signMode mode pool => exact signModeCommand_only mode pool s
  | holdTrigger => exact (raiseCause_raise _ _ s).command
  | clearCause cause => exact clearCauseCommand_only cause s
  | holdRelease => exact holdReleaseCommand_only s
  | readHold page => exact readHoldCommand_only page s

end Sys2Proof.Machine
end

