-- ==== Sys2Proof/Laws/PerInstr.lean ====
section
/-! SUPPORT. For every command of the table, what it is as syntax: a console command's row is the row of
the payload that spells it and is well formed with the console's sequence numbers; an event is no
console command, and a frame row holds a payload that R187 lets through (R187, R190, R197). -/

namespace Sys2Proof.Laws

open Sys2Proof.Machine

/-- The console command a row stands for, with its sequence number; none for an event. -/
def commandOf : Instr → Option (Byte × Command)
  | .reset seq => some (seq, .reset)
  | .setClock seq day seconds => some (seq, .setClock day seconds)
  | .setBand seq n => some (seq, .setBand n)
  | .shiftOpen seq driver => some (seq, .shiftOpen driver)
  | .shiftClose seq => some (seq, .shiftClose)
  | .readTotals seq page => some (seq, .readTotals page)
  | .readTrip seq n page => some (seq, .readTrip n page)
  | .hire seq seat pool => some (seq, .hire seat pool)
  | .stop seq seat => some (seq, .stop seat)
  | .resume seq seat => some (seq, .resume seat)
  | .cancel seq seat => some (seq, .cancel seat)
  | .addExtra seq seat kind amount => some (seq, .addExtra seat kind amount)
  | .splitExtra seq kind amount => some (seq, .splitExtra kind amount)
  | .cash seq seat tendered tip => some (seq, .cash seat tendered tip)
  | .waive seq seat => some (seq, .waive seat)
  | .accountMap seq scope account limit tips => some (seq, .accountMap scope account limit tips)
  | .unmap seq index => some (seq, .unmap index)
  | .flush seq => some (seq, .flush)
  | .probeSeat seq seat => some (seq, .probeSeat seat)
  | .probeIndex seq index => some (seq, .probeIndex index)
  | .abortCharge seq seat => some (seq, .abortCharge seat)
  | .intercomMute seq seat on => some (seq, .intercomMute seat on)
  | .intercomTarget seq target => some (seq, .intercomTarget target)
  | .signMode seq mode pool => some (seq, .signMode mode pool)
  | .holdTrigger seq => some (seq, .holdTrigger)
  | .clearCause _ seq cause => some (seq, .clearCause cause)
  | .holdRelease seq => some (seq, .holdRelease)
  | .readHold _ seq page => some (seq, .readHold page)
  | .pgoodRise | .pgoodFall | .rstAssert | .rstRelease | .vbakLoss | .imageReadTimeout
  | .loadCompletion _ | .resetTimerExpiry | .clockTick | .minuteBoundary | .pulseChange _
  | .settledEdge | .intervalExpiry | .tamperChange _ | .tamperSettled | .lineIdle _
  | .transmissionComplete | .transmissionAbandoned | .frameDiscarded _
  | .frameToOtherStation _ _ _ | .command _ _ _ | .talk _ _ | .cardPresented _ _
  | .chargeResult _ _ | .navReport _ _ | .faultReport _ _ | .heartbeat _ _ | .presenceTimeout _
  | .statusTimerExpiry | .chargeTimerExpiry _ | .pressLapse _ | .guardExpiry | .talkLimitExpiry
  | .lampPeriodBoundary _ => none

/-- The payload a frame row holds. -/
def framePayload : Instr → Option (List Byte)
  | .frameToOtherStation _ _ p | .command _ _ p | .talk _ p | .cardPresented _ p | .chargeResult _ p
  | .navReport _ p | .faultReport _ p | .heartbeat _ p => some p
  | .pgoodRise | .pgoodFall | .rstAssert | .rstRelease | .vbakLoss | .imageReadTimeout
  | .loadCompletion _ | .resetTimerExpiry | .clockTick | .minuteBoundary | .pulseChange _
  | .settledEdge | .intervalExpiry | .tamperChange _ | .tamperSettled | .lineIdle _
  | .transmissionComplete | .transmissionAbandoned | .frameDiscarded _ | .presenceTimeout _
  | .statusTimerExpiry | .chargeTimerExpiry _ | .pressLapse _ | .guardExpiry | .talkLimitExpiry
  | .lampPeriodBoundary _ | .reset _ | .setClock _ _ _ | .setBand _ _ | .shiftOpen _ _
  | .shiftClose _ | .readTotals _ _ | .readTrip _ _ _ | .hire _ _ _ | .stop _ _ | .resume _ _
  | .cancel _ _ | .addExtra _ _ _ _ | .splitExtra _ _ _ | .cash _ _ _ _ | .waive _ _
  | .accountMap _ _ _ _ _ | .unmap _ _ | .flush _ | .probeSeat _ _ | .probeIndex _ _
  | .abortCharge _ _ | .intercomMute _ _ _ | .intercomTarget _ _ | .signMode _ _ _
  | .holdTrigger _ | .clearCause _ _ _ | .holdRelease _ | .readHold _ _ _ => none

namespace Coding

/-- A console row is the row of its command: its payload fits a frame and its code is 1 to 28, and it
is well formed exactly with a sequence number the console uses. An event is the row of no command, and
a well-formed frame row holds at most 16 bytes. -/
def Statement (i : Instr) : Prop :=
  (∀ seq c, commandOf i = some (seq, c) →
    (∃ service, i = rowOf service seq c) ∧ (commandPayload seq c).length ≤ 16 ∧
    1 ≤ c.code.toNat ∧ c.code.toNat ≤ 28 ∧ (i.wf = true ↔ seq.toNat ≤ 15)) ∧
  (commandOf i = none → ∀ service seq c, i ≠ rowOf service seq c) ∧
  (∀ p, framePayload i = some p → i.wf = true → p.length ≤ 16)

/-- The statement for an event that is no frame. -/
theorem of_event {i : Instr} (h : commandOf i = none) (k : framePayload i = none) : Statement i := by
  refine ⟨by simp [h], ?_, by simp [k]⟩
  rintro _ service seq c rfl
  cases c <;> simp [commandOf, rowOf] at h

/-- The statement for a frame row. -/
theorem of_frame {i : Instr} {p : List Byte} (h : commandOf i = none) (k : framePayload i = some p)
    (w : i.wf = true → p.length ≤ 16) : Statement i := by
  refine ⟨by simp [h], ?_, by simpa [k] using w⟩
  rintro _ service seq c rfl
  cases c <;> simp [commandOf, rowOf] at h

/-- The statement for a console command's row. -/
theorem of_command {i : Instr} {seq : Byte} {c : Command} {service : Bool}
    (h : commandOf i = some (seq, c)) (e : i = rowOf service seq c) (w : i.wf = seqWf seq) :
    Statement i := by
  refine ⟨?_, by simp [h], ?_⟩
  · intro q d k
    rw [h] at k
    cases k
    refine ⟨⟨service, e⟩, ?_, ?_, ?_, by simp [w, seqWf]⟩
    · cases c <;> simp [commandPayload, Command.args, split24, split32]
    · cases c <;> simp [Command.code]
    · cases c <;> simp [Command.code]
  · subst e
    cases c <;> simp [framePayload, rowOf]

theorem pgoodRise : Statement (.pgoodRise) :=
  of_event rfl rfl

theorem pgoodFall : Statement (.pgoodFall) :=
  of_event rfl rfl

theorem rstAssert : Statement (.rstAssert) :=
  of_event rfl rfl

theorem rstRelease : Statement (.rstRelease) :=
  of_event rfl rfl

theorem vbakLoss : Statement (.vbakLoss) :=
  of_event rfl rfl

theorem imageReadTimeout : Statement (.imageReadTimeout) :=
  of_event rfl rfl

theorem loadCompletion (image : List Byte) : Statement (.loadCompletion image) :=
  of_event rfl rfl

theorem resetTimerExpiry : Statement (.resetTimerExpiry) :=
  of_event rfl rfl

theorem clockTick : Statement (.clockTick) :=
  of_event rfl rfl

theorem minuteBoundary : Statement (.minuteBoundary) :=
  of_event rfl rfl

theorem pulseChange (level : Level) : Statement (.pulseChange level) :=
  of_event rfl rfl

theorem settledEdge : Statement (.settledEdge) :=
  of_event rfl rfl

theorem intervalExpiry : Statement (.intervalExpiry) :=
  of_event rfl rfl

theorem tamperChange (asserted : Bool) : Statement (.tamperChange asserted) :=
  of_event rfl rfl

theorem tamperSettled : Statement (.tamperSettled) :=
  of_event rfl rfl

theorem lineIdle (others : List Contender) : Statement (.lineIdle others) :=
  of_event rfl rfl

theorem transmissionComplete : Statement (.transmissionComplete) :=
  of_event rfl rfl

theorem transmissionAbandoned : Statement (.transmissionAbandoned) :=
  of_event rfl rfl

theorem frameDiscarded (bytes : List Byte) : Statement (.frameDiscarded bytes) :=
  of_event rfl rfl

theorem frameToOtherStation (kind : BitVec 6) (h : Header) (payload : List Byte) :
    Statement (.frameToOtherStation kind h payload) :=
  of_frame rfl rfl (by simp [Instr.wf, payloadWf])

theorem command (service : Bool) (h : Header) (payload : List Byte) :
    Statement (.command service h payload) :=
  of_frame rfl rfl (by simp [Instr.wf, payloadWf])

theorem talk (h : Header) (payload : List Byte) : Statement (.talk h payload) :=
  of_frame rfl rfl (by simp [Instr.wf, payloadWf])

theorem cardPresented (h : Header) (payload : List Byte) : Statement (.cardPresented h payload) :=
  of_frame rfl rfl (by simp [Instr.wf, payloadWf])

theorem chargeResult (h : Header) (payload : List Byte) : Statement (.chargeResult h payload) :=
  of_frame rfl rfl (by simp [Instr.wf, payloadWf])

theorem navReport (h : Header) (payload : List Byte) : Statement (.navReport h payload) :=
  of_frame rfl rfl (by simp [Instr.wf, payloadWf])

theorem faultReport (h : Header) (payload : List Byte) : Statement (.faultReport h payload) :=
  of_frame rfl rfl (by simp [Instr.wf, payloadWf])

theorem heartbeat (h : Header) (payload : List Byte) : Statement (.heartbeat h payload) :=
  of_frame rfl rfl (by simp [Instr.wf, payloadWf])

theorem presenceTimeout (station : BitVec 6) : Statement (.presenceTimeout station) :=
  of_event rfl rfl

theorem statusTimerExpiry : Statement (.statusTimerExpiry) :=
  of_event rfl rfl

theorem chargeTimerExpiry (seat : Seat) : Statement (.chargeTimerExpiry seat) :=
  of_event rfl rfl

theorem pressLapse (key : PressKey) : Statement (.pressLapse key) :=
  of_event rfl rfl

theorem guardExpiry : Statement (.guardExpiry) :=
  of_event rfl rfl

theorem talkLimitExpiry : Statement (.talkLimitExpiry) :=
  of_event rfl rfl

theorem lampPeriodBoundary (sense : BitVec 8) : Statement (.lampPeriodBoundary sense) :=
  of_event rfl rfl

theorem reset (seq : Byte) : Statement (.reset seq) :=
  of_command (service := false) rfl rfl rfl

theorem setClock (seq day : Byte) (seconds : Word24) : Statement (.setClock seq day seconds) :=
  of_command (service := false) rfl rfl rfl

theorem setBand (seq n : Byte) : Statement (.setBand seq n) :=
  of_command (service := false) rfl rfl rfl

theorem shiftOpen (seq : Byte) (driver : Word24) : Statement (.shiftOpen seq driver) :=
  of_command (service := false) rfl rfl rfl

theorem shiftClose (seq : Byte) : Statement (.shiftClose seq) :=
  of_command (service := false) rfl rfl rfl

theorem readTotals (seq page : Byte) : Statement (.readTotals seq page) :=
  of_command (service := false) rfl rfl rfl

theorem readTrip (seq : Byte) (n : Word24) (page : Byte) : Statement (.readTrip seq n page) :=
  of_command (service := false) rfl rfl rfl

theorem hire (seq seat pool : Byte) : Statement (.hire seq seat pool) :=
  of_command (service := false) rfl rfl rfl

theorem stop (seq seat : Byte) : Statement (.stop seq seat) :=
  of_command (service := false) rfl rfl rfl

theorem resume (seq seat : Byte) : Statement (.resume seq seat) :=
  of_command (service := false) rfl rfl rfl

theorem cancel (seq seat : Byte) : Statement (.cancel seq seat) :=
  of_command (service := false) rfl rfl rfl

theorem addExtra (seq seat kind : Byte) (amount : Word24) :
    Statement (.addExtra seq seat kind amount) :=
  of_command (service := false) rfl rfl rfl

theorem splitExtra (seq kind : Byte) (amount : Word24) : Statement (.splitExtra seq kind amount) :=
  of_command (service := false) rfl rfl rfl

theorem cash (seq seat : Byte) (tendered tip : Word24) : Statement (.cash seq seat tendered tip) :=
  of_command (service := false) rfl rfl rfl

theorem waive (seq seat : Byte) : Statement (.waive seq seat) :=
  of_command (service := false) rfl rfl rfl

theorem accountMap (seq scope : Byte) (account : Word32) (limit : Word24) (tips : Byte) :
    Statement (.accountMap seq scope account limit tips) :=
  of_command (service := false) rfl rfl rfl

theorem unmap (seq index : Byte) : Statement (.unmap seq index) :=
  of_command (service := false) rfl rfl rfl

theorem flush (seq : Byte) : Statement (.flush seq) :=
  of_command (service := false) rfl rfl rfl

theorem probeSeat (seq seat : Byte) : Statement (.probeSeat seq seat) :=
  of_command (service := false) rfl rfl rfl

theorem probeIndex (seq index : Byte) : Statement (.probeIndex seq index) :=
  of_command (service := false) rfl rfl rfl

theorem abortCharge (seq seat : Byte) : Statement (.abortCharge seq seat) :=
  of_command (service := false) rfl rfl rfl

theorem intercomMute (seq seat on : Byte) : Statement (.intercomMute seq seat on) :=
  of_command (service := false) rfl rfl rfl

theorem intercomTarget (seq target : Byte) : Statement (.intercomTarget seq target) :=
  of_command (service := false) rfl rfl rfl

theorem signMode (seq mode pool : Byte) : Statement (.signMode seq mode pool) :=
  of_command (service := false) rfl rfl rfl

theorem holdTrigger (seq : Byte) : Statement (.holdTrigger seq) :=
  of_command (service := false) rfl rfl rfl

theorem clearCause (service : Bool) (seq cause : Byte) :
    Statement (.clearCause service seq cause) :=
  of_command (service := service) rfl rfl rfl

theorem holdRelease (seq : Byte) : Statement (.holdRelease seq) :=
  of_command (service := false) rfl rfl rfl

theorem readHold (service : Bool) (seq page : Byte) : Statement (.readHold service seq page) :=
  of_command (service := service) rfl rfl rfl

end Coding

end Sys2Proof.Laws
end

