-- ==== Sys2Proof/Laws/Raise.lean ====
section
/-! SUPPORT. What a raise leaves of the hold monitor, field by field (R155, R156), and what a frame's
arrival leaves of the frames that were queued (R200). -/

namespace Sys2Proof.Machine

/-! ### A raise (R155, R156) -/

/-- Counting a hold leaves the monitor, the sign and the line as they stood. -/
theorem countHold_frame (s : State) :
    (countHold s).hold = s.hold ∧ (countHold s).monitor = s.monitor ∧
      (countHold s).sign = s.sign ∧ (countHold s).line = s.line := by
  unfold countHold
  dsimp only
  split <;> simp

/-- The hold state after an entry: HELD, the next hold number, the trigger record, the pointer. -/
theorem enterHeld_hold (c : Cause) (src : Nat) (s : State) :
    (enterHeld c src s).hold
      = { s.hold with
          held := true, count := min max24 (s.hold.count + 1), pointer := some c,
          trigger := { cause := some c, source := src, time := s.clock.time,
                       valid := s.clock.valid, number := min max24 (s.hold.count + 1) } } := by
  unfold enterHeld
  dsimp only
  rw [(countHold_frame _).1]
  change (queueStatus _).hold = _
  rw [(queueStatus_only _).hold, (send_only _ _ _).hold]
  rfl

theorem enterHeld_monitor (c : Cause) (src : Nat) (s : State) :
    (enterHeld c src s).monitor = s.monitor := by
  unfold enterHeld
  dsimp only
  rw [(countHold_frame _).2.1]
  change (queueStatus _).monitor = _
  rw [(queueStatus_only _).monitor, (send_only _ _ _).monitor]
  rfl

/-- A raise sets its cause's status, and no other. -/
theorem raiseCause_status (c : Cause) (src : Nat) (s : State) :
    (raiseCause c src s).hold.status = s.hold.status.set c true := by
  unfold raiseCause
  dsimp only
  split
  · rfl
  · split
    · rw [enterHeld_hold]
      rfl
    · split <;> rfl

/-- A raise sets its cause's last source, and nothing else of the monitor. -/
theorem raiseCause_monitor (c : Cause) (src : Nat) (s : State) :
    (raiseCause c src s).monitor
      = { s.monitor with lastSource := s.monitor.lastSource.set c src } := by
  unfold raiseCause
  dsimp only
  split
  · rfl
  · split
    · rw [enterHeld_monitor]
      rfl
    · split <;> rfl

/-- The part is HELD after a raise exactly if it was, or if the cause is unmasked with severity
HOLD. -/
theorem raiseCause_held (c : Cause) (src : Nat) (s : State) :
    (raiseCause c src s).hold.held
      = (s.hold.held || (!s.monitor.masked.get c && !s.monitor.note.get c)) := by
  unfold raiseCause
  dsimp only
  split
  · next h =>
    have h : s.monitor.masked.get c = true := h
    change s.hold.held = _
    simp [h]
  · next h =>
    have h : s.monitor.masked.get c = false := by simpa [markRaised] using h
    split
    · next k =>
      have k : s.monitor.note.get c = false ∧ s.hold.held = false := by
        simpa [markRaised] using k
      rw [enterHeld_hold]
      simp [h, k]
    · next k =>
      have k : s.monitor.note.get c = false → s.hold.held = true := by
        simpa [markRaised] using k
      have e : s.hold.held = (s.hold.held || (!s.monitor.masked.get c && !s.monitor.note.get c)) := by
        cases hl : s.hold.held <;> cases hn : s.monitor.note.get c <;> simp_all
      split <;> exact e

/-! ### Frames in the queue (R200) -/

/-- A frame of the highest class without a coalescing key stays queued whatever arrives. -/
theorem mem_enqueue_of_top {f g : TxFrame} {s : State} (h : g ∈ s.line.queue)
    (k : g.body.cls = 0) (n : g.body.key = none) : g ∈ (enqueue f s).line.queue := by
  unfold enqueue
  split
  · next c =>
    have e : f.body.key ≠ none := by
      simp only [Bool.and_eq_true] at c
      intro e
      simp [e] at c
    change g ∈ replaceKey f _
    unfold replaceKey
    rw [List.mem_map]
    exact ⟨g, h, by simp [n, e.symm]⟩
  · have d : ∀ x u, (discardNotice x u).line.queue = u.line.queue := by
      intro x u
      unfold discardNotice
      split
      · rfl
      · split <;> rfl
      · rfl
    unfold joinQueue
    split
    · exact mem_insertByClass.2 (.inr h)
    · split
      · next y hy =>
        split
        · next lt =>
          rw [d]
          apply mem_insertByClass.2
          right
          have e := List.dropLast_append_getLast? y hy
          rw [← e, List.mem_append] at h
          rcases h with h | h
          · exact h
          · simp only [List.mem_singleton] at h
            subst h
            omega
        · rw [d]
          exact h
      · rw [d]
        exact h

/-- A frame that finds room, or a frame of its key, is in the queue after it arrives. -/
theorem mem_enqueue_self {f : TxFrame} {s : State} (h : s.line.queue.length < queuePlaces) :
    f ∈ (enqueue f s).line.queue := by
  unfold enqueue
  split
  · next c =>
    simp only [Bool.and_eq_true, List.any_eq_true, decide_eq_true_eq] at c
    obtain ⟨_, g, m, e⟩ := c
    change f ∈ replaceKey f _
    unfold replaceKey
    rw [List.mem_map]
    exact ⟨g, m, by simp [e]⟩
  · unfold joinQueue
    rw [if_pos h]
    exact mem_insertByClass.2 (.inl rfl)

end Sys2Proof.Machine
end

