-- ==== Sys2Proof/Laws/Ready.lean ====
section
/-! SUPPORT. A console row in the terms the claims use: what it does while the intake is ready (R197),
what sampling SERVICE and passing a minute can do, and the main domain's loss as one state (R1, R4). -/

namespace Sys2Proof.Machine

/-- A command that does not read SERVICE is performed on the state as it stands. -/
@[simp] theorem withService_unread {v : Option Bool} {c : Command} (h : readsService c = false)
    (s : State) : withService v c s = s := by simp [withService, h]

/-- A command that reads SERVICE is performed on the state with the level that the row carries. -/
@[simp] theorem withService_read {b : Bool} {c : Command} (h : readsService c = true) (s : State) :
    withService (some b) c s = s.setPins { s.pins with service := b } := by
  simp [withService, h, sampleService]

/-- At a row that carries no level, a command that reads SERVICE is performed with a free value. -/
@[simp] theorem withService_free {c : Command} (h : readsService c = true) (s : State) :
    withService none c s
      = (s.setPins { s.pins with service := Config.serviceLevel s.draws }).setDraws (s.draws + 1) := by
  simp [withService, h, sampleService]

/-- All that taking in SERVICE can do: the level held, and at most one free value drawn. -/
theorem withService_eq (v : Option Bool) (c : Command) (s : State) :
    ∃ (level : Bool) (n : Nat), n ≤ 1 ∧
      withService v c s
        = { s with pins := { s.pins with service := level }, draws := s.draws + n } := by
  cases h : readsService c
  · exact ⟨s.pins.service, 0, by omega, by simp [withService, h]⟩
  · cases v with
    | none => exact ⟨Config.serviceLevel s.draws, 1, by omega, by
        simp [withService, h, sampleService, State.setPins, State.setDraws]⟩
    | some b => exact ⟨b, 0, by omega, by simp [withService, h, sampleService, State.setPins]⟩

/-- All that passing the clock's value to the band selector can do: the selected band is evaluated where
the value is a minute boundary, in AUTO, while the main domain runs (R16, R19). -/
theorem passMinute_eq (s : State) :
    passMinute s = { s with band := { s.band with
      selected :=
        if s.start.loaded = true ∧ s.clock.time.seconds % 60 = 0 ∧ s.band.mode = .auto then
          evaluateBand s.tariff s.clock
        else s.band.selected } } := by
  by_cases h : s.start.loaded = true ∧ s.clock.time.seconds % 60 = 0
  · cases m : s.band.mode
    · simp [passMinute, evaluateAuto, h, m, State.setBand]
    · simp [passMinute, evaluateAuto, h, m]
      rw [← m]
  · have k : ¬(s.start.loaded = true ∧ s.clock.time.seconds % 60 = 0 ∧ s.band.mode = .auto) :=
      fun x => h ⟨x.1, x.2.1⟩
    simp [passMinute, h, k]

/-- A row of a ready console is performed at once and answered, its payload spelling its command. -/
theorem consoleRow_ready {v : Option Bool} {s : State} {a : Nat} {seq : Byte} {c : Command}
    (h : ConsoleReady s a) (d : decodeCommand (commandPayload seq c) = some c) :
    consoleRow v seq c s
      = answered a seq c (perform a c (withService v c s)).2.code
          (perform a c (withService v c s)).2.data (perform a c (withService v c s)).1 := by
  have k : canTake s = true := by simp [canTake, h.loaded, h.clear, h.free]
  simp only [consoleRow, h.loaded, if_true, h.listed, takeCommands_arrive h.empty k, takeEntry, d,
    performDecoded, answered, answerCommand, resultFrame, echoByte]
  simp [commandPayload, drawEcho]

/-- The main domain's loss, in one state. -/
theorem stopMain_eq (s : State) : stopMain s = mainLost s := by
  cases h : s.start.loaded <;>
    simp [stopMain, mainLost, handOverTamper, handedOver, h, watchTamper, clearMain, State.reset,
      State.setStart, State.setTamperFilter]

end Sys2Proof.Machine
end

