-- ==== Sys2Proof/Laws/Seats.lean ====
section
/-! SUPPORT. What the tests over all seats and all payer indexes say, and what a seat's change and a
close leave of the seats, the payer map and the accounts (R40, R52, R91, R175, R180). -/

namespace Sys2Proof.Machine

/-! ### Tests over seats and payer indexes -/

/-- Every seat is in the list of all. -/
@[simp] theorem mem_allSeats (q : Seat) : q ∈ allSeats := by cases q <;> simp [allSeats]

/-- Every payer index is in the list of all. -/
@[simp] theorem mem_allIndexes (i : Fin 8) : i ∈ allIndexes := by fin_cases i <;> simp [allIndexes]

/-- Every seat is VACANT. -/
theorem allVacant_iff (v : PerSeat SeatRecord) :
    allVacant v = true ↔ ∀ q, (v.get q).state = .vacant := by
  have h := PerSeat.any_iff (fun r => !r.vacant) v
  unfold allVacant
  rw [Bool.not_eq_true', ← Bool.not_eq_true, h]
  simp [SeatRecord.vacant]

/-- Another seat is occupied. -/
theorem othersOccupied_iff (v : PerSeat SeatRecord) (q : Seat) :
    othersOccupied v q = true ↔ ∃ p, p ≠ q ∧ (v.get p).state ≠ .vacant := by
  simp [othersOccupied, List.any_eq_true, SeatRecord.vacant]

/-- An exclusive seat is occupied. -/
theorem exclusiveOccupied_iff (v : PerSeat SeatRecord) :
    exclusiveOccupied v = true ↔ ∃ p, (v.get p).exclusive = true ∧ (v.get p).state ≠ .vacant := by
  unfold exclusiveOccupied
  rw [PerSeat.any_iff]
  simp [SeatRecord.vacant]

/-- No seat is HIRED. -/
theorem riders_eq_zero (v : PerSeat SeatRecord) :
    riders v = 0 ↔ ∀ q, (v.get q).state ≠ .hired := by
  have h : ∀ b : Bool, b.toNat = 0 ↔ b = false := by decide
  simp only [riders, PerSeat.count, Nat.add_eq_zero_iff, h, SeatRecord.hired, decide_eq_false_iff_not]
  constructor
  · rintro ⟨⟨⟨a, b⟩, c⟩, d⟩ q
    cases q <;> assumption
  · intro k
    exact ⟨⟨⟨k .one, k .two⟩, k .three⟩, k .four⟩

/-- A scope's payer, if one is found, has the scope. -/
theorem findScope_some {m : PayerMap} {sc : Scope} {i : Fin 8} (h : findScope m sc = some i) :
    ∃ p, m.get i = some p ∧ p.scope = sc := by
  have k := List.find?_some h
  simpa [Option.any_eq_true] using k

/-- No payer of a scope is found exactly if none has it. -/
theorem findScope_eq_none {m : PayerMap} {sc : Scope} :
    findScope m sc = none ↔ ∀ i p, m.get i = some p → p.scope ≠ sc := by
  unfold findScope
  rw [List.find?_eq_none]
  constructor
  · intro h i p hp e
    have k := h i (mem_allIndexes i)
    simp [hp, e] at k
  · intro h i _
    cases hp : m.get i with
    | none => simp
    | some p => simpa [hp] using h i p hp

/-- Without a payer no seat can be charged, and a pass changes nothing (R98, R99). -/
theorem chargePass_of_no_payer {s : State} (h : s.payers = indexesOf none) : chargePass s = s := by
  apply chargePass_of_none
  intro q
  have n : ∀ sc, findScope (indexesOf none) sc = none := fun sc => by
    rw [findScope_eq_none]
    intro i p hp
    simp at hp
  simp [examine, h, resolve, n]

/-! ### What a seat's change leaves (R40) -/

theorem changeIntercom_seats (f : Intercom → Intercom) (s : State) :
    (changeIntercom f s).seats = s.seats := by
  unfold changeIntercom
  dsimp only
  split
  · rfl
  · exact (send_only _ _ _).seats

theorem changeIntercom_payers (f : Intercom → Intercom) (s : State) :
    (changeIntercom f s).payers = s.payers := by
  unfold changeIntercom
  dsimp only
  split
  · rfl
  · exact (send_only _ _ _).payers

theorem changeIntercom_accounts (f : Intercom → Intercom) (s : State) :
    (changeIntercom f s).accounts = s.accounts := by
  unfold changeIntercom
  dsimp only
  split
  · rfl
  · exact (send_only _ _ _).accounts

theorem occupancyNotice_seats (q : Seat) (w : Bool) (s : State) :
    (occupancyNotice q w s).seats = s.seats := by
  unfold occupancyNotice
  split
  · rfl
  · split <;> exact changeIntercom_seats _ _

theorem occupancyNotice_payers (q : Seat) (w : Bool) (s : State) :
    (occupancyNotice q w s).payers = s.payers := by
  unfold occupancyNotice
  split
  · rfl
  · split <;> exact changeIntercom_payers _ _

theorem occupancyNotice_accounts (q : Seat) (w : Bool) (s : State) :
    (occupancyNotice q w s).accounts = s.accounts := by
  unfold occupancyNotice
  split
  · rfl
  · split <;> exact changeIntercom_accounts _ _

/-- A seat's change sets that seat's record and no other. -/
theorem changeSeat_seats (q : Seat) (r : SeatRecord) (s : State) :
    (changeSeat q r s).seats = s.seats.set q r := by
  change (queueStatus _).seats = _
  rw [(queueStatus_only _).seats, occupancyNotice_seats]
  rfl

theorem changeSeat_payers (q : Seat) (r : SeatRecord) (s : State) :
    (changeSeat q r s).payers = s.payers := by
  change (queueStatus _).payers = _
  rw [(queueStatus_only _).payers, occupancyNotice_payers]
  rfl

theorem changeSeat_accounts (q : Seat) (r : SeatRecord) (s : State) :
    (changeSeat q r s).accounts = s.accounts := by
  change (queueStatus _).accounts = _
  rw [(queueStatus_only _).accounts, occupancyNotice_accounts]
  rfl

/-! ### What a change of the shift and a close leave (R52, R174, R175) -/

/-- A change of the shift sets the shift record of the accounts. -/
theorem changeShift_accounts (sh : Shift) (s : State) :
    (changeShift sh s).accounts = { s.accounts with shift := sh } := by
  change (queueStatus _).accounts = _
  rw [(queueStatus_only _).accounts]
  rfl

theorem closeShift_accounts (s : State) :
    (closeShift s).accounts
      = { s.accounts with
          shift := { s.accounts.shift with
            state := .closed, closeClock := some s.clock.time } } := by
  change (queueReport _).accounts = _
  rw [(queueReport_only _).accounts, changeShift_accounts]

theorem startClosing_accounts (s : State) :
    (startClosing s).accounts
      = { s.accounts with shift := { s.accounts.shift with state := .closing } } :=
  changeShift_accounts _ _

/-- After a trip, the accounts may have another shift state and closing clock, and nothing else. -/
theorem afterTrip_accounts (o : Bool) (s : State) :
    ∃ st cc, (afterTrip o s).accounts
      = { s.accounts with shift := { s.accounts.shift with state := st, closeClock := cc } } := by
  unfold afterTrip
  dsimp only
  split
  · exact ⟨_, _, rfl⟩
  · split
    · exact ⟨_, _, rfl⟩
    · rw [closeShift_accounts]
      exact ⟨_, _, rfl⟩
  · split
    · split
      · rw [startClosing_accounts]
        exact ⟨_, _, rfl⟩
      · rw [closeShift_accounts, startClosing_accounts]
        exact ⟨_, _, rfl⟩
    · exact ⟨_, _, rfl⟩

theorem afterTrip_seats (o : Bool) (s : State) : (afterTrip o s).seats = s.seats := by
  have c : ∀ sh u, (changeShift sh u).seats = u.seats := fun sh u => by
    change (queueStatus _).seats = _
    rw [(queueStatus_only _).seats]
    rfl
  have l : ∀ u, (closeShift u).seats = u.seats := fun u => by
    change (queueReport _).seats = _
    rw [(queueReport_only _).seats, c]
  have b : ∀ u, (startClosing u).seats = u.seats := fun u => c _ _
  unfold afterTrip
  dsimp only
  split
  · rfl
  · split
    · rfl
    · exact l _
  · split
    · split
      · exact b _
      · rw [l, b]
    · rfl

theorem afterTrip_payers (o : Bool) (s : State) : (afterTrip o s).payers = s.payers := by
  have c : ∀ sh u, (changeShift sh u).payers = u.payers := fun sh u => by
    change (queueStatus _).payers = _
    rw [(queueStatus_only _).payers]
    rfl
  have l : ∀ u, (closeShift u).payers = u.payers := fun u => by
    change (queueReport _).payers = _
    rw [(queueReport_only _).payers, c]
  have b : ∀ u, (startClosing u).payers = u.payers := fun u => c _ _
  unfold afterTrip
  dsimp only
  split
  · rfl
  · split
    · rfl
    · exact l _
  · split
    · split
      · exact b _
      · rw [l, b]
    · rfl

theorem removeScope_seats (sc : Scope) (s : State) : (removeScope sc s).seats = s.seats := by
  unfold removeScope
  split <;> rfl

theorem removeScope_accounts (sc : Scope) (s : State) :
    (removeScope sc s).accounts = s.accounts := by
  unfold removeScope
  split <;> rfl

theorem payersAtClose_seats (q : Seat) (o : Bool) (s : State) :
    (payersAtClose q o s).seats = s.seats := by
  unfold payersAtClose
  dsimp only
  split <;> simp [removeScope_seats]

theorem payersAtClose_accounts (q : Seat) (o : Bool) (s : State) :
    (payersAtClose q o s).accounts = s.accounts := by
  unfold payersAtClose
  dsimp only
  split <;> simp [removeScope_accounts]

/-- The seats after a close: the closed one VACANT, the others as they stood. -/
theorem closeSeat_seats (q : Seat) (e : TripEnd) (s : State) :
    (closeSeat q e s).seats = s.seats.set q vacantSeat := by
  unfold closeSeat
  dsimp only
  rw [(compareDisplay_only _ _).seats, changeSeat_seats, payersAtClose_seats]
  change (PerSeat.set (afterTrip _ _).seats _ _) = _
  rw [afterTrip_seats]
  rfl

/-- The accounts after a close: the trip recorded, then what the trip does to the shift. -/
theorem closeSeat_accounts (q : Seat) (e : TripEnd) (s : State) :
    (closeSeat q e s).accounts
      = (afterTrip (othersOccupied s.seats q)
          (s.setAccounts (recordTrip (composeTrip q e (s.seat q)) s.accounts
            s.tariff.identity))).accounts := by
  unfold closeSeat
  dsimp only
  rw [(compareDisplay_only _ _).accounts, changeSeat_accounts, payersAtClose_accounts]
  rfl

/-- The payer map after a close: what the close removes of it. -/
theorem closeSeat_payers (q : Seat) (e : TripEnd) (s : State) :
    (closeSeat q e s).payers = (payersAtClose q (othersOccupied s.seats q) s).payers := by
  have r : ∀ (sc : Scope) (s t : State), s.payers = t.payers →
      (removeScope sc s).payers = (removeScope sc t).payers := by
    intro sc s t h
    unfold removeScope
    rw [h]
    split <;> simp [setPayer, h]
  have p : ∀ (o : Bool) (s t : State), s.payers = t.payers →
      (payersAtClose q o s).payers = (payersAtClose q o t).payers := by
    intro o s t h
    unfold payersAtClose
    dsimp only
    split
    · exact r _ _ _ h
    · exact r _ _ _ (r _ _ _ h)
  unfold closeSeat
  dsimp only
  rw [(compareDisplay_only _ _).payers, changeSeat_payers]
  apply p
  change (afterTrip _ _).payers = _
  rw [afterTrip_payers]
  rfl

end Sys2Proof.Machine
end

