-- ==== Sys2Proof/Tests/Slice0.lean ====
section
/-! SUPPORT. Tests. The expected figures are the manual's own worked figures and tables; the witnesses
show states and operands that meet the hypotheses of the statements for the provers. -/

namespace Sys2Proof.Tests

open Sys2Proof.Machine

/-! ### Well-formedness: each check refuses an ill-formed term -/

def header (source dest : BitVec 6) : Header := ⟨1, source, dest⟩

theorem test_source_zero_refused : (Instr.talk (header 0 10) [1]).wf = false := by decide

theorem test_source_broadcast_refused : (Instr.heartbeat (header 63 10) [0, 0]).wf = false := by
  decide

theorem test_destination_zero_refused : (Instr.faultReport (header 2 0) [7]).wf = false := by decide

theorem test_payload_of_17_refused :
    (Instr.navReport (header 30 10) (List.replicate 17 0)).wf = false := by decide

theorem test_contender_zero_refused : (Instr.lineIdle [⟨0, 4, 0⟩]).wf = false := by decide

theorem test_contender_broadcast_refused : (Instr.lineIdle [⟨0, 4, 63⟩]).wf = false := by decide

theorem test_sequence_16_refused : (Instr.hire 16 1 0).wf = false := by decide

theorem test_presence_of_no_station_refused : (Instr.presenceTimeout 63).wf = false := by decide

theorem test_image_of_148_refused :
    (Instr.loadCompletion (List.replicate 148 0)).wf = false := by decide +kernel

theorem test_well_formed_accepted :
    (Instr.talk (header 11 10) [1]).wf = true ∧ (Instr.hire 15 1 0).wf = true ∧
      (Instr.lineIdle [⟨0, 9, 21⟩]).wf = true := by decide

/-- The table gives no row any bits, so no word spells a command. -/
theorem test_no_word_spells_a_command (n w : Nat) : decodeTableWord n w = none := rfl

/-- A COMMAND payload written out from the table of console commands: HIRE(2, yes), sequence 4. -/
theorem test_payload_of_hire : decodeCommand [4, 8, 2, 1] = some (.hire 2 1) := by decide

/-- CASH(1, 1000, 258), high byte first (R190). -/
theorem test_payload_of_cash :
    decodeCommand [0, 14, 1, 0, 0x03, 0xE8, 0, 0x01, 0x02] = some (.cash 1 1000 258) := by decide

/-- R8's generator and start value on the check string "123456789" give 29B1. -/
theorem test_crc_of_digits :
    crc16 [0x31, 0x32, 0x33, 0x34, 0x35, 0x36, 0x37, 0x38, 0x39] = 0x29B1#16 := by decide +kernel

/-! ### Worked figures of the tariff image -/

/-- Worked Figures: Derived Step Sizes, the first configuration. -/
theorem test_step_sizes :
    deriveNp 8000 1 2 100 = 400 ∧ deriveNp 8000 1 2 80 = 320 ∧ deriveNp 8000 1 2 10 = 40 ∧
      deriveNt 20 = 100 ∧ deriveNt 15 = 75 := by decide

/-- Worked Figures: Derived Step Sizes, the second and the rejected configuration. -/
theorem test_step_size_both_edges :
    deriveNp 5000 2 4 50 = 125 ∧ pulsesOk 5000 2 4 = true ∧ pulsesOk 600 1 4 = false := by decide

/-- Worked Figures: Timeout Bytes. -/
theorem test_timeout_bytes :
    chargeTimeoutOf 0xC6 = some 60000 ∧ guardTimeOf 0xC6 = none ∧ talkLimitOf 0xC6 = some 60000 ∧
    chargeTimeoutOf 0x4F = none ∧ guardTimeOf 0x4F = none ∧ talkLimitOf 0x4F = none ∧
    guardTimeOf 0x0F = some 150 ∧ talkLimitOf 0x9E = some 30000 ∧ guardTimeOf 0 = some 150 ∧
    chargeTimeoutOf 0x40 = none := by decide

/-! ### A small machine -/

/-- The bands of the fare chapter's worked sequences. -/
def bands : List Band :=
  [deriveBand 8000 1 2 350 0 30 100 20, deriveBand 8000 1 2 420 0 36 80 15,
   deriveBand 8000 1 2 300 0 4 10 20]

/-- The configuration of the worked sequences: the schedule is that of AUTO Selection. -/
def tariff : Tariff :=
  { good := true, identity := 0x1234, own := 10, kRaw := 8000, edge := .falling, prescale := 2,
    minWidth := 100, bands := bands, shares := [1000, 650, 500, 420],
    schedule := [⟨0x1F, 360, 1⟩, ⟨0x1F, 1200, 2⟩, ⟨0x60, 480, 3⟩, ⟨0x60, 1200, 2⟩],
    manualAllowed := true, tipPercent := 10, chargeTimeout := 60000, guardTime := 150,
    talkLimit := 30000, vMin := 100, nPlaus := 5, dayDuty := 20, nightDuty := 8, nightBelow := 40,
    dayAbove := 60 }

def roster : List Station :=
  [⟨1, .console, 0, some 2000⟩, ⟨2, .driverPanel, 0, some 2000⟩, ⟨11, .seatPanel, 1, some 2000⟩,
   ⟨21, .reader, 1, some 2000⟩, ⟨25, .reader, 5, some 2000⟩, ⟨30, .nav, 0, some 2000⟩,
   ⟨12, .seatPanel, 2, none⟩, ⟨22, .reader, 2, none⟩]

/-- A running machine with an open shift, every seat VACANT, and band 1 selected. -/
def running : State :=
  computeSign { State.reset with
    start := { loaded := true, imageTimer := none, kind := .cold },
    clock := { time := ⟨3, 51000⟩, valid := true },
    accounts := { accountsCold with
      shift := { accountsCold.shift with state := .opened, number := 1 } },
    tariff := tariff, band := { mode := .auto, selected := 1 },
    motion := { motionStart with settled := some .low, intervalTimer := some 200 },
    sign := { signStart with timebase := some 4, mode := .onDuty, pool := true },
    line := { lineStart with roster := roster, statusTimer := some 1000 } }

/-- Seat 1's record in a state, at band 1, with its flag fall. -/
def ride (st : SeatState) : SeatRecord :=
  { vacantSeat with
    state := st, activeBand := 1, flagFall := 350, fare := 350, bandsUsed := [1], maxRiders := 1 }

/-- The running machine with seat 1 in a state. -/
def seated (st : SeatState) : State := computeSign (running.setSeat .one (ride st))

/-! ### Worked figures of the clock, the bands and the motion unit -/

/-- Worked Figures: AUTO Selection. -/
theorem test_auto_selection :
    evaluateBand tariff ⟨⟨3, 51000⟩, true⟩ = 1 ∧ evaluateBand tariff ⟨⟨3, 75600⟩, true⟩ = 2 ∧
    evaluateBand tariff ⟨⟨3, 18000⟩, true⟩ = 2 ∧ evaluateBand tariff ⟨⟨6, 28740⟩, true⟩ = 2 ∧
    evaluateBand tariff ⟨⟨6, 28800⟩, true⟩ = 3 ∧ evaluateBand tariff ⟨⟨1, 10800⟩, true⟩ = 2 := by
  decide

/-- A clock that is not valid gives band 1, and a later entry wins a tie (R19). -/
theorem test_auto_invalid_and_tie :
    evaluateBand tariff ⟨⟨3, 75600⟩, false⟩ = 1 ∧
    evaluateBand { tariff with schedule := tariff.schedule ++ [⟨0x1F, 1200, 3⟩] }
      ⟨⟨3, 75600⟩, true⟩ = 3 := by
  decide

/-- Midnight of day 7 (R16). -/
theorem test_week_wraps : nextSecond ⟨7, 86399⟩ = ⟨1, 0⟩ := by decide

/-- Filter and Prescaler: the rising edge taken at 6.100 ms fills p = 4 and emits a count; in FALLING
mode it is not passed. -/
theorem test_prescaler_emits :
    (countEdge 4 { motionStart with residue := 3 }).counter = 1 ∧
    (countEdge 4 { motionStart with residue := 3 }).residue = 0 ∧
    (countEdge 4 { motionStart with residue := 2 }).counter = 0 ∧
    passesEdge .both .high = true ∧ passesEdge .falling .high = false := by decide

/-- A Saturated Interval: a count at 255 is lost, and the residue is kept. -/
theorem test_counter_saturates :
    (countEdge 2 { motionStart with residue := 1, counter := 255 }).counter = 255 ∧
    (countEdge 2 { motionStart with residue := 0, counter := 255 }).residue = 1 := by decide

/-- Speed and Distance After a Start, expiries 1, 5 and 6. -/
theorem test_pulse_speed :
    pulseSpeed tariff [10] = 90 ∧ pulseSpeed tariff [10, 10, 10, 10, 10] = 450 ∧
    pushWindow 3 [10, 10, 10, 10, 10] = [10, 10, 10, 10, 3] ∧
    pulseSpeed tariff [10, 10, 10, 10, 3] = 387 := by decide

/-- Speed and Distance After a Start, the last two columns. -/
theorem test_distance :
    addDistance tariff max32 10 ⟨0, 0⟩ = ⟨2, 4000⟩ ∧
    addDistance tariff max32 10 ⟨2, 4000⟩ = ⟨5, 0⟩ ∧
    addDistance tariff max32 3 ⟨12, 4000⟩ = ⟨13, 2000⟩ := by decide

/-! ### Worked figures of the fare engine -/

/-- Solo Ride, expiries 1 and 41. -/
theorem test_solo_ride :
    (accrueSeat tariff 1 false 10 1 { ride .hired with fresh := true }).progress = 0 ∧
    (accrueSeat tariff 1 false 10 1 { ride .hired with progress := 39000000 }).progress = 0 ∧
    (accrueSeat tariff 1 false 10 1 { ride .hired with progress := 39000000 }).fare = 380 := by
  decide +kernel

/-- Two Riders, Moving Then Standing, expiry 1. -/
theorem test_two_riders :
    let r := accrueSeat tariff 1 false 10 2 { ride .hired with progress := 39800000, fare := 560 }
    r.progress = 450000 ∧ r.fare = 590 ∧ r.pooled = true ∧ r.maxRiders = 2 := by decide +kernel

/-- Band Change at the Step, seat 1 at expiry 1. -/
theorem test_band_change :
    let r := accrueSeat tariff 2 false 10 2 { ride .hired with progress := 39800000, fare := 560 }
    r.progress = 270000 ∧ r.fare = 590 ∧ r.activeBand = 2 ∧ r.bandsUsed = [1, 2] := by
  decide +kernel

/-- Several Steps in One Interval, with SET_BAND(1) taken before. -/
theorem test_several_steps :
    let r := accrueSeat tariff 1 false 100 1
      { ride .hired with activeBand := 3, progress := 3000000, fare := 308, bandsUsed := [3] }
    r.progress = 10000000 ∧ r.fare = 372 ∧ r.steps = 3 ∧ r.bandsUsed = [3, 1] := by decide +kernel

/-- A HELD interval adds distance and time but no progress (R62). -/
theorem test_held_interval :
    let r := accrueSeat tariff 1 true 10 1 { ride .hired with progress := 39800000 }
    r.progress = 39800000 ∧ r.heldDuring = true ∧ r.intervals = 1 ∧ r.metres = 2 := by
  decide +kernel

/-- Saturation at 999,999 (R69). -/
theorem test_fare_saturates :
    (chargeStep 30 { ride .hired with fare := 999980 }).fare = 999999 ∧
    (chargeStep 30 { ride .hired with fare := 999980 }).saturated = true ∧
    (chargeStep 19 { ride .hired with fare := 999980 }).saturated = false := by decide

/-- The splits of R75's table: 250 over seats 1, 3 and 4; 10 and 3 over all four. -/
theorem test_split_shares :
    let three : PerSeat SeatRecord := ⟨ride .hired, ride .due, ride .hired, ride .hired⟩
    allSeats.map (splitShare three 250) = [84, 0, 83, 83] ∧
    allSeats.map (splitShare (seatsOf (ride .hired)) 10) = [3, 3, 2, 2] ∧
    allSeats.map (splitShare (seatsOf (ride .hired)) 3) = [1, 1, 1, 0] := by
  decide

/-! ### Worked sequences on the small machine -/

/-- Worked Figures: Attribution, deliveries 1 and 4: hired metres with a HIRED seat, unhired without;
the totalizer of hired metres takes the first alone. -/
theorem test_attribution :
    let s := deliverDistance 10 (seated .hired)
    let t := deliverDistance 10 (seated .due)
    s.accounts.shift.totals.hired = ⟨2, 4000⟩ ∧ s.accounts.totalizers.hired = ⟨2, 4000⟩ ∧
    t.accounts.shift.totals.unhired = ⟨2, 4000⟩ ∧ t.accounts.totalizers.hired = ⟨0, 0⟩ ∧
    t.accounts.totalizers.total = ⟨2, 4000⟩ := by
  decide +kernel

/-- Contention With a Reader: kind 8 from 21 goes before kind 9 from 10, and both before class 2. -/
theorem test_contention :
    arbitration 0 8 21 < arbitration 0 9 10 ∧ arbitration 0 9 10 < arbitration 2 32 30 := by decide

/-- The state a command answers. -/
def after (c : Instr) (s : State) : State :=
  match exec c s with
  | .next t => t
  | .fault _ | .refused _ => s

/-- HIRE(1, yes) with band 1 selected: HIRED, fresh, fare 350 (Solo Ride). -/
theorem test_hire :
    let r := (after (.hire 3 1 1) running).seat .one
    r.state = .hired ∧ r.fresh = true ∧ r.fare = 350 ∧ r.exclusive = false := by decide +kernel

/-- Commands Arriving Faster Than Answers: with the mark set, four commands wait and the next is BUSY. -/
theorem test_fifo_fills :
    let s := running.setLine { running.line with answerPending := true }
    let t := after (.stop 7 1) (after (.stop 6 1) (after (.stop 5 1) (after (.hire 4 2 1) s)))
    t.line.fifo.length = 4 ∧
    (after (.stop 8 1) t).line.fifo = t.line.fifo ∧
    (after (.stop 8 1) t).line.queue.any
      (fun f => decide (f.body = .result 8 .busy 9 [] ∧ f.answer = false)) = true := by
  decide +kernel

/-- CASH of 1,000 on a due of 350 gives 350 and 650 change, and the seat closes (R48, R39). -/
theorem test_cash_change :
    let t := after (.cash 2 1 1000 0) (seated .due)
    (t.seat .one).state = .vacant ∧ t.accounts.tripCounter = 1 ∧
    t.line.queue.any (fun f => decide
      (f.body = .result 2 .ok 14 [0, 1, 0x5E, 0, 2, 0x8A, 0, 0, 0])) = true := by
  decide +kernel

/-- A saturated interval raises OVERRUN and enters HELD before its delivery (R28). -/
theorem test_overrun_holds :
    let s := (seated .hired).setMotion { running.motion with counter := 255 }
    let t := after .intervalExpiry s
    t.hold.held = true ∧ t.hold.pointer = some .overrun ∧ (t.seat .one).heldDuring = true ∧
    (t.seat .one).progress = 0 := by
  decide +kernel

/-! ### Witnesses: the step and the invariants -/

/-- A machine on trip, with a command at the front of its queue. -/
def stepping : State := (seated .hired).setPending [.clockTick]

theorem stepping_steps : ∃ t, step stepping = .next t := ⟨_, rfl⟩

theorem test_witness_StepRunsFrontCommand :
    State.reset.pending = [] ∧ stepping = (seated .hired).setPending (.clockTick :: []) := ⟨rfl, rfl⟩

theorem test_witness_CommandChangesOnlyItsParts :
    running.line.fifo = [] ∧ (∃ t, exec .clockTick running = .next t) ∧
      Part.seats ∉ mayChange .clockTick := ⟨rfl, ⟨_, rfl⟩, by decide⟩

theorem stepping_start : StartLaw stepping :=
  ⟨fun h => absurd h (by decide), fun h => absurd h (by decide), fun h => absurd h (by decide)⟩

theorem test_witness_StepKeepsQueuesAndBounds :
    QueueLaw stepping ∧ FifoLaw stepping ∧ BoundsLaw stepping ∧ ∃ t, step stepping = .next t := by
  refine ⟨?_, ?_, ?_, stepping_steps⟩
  · unfold QueueLaw; decide
  · unfold FifoLaw; decide
  · exact ⟨stepping_start, by decide, by decide, by decide, by decide, by decide, by decide, by decide,
      fun c => by cases c <;> exact ⟨by decide, by decide⟩⟩

theorem test_witness_StepKeepsStartValues :
    StartLaw stepping ∧ StartLaw (State.reset.setPending [.clockTick]) ∧
      (∃ t, step stepping = .next t) ∧
      ∃ t, step (State.reset.setPending [.clockTick]) = .next t :=
  ⟨stepping_start, by unfold StartLaw; decide, stepping_steps, _, rfl⟩

theorem test_witness_StepKeepsPointerAndSign :
    PointerLaw stepping ∧ SignLaw stepping ∧ ∃ t, step stepping = .next t :=
  ⟨fun c h => absurd h (by decide +revert), fun _ c => by cases c <;> rfl, stepping_steps⟩

theorem test_witness_StepKeepsIntercom :
    GateLaw stepping ∧ TalkTimerLaw stepping ∧ CallLaw stepping ∧ ∃ t, step stepping = .next t := by
  refine ⟨rfl, ⟨?_, ?_, ?_⟩, ⟨?_, ?_, ?_, ?_⟩, stepping_steps⟩
  · decide
  · exact ⟨fun h => absurd h (by decide), fun ⟨q, h⟩ => by cases q <;> cases h⟩
  · decide
  · decide
  · exact fun q h => absurd h (List.not_mem_nil)
  · exact fun q h => by cases q <;> cases h
  · exact fun _ => rfl

/-- Seat 1 talks, its microphone and the driver's speaker open, and a command waits. -/
def speaking : State :=
  { stepping with
    intercom := { intercomStart with
      state := .seatTalk .one, talkTimer := some 30000, seatPress := (seatsOf none).set .one (some 1500),
      gates := { dmic := false, spk := seatsOf false, smic := (seatsOf false).set .one true,
                 dspk := true } } }

theorem test_witness_StepKeepsMicrophonesApart :
    GateTableLaw speaking ∧ CallLaw speaking ∧ (∃ t, step speaking = .next t) ∧
      speaking.intercom.gates.smic.get .one = true := by
  refine ⟨⟨fun h => absurd h (by decide), fun h => absurd h (by decide), fun q h => ?_⟩,
    ⟨.nil, fun q h => absurd h (List.not_mem_nil), fun q h => ?_, fun h => absurd h (by decide)⟩,
    ⟨_, rfl⟩, rfl⟩
  · obtain rfl : Seat.one = q := by injection h
    exact ⟨rfl, rfl, fun n => by cases n <;> decide⟩
  · obtain rfl : Seat.one = q := by injection h
    exact ⟨List.not_mem_nil, by decide, rfl, rfl⟩

theorem test_witness_StepKeepsSeatRecords :
    VacantLaw stepping ∧ ShiftLaw stepping ∧ ExclusiveLaw stepping ∧
      DueLaw ((seated .due).setPending [.clockTick]) ∧ ∃ t, step stepping = .next t := by
  refine ⟨?_, ?_, ?_, ?_, stepping_steps⟩
  · intro q h
    cases q
    · exact absurd h (by decide)
    all_goals rfl
  · exact fun h => absurd h (by decide)
  · intro q p _ h
    cases q <;> exact absurd h (by decide)
  · intro q h
    cases q
    · decide
    all_goals exact absurd h (by decide)

theorem stepping_money : MoneyLaw stepping := by
  refine ⟨stepping_start, fun q => ⟨?_, ?_⟩, by decide⟩
  · unfold seatMoney
    cases q <;> decide
  · intro c h
    cases q <;> cases h

theorem test_witness_StepKeepsBooksBalanced : BooksLaw stepping ∧ ∃ t, step stepping = .next t :=
  ⟨⟨stepping_money, test_witness_StepKeepsSeatRecords.1, rfl⟩, stepping_steps⟩

theorem stepping_charges : ChargeLaw stepping := by
  refine ⟨stepping_start, fun _ => ⟨?_, ?_, ?_⟩⟩
  · intro q
    cases q <;> decide
  · intro q
    cases q <;> decide
  · intro q p e f _ h
    cases q <;> cases h

theorem test_witness_StepKeepsChargesAndPayers :
    ChargeLaw stepping ∧ BackedLaw stepping ∧ PayerLaw stepping ∧ ∃ t, step stepping = .next t := by
  refine ⟨stepping_charges, ⟨stepping_charges, fun _ => ⟨?_, ?_⟩⟩, ?_, stepping_steps⟩
  · intro q c h
    cases q <;> cases h
  · intro i p q h
    fin_cases i <;> cases h
  · intro i p h
    fin_cases i <;> cases h

theorem test_witness_StepKeepsImageInForce : ImageLaw stepping ∧ ∃ t, step stepping = .next t :=
  ⟨fun _ => ⟨fun _ => by decide, fun h => absurd h (by decide)⟩, stepping_steps⟩

theorem test_witness_StepKeepsProgressBelowStep : ProgressLaw stepping ∧ ∃ t, step stepping = .next t := by
  refine ⟨⟨⟨?_, by decide, by decide⟩, stepping_start, fun _ q h => ?_⟩, stepping_steps⟩
  · unfold bandSized; decide
  · cases q
    · change (0 : Nat) < 40000000
      decide
    all_goals exact absurd rfl h

theorem test_witness_TotalizersNeverFall :
    CountLaw stepping ∧ stepping.markerValid = true ∧ ∃ t, step stepping = .next t :=
  ⟨by unfold CountLaw; decide, rfl, stepping_steps⟩

/-- A SEAT_DISPLAY header at the ends of its ranges: source 1 and 62, destination 1 and 63, 16 bytes. -/
theorem test_witness_LineBytesSpellTheirFrame :
    headerOk ⟨2, 33, 1, 63, List.replicate 16 0⟩ = true ∧ headerOk ⟨3, 0, 62, 1, []⟩ = true := by
  decide

/-! ### Witnesses: starts and load completion -/

theorem test_witness_StartClearsOrKeepsRetainedStore :
    let off := { running with pins := { running.pins with pgood := false } }
    let low := { running with pins := { running.pins with rst := true } }
    let timed := running.setLine { running.line with resetTimer := some 100 }
    let sent := timed.setLine { timed.line with
      transmitting := some ⟨1, .result 0 .ok 1 [], true⟩ }
    StartsNow off .pgoodRise ∧ off.markerValid = true ∧
    StartsNow low .rstRelease ∧ StartsNow timed .resetTimerExpiry ∧
    StartsNow sent .transmissionComplete ∧
    { off with markerValid := false }.markerValid = false ∧
    StartsNow { off with markerValid := false } .pgoodRise ∧
    State.reset.start.imageTimer.isSome = true ∧ State.reset.start.kind = .cold := by
  refine ⟨⟨rfl, rfl⟩, rfl, ⟨rfl, rfl⟩, rfl, ⟨rfl, _, rfl, rfl⟩, rfl, ⟨rfl, rfl⟩, rfl, rfl⟩

theorem test_witness_SuppliesStopMainDomain :
    running.pins.pgood = true ∧ running.pins.rst = false ∧
    { running.pins with pgood := false }.pgood = false ∧
    { running.pins with rst := true }.rst = true := ⟨rfl, rfl, rfl, rfl⟩

/-- An image with a console and a reader, one band and one schedule entry, its check left to be computed. -/
def imageBody : List Byte :=
  [0x5A, 0x3C, 0, 147, 10, 2, 1, 0, 0, 21, 3, 1] ++ List.replicate 30 0 ++
  [0x1F, 0x40, 0, 1, 0, 100, 1] ++ [0x01, 0x5E, 0, 0, 30, 0, 100, 0, 20] ++ List.replicate 27 0 ++
  [0x03, 0xE8, 0x03, 0xE8, 0x03, 0xE8, 0x03, 0xE8, 1, 0x7F, 0x05, 0x9F, 1] ++
  List.replicate 28 0 ++
  [0, 10, 0, 0, 0, 0, 100, 5, 20, 8, 40, 60, 0, 0, 0, 0, 0, 0, 0]

/-- That image with its check, 8596. -/
def image : List Byte := imageBody ++ [0x85, 0x96]

/-- The check of the image's bytes, taken in pieces. -/
theorem crc_piece_1 : (imageBody.take 40).foldl crcByte 0xFFFF#16 = 4020#16 := by decide +kernel
theorem crc_piece_2 : ((imageBody.drop 40).take 40).foldl crcByte 4020#16 = 34271#16 := by
  decide +kernel
theorem crc_piece_3 : ((imageBody.drop 80).take 40).foldl crcByte 34271#16 = 22204#16 := by
  decide +kernel
theorem crc_piece_4 : (imageBody.drop 120).foldl crcByte 22204#16 = 34198#16 := by decide +kernel

theorem image_crc : imageCrc image = 0x8596 := by
  have e : image.take (imageLength - 2)
      = imageBody.take 40 ++ ((imageBody.drop 40).take 40 ++ ((imageBody.drop 80).take 40
          ++ imageBody.drop 120)) := by decide +kernel
  rw [imageCrc, e, crc16, List.foldl_append, List.foldl_append, List.foldl_append, crc_piece_1,
    crc_piece_2, crc_piece_3, crc_piece_4]
  rfl

/-- A good image passes every check; no bytes are no image. -/
theorem image_ok : imageOk image = true := by
  simp only [imageOk, crcOk, image_crc]
  decide +kernel

theorem image_good : (loadImage image).tariff.good = true := by
  have e : image.take imageLength = image := by decide +kernel
  simp only [loadImage, e, image_ok]
  rfl

/-- What the image brings into force: its own fields. -/
theorem image_loaded : loadImage image
    = { tariff := tariffOf image, roster := rosterOf image, masked := masksOf image,
        note := notesOf image } := by
  have e : image.take imageLength = image := by decide +kernel
  simp only [loadImage, e, image_ok]
  rfl

theorem image_lists_reader :
    ∃ x ∈ (loadImage image).roster, x.cls = .reader ∧ x.addr = 21 := by
  rw [image_loaded]
  exact ⟨⟨21, .reader, 1, none⟩, by decide +kernel, rfl, rfl⟩

theorem test_no_image_rejected : (loadImage []).tariff.good = false := by decide +kernel

/-- The bands of the image: Np = 400 and Nt = 100, as Derived Step Sizes works them. -/
theorem test_image_band : (bandsOf image).map (fun b => (b.np, b.nt, b.size)) = [(400, 100, 40000000)] := by
  decide +kernel

theorem test_witness_LoadPutsImageOrFallbackInForce :
    State.reset.start.imageTimer.isSome = true ∧ (loadImage image).tariff.good = true ∧
      (loadImage []).tariff.good = false := ⟨rfl, image_good, test_no_image_rejected⟩

/-- The image's cause settings are all 0: no cause is masked, and each has its default severity. -/
theorem image_settings :
    (loadImage image).masked = causesOf false ∧ (loadImage image).note = defaultNote ∧
      (loadImage []).masked = causesOf false ∧ (loadImage []).note = defaultNote := by
  rw [image_loaded]
  decide +kernel

/-- A cold load completion to come, with the clock valid or not, TAMPER asserted or not, HELD or not, and
some retained statuses. -/
def loading (valid tamper held : Bool) (status : PerCause Bool) : State :=
  { State.reset with
    clock := { clockCold with valid := valid },
    pins := { State.reset.pins with tamper := tamper },
    hold := { holdCold with held := held, status := status },
    start := { loaded := false, imageTimer := some 500, kind := .cold } }

/-- The first HOLD raise of a load completion: CONFIG of a rejected image, CLOCK or TAMPER with a good
one, or a retained OVERRUN, the lowest-numbered; a part found HELD, and one that no cause holds. -/
theorem test_witness_LoadCompletionTakesCauses :
    let clear := causesOf false
    let overrun := clear.set .overrun true
    (∀ valid tamper held : Bool, ∀ status : PerCause Bool,
      let s := loading valid tamper held status
      s.start.imageTimer.isSome = true ∧ s.line.queue = [] ∧ s.intercom = intercomStart ∧
        s.start.kind ≠ .warm ∧ s.clock.valid = valid ∧ s.pins.tamper = tamper ∧
        s.hold.held = held ∧ s.hold.status = status) ∧
    (loadImage image).tariff.good = true ∧ (loadImage []).tariff.good = false ∧
    (loadImage image).masked = clear ∧ (loadImage []).masked = clear ∧
    (∀ c ∈ [Cause.config, .clock, .tamper, .overrun],
      clear.get c = false ∧ defaultNote.get c = false ∧
        (overrun.get c = true ↔ c = .overrun)) ∧
    (∀ q : Seat, ((loading true false false clear).seat q).state = .vacant) :=
  ⟨fun _ _ _ _ => ⟨rfl, rfl, rfl, by simp [loading], rfl, rfl, rfl, rfl⟩, image_good,
    test_no_image_rejected, image_settings.1, image_settings.2.2.1, by decide,
    fun q => by cases q <;> rfl⟩

theorem test_witness_WarmStartTurnsOpenSeats :
    let warm := fun r => { State.reset.setSeat .one r with
      start := { loaded := false, imageTimer := some 500, kind := .warm } }
    (warm (ride .hired)).start.imageTimer.isSome = true ∧ (warm (ride .hired)).start.kind = .warm ∧
    ((warm (ride .hired)).seat .one).state = .hired ∧ 0 < ((warm (ride .hired)).seat .one).due ∧
    ((warm { ride .paying with waived := 350 }).seat .one).due = 0 ∧
    ((warm (ride .due)).seat .one).state = .due ∧ ((warm (ride .due)).seat .two).state = .vacant :=
  ⟨rfl, rfl, rfl, by decide, rfl, rfl, rfl⟩

/-- A charge in flight at a listed reader, when the supplies failed. -/
theorem test_witness_WarmStartRetiresTags :
    let s := { State.reset.setTags
        { counter := 9, late := [], slots := (seatsOf none).set .one (some ⟨9, 21⟩) } with
      start := { loaded := false, imageTimer := some 500, kind := .warm } }
    s.start.imageTimer.isSome = true ∧ s.start.kind = .warm ∧ s.line.queue = [] ∧
    s.tags.slots.get .one = some ⟨9, 21⟩ ∧
    ∃ x ∈ (loadImage image).roster, x.cls = .reader ∧ x.addr = (⟨9, 21⟩ : Tag).reader :=
  ⟨rfl, rfl, rfl, rfl, image_lists_reader⟩

theorem test_witness_StepSizesAreBoundedAndDerived :
    (loadImage image).tariff.good = true ∧ (loadImage []).tariff.good = false ∧
    (loadImage image).tariff.bands[0]?.isSome = true ∧
    (loadImage image).tariff.schedule[0]? = some ⟨0x7F, 1439, 1⟩ ∧
    (loadImage image).roster[1]? = some ⟨21, .reader, 1, none⟩ := by
  refine ⟨image_good, test_no_image_rejected, ?_⟩
  rw [image_loaded]
  decide +kernel

/-! ### Witnesses: clock, band and motion -/

/-- A console row finds the intake ready where load completion is past and the line is the small
machine's. -/
theorem ready {s : State} (h : s.start.loaded = true) (k : s.line = running.line) : ConsoleReady s 1 :=
  ⟨h, by rw [k]; decide, by rw [k]; rfl, by rw [k]; rfl, by rw [k]; rfl⟩

theorem ready_running : ConsoleReady running 1 := ready rfl rfl

theorem ready_seated (st : SeatState) : ConsoleReady (seated st) 1 := ready rfl rfl

/-- The running machine, HELD. -/
def held : State := running.setHold { holdCold with held := true }

theorem ready_held : ConsoleReady held 1 := ready rfl rfl

/-- Every case of the evaluation, at the first and at the previous-day entry that decides it. -/
theorem test_witness_ScheduleSelectsBand :
    tariffFallback.good = false ∧ tariff.good = true ∧ clockCold.valid = false ∧
    tariff.schedule = [] ++ ⟨0x1F, 360, 1⟩ :: [⟨0x1F, 1200, 2⟩, ⟨0x60, 480, 3⟩, ⟨0x60, 1200, 2⟩] ∧
    (let e : ScheduleEntry := ⟨0x1F, 360, 1⟩
     coversDay e 3 = true ∧ e.start ≤ 21600 / 60 ∧
     ∀ x ∈ [(⟨0x1F, 1200, 2⟩ : ScheduleEntry), ⟨0x60, 480, 3⟩, ⟨0x60, 1200, 2⟩],
       coversDay x 3 = true → x.start ≤ 21600 / 60 → x.start < 360) ∧
    (∀ x ∈ tariff.schedule, coversDay x 3 = true → 21599 / 60 < x.start) ∧
    (∀ x ∈ tariff.schedule, coversDay x 1 = true → 0 / 60 < x.start) ∧
    coversDay ⟨0x60, 1200, 2⟩ (if 1 = 1 then 7 else 1 - 1) = true ∧
    (∀ x ∈ [(⟨0x1F, 360, 1⟩ : ScheduleEntry)], coversDay x 7 = false) := by
  decide

theorem test_witness_ClockAndBandAreSet :
    ConsoleReady running 1 ∧ ConsoleReady (seated .due) 1 ∧
    running.start.loaded = true ∧ running.band.mode = .auto ∧ State.reset.start.loaded = false ∧
    (0 : Byte).toNat < 1 ∧ 7 < (8 : Byte).toNat ∧ 86399 < (86400 : Word24).toNat ∧
    1 ≤ (1 : Byte).toNat ∧ (7 : Byte).toNat ≤ 7 ∧ (86399 : Word24).toNat ≤ 86399 ∧
    ((seated .due).seat .one).state ≠ .vacant ∧ (∀ q, (running.seat q).state = .vacant) ∧
    4 < (5 : Byte).toNat ∧ (0 : Byte).toNat = 0 ∧ (4 : Byte).toNat ≤ 4 ∧
    running.tariff.manualAllowed = true ∧ tariffFallback.manualAllowed = false ∧
    running.tariff.bands.length < (4 : Byte).toNat ∧
    (3 : Byte).toNat ≤ running.tariff.bands.length := by
  refine ⟨ready_running, ready_seated _, rfl, rfl, rfl, by decide, by decide, by decide, by decide,
    by decide, by decide, by decide, fun q => by cases q <;> rfl, by decide, by decide, by decide,
    rfl, rfl, by decide, by decide⟩

/-- 20:00 of day 3, as the AUTO Selection figures have it: the tick to it passes a minute boundary, at
which band 2 is selected; the tick before it passes none. -/
theorem test_tick_passes_minute_boundary :
    (after (.clockTick) (running.setClock ⟨⟨3, 71999⟩, true⟩)).band.selected = 2 ∧
    (after (.clockTick) (running.setClock ⟨⟨3, 71998⟩, true⟩)).band.selected = 1 := by
  decide +kernel

theorem test_witness_ClockTicksAndMinutes :
    running.start.loaded = true ∧ running.band.mode = .auto ∧ running.clock.time.seconds % 60 = 0 ∧
    (71999 + 1) % 60 = 0 ∧ (51000 + 1) % 60 ≠ 0 ∧ running.clock.time.seconds ≤ 86399 ∧
    State.reset.start.loaded = false ∧ ({ running.band with mode := .manual } : BandSelector).mode = .manual := by
  decide

theorem test_witness_PulseChainCounts :
    let edge := running.setMotion { running.motion with changing := true, residue := 1 }
    State.reset.motion.settled = none ∧ running.motion.settled = some .low ∧
    running.motion.changing = false ∧ edge.motion.changing = true ∧ edge.tariff.edge = .falling ∧
    edge.pins.pulse = .low ∧ edge.tariff.prescale ≤ edge.motion.residue + 1 ∧
    (edge.setMotion { edge.motion with residue := 0 }).motion.residue + 1 < edge.tariff.prescale ∧
    (edge.setPins { edge.pins with pulse := .high }).pins.pulse = .high := by
  decide

theorem test_witness_IntervalExpiryDelivers :
    let full := (seated .hired).setMotion { running.motion with counter := 255 }
    full.line.fifo = [] ∧ full.motion.intervalTimer.isSome = true ∧ full.motion.counter = 255 ∧
      0 < full.motion.counter ∧ running.motion.counter = 0 := by
  decide

theorem test_witness_DistanceIsExactAndAttributed :
    ((seated .hired).seat .one).state = .hired ∧ (seated .hired).hold.held = false ∧
    held.hold.held = true ∧ (seated .hired).accounts.shift.state ≠ .closed ∧
    State.reset.accounts.shift.state = .closed ∧ (¬∃ q, (running.seat q).state = .hired) ∧
    0 < pulsesPerKm tariff ∧
    (12 + (4000 + [3].sum * 1000 * tariff.prescale) / pulsesPerKm tariff ≤ 13) ∧
    4000 < pulsesPerKm tariff := by
  refine ⟨rfl, rfl, rfl, by decide, rfl, ?_, by decide, by decide, by decide⟩
  rintro ⟨q, h⟩
  cases q <;> cases h

theorem test_witness_HeldAndFreshSeatsGainNothing :
    let two := (seated .hired).setSeat .two { ride .hired with fresh := true }
    two.line.fifo = [] ∧ two.motion.intervalTimer.isSome = true ∧ (two.seat .one).state = .hired ∧
    (two.seat .three).state ≠ .hired ∧ 2 ≤ riders two.seats ∧ (two.seat .two).fresh = true ∧
    held.hold.held = true := by
  decide

theorem test_witness_StepsAndTransfersOfDelivery :
    let r := { ride .hired with progress := 39999999, fare := 999999 }
    bandAt tariff r.activeBand = some (deriveBand 8000 1 2 350 0 30 100 20) ∧
    bandSized (deriveBand 8000 1 2 350 0 30 100 20) ∧ (255 : Nat) ≤ 255 ∧
    (∀ x ∈ tariff.shares, x ≤ 1000) ∧ r.progress < (deriveBand 8000 1 2 350 0 30 100 20).size ∧
    r.fare ≤ 999999 ∧ bandAt tariff 2 = some (deriveBand 8000 1 2 420 0 36 80 15) ∧
    r.activeBand ≠ 2 ∧ r.freeLeft = 0 ∧ 0 < { r with freeLeft := 1 }.freeLeft ∧
    999999 < r.fare + 30 ∧ { r with fare := 999969 }.fare + 30 ≤ 999999 ∧
    0 < (deriveBand 8000 1 2 420 0 36 80 15).size ∧
    r.progress - (deriveBand 8000 1 2 350 0 30 100 20).size
      < (deriveBand 8000 1 2 350 0 30 100 20).size := by
  unfold bandSized
  decide +kernel

/-! ### Witnesses: the trip cycle -/

theorem test_witness_HireStartsTrip :
    let alone := seated .due
    let sole := running.setSeat .two { ride .hired with exclusive := true }
    ConsoleReady running 1 ∧ ConsoleReady held 1 ∧ ConsoleReady alone 1 ∧ ConsoleReady sole 1 ∧
    ConsoleReady (running.setAccounts accountsCold) 1 ∧
    seatOfNumber (0 : Byte).toNat = none ∧ seatOfNumber (5 : Byte).toNat = none ∧
    seatOfNumber (1 : Byte).toNat = some .one ∧ seatOfNumber (4 : Byte).toNat = some .four ∧
    1 < (2 : Byte).toNat ∧ (1 : Byte).toNat ≤ 1 ∧
    (running.setAccounts accountsCold).accounts.shift.state ≠ .opened ∧
    running.accounts.shift.state = .opened ∧ held.hold.held = true ∧ running.hold.held = false ∧
    (alone.seat .one).state ≠ .vacant ∧ (running.seat .one).state = .vacant ∧
    ((0 : Byte).toNat = 0 ∧ Seat.one ≠ .four ∧ (alone.seat .one).state ≠ .vacant) ∧
    ((sole.seat .two).exclusive = true ∧ (sole.seat .two).state ≠ .vacant) ∧
    (∀ p, (running.seat p).exclusive = true → (running.seat p).state = .vacant) ∧
    (bandAt running.tariff running.band.selected).isSome = true := by
  refine ⟨ready_running, ready_held, ready_seated _, ready rfl rfl, ready rfl rfl, by decide,
    by decide, by decide, by decide, by decide, by decide, by decide, by decide, rfl, rfl, by decide,
    rfl, by decide, by decide, fun p => ?_, by decide⟩
  cases p <;> exact fun _ => rfl

theorem test_witness_StopAndResume :
    (∀ st, ConsoleReady (seated st) 1) ∧ seatOfNumber (1 : Byte).toNat = some .one ∧
    seatOfNumber (5 : Byte).toNat = none ∧ (∀ st, ((seated st).seat .one).state = st) ∧
    (seated .hired).payers = indexesOf none ∧ ((seated .due).seat .one).payments = [] ∧
    { ride .due with payments := [⟨.cash, 1, 0, none⟩] }.payments ≠ [] ∧
    (seated .due).accounts.shift.state ≠ .closed ∧ (seated .due).hold.held = false ∧
    ConsoleReady ((seated .due).setHold held.hold) 1 ∧
    ConsoleReady ((seated .due).setAccounts accountsCold) 1 ∧
    ((seated .due).seat .one).activeBand ≤ (seated .due).tariff.bands.length ∧
    (seated .due).tariff.bands.length < { ride .due with activeBand := 4 }.activeBand := by
  refine ⟨ready_seated, by decide, by decide, fun st => rfl, rfl, rfl, by decide, by decide, rfl,
    ready rfl rfl, ready rfl rfl, by decide, by decide⟩

theorem test_witness_CancelAndWaiveCloseSeat :
    (∀ st, ConsoleReady (seated st) 1) ∧ seatOfNumber (0 : Byte).toNat = none ∧
    seatOfNumber (4 : Byte).toNat = some .four ∧ (∀ st, ((seated st).seat .one).state = st) ∧
    (let r := ride .hired; r.steps - (r.freeAtHire - r.freeLeft) = 0 ∧ r.extras.total = 0) ∧
    (let r := { ride .hired with steps := 1 }; 0 < r.steps - (r.freeAtHire - r.freeLeft)) := by
  refine ⟨ready_seated, by decide, by decide, fun st => rfl, by decide, by decide⟩

/-- The payer of the witnesses: a card at the reader of seat 1. -/
def card : Payer :=
  { kind := .card 21 7, scope := .seat .one, limit := 1000, spent := 0, tipsAllowed := true,
    charging := none }

/-- No two payers of a map with one payer share a scope. -/
theorem one_payer (p : Payer) (i j : Fin 8) (x y : Payer)
    (h : ((indexesOf none).set 0 (some p)).get i = some x)
    (k : ((indexesOf none).set 0 (some p)).get j = some y) : i = j := by
  fin_cases i <;> fin_cases j <;> first | rfl | (cases h; done) | cases k

theorem test_witness_CloseLogsTripAndFreesSeat :
    let s := (seated .due).setPayers ((indexesOf none).set 0 (some card))
    (∀ i j : Fin 8, ∀ p r : Payer, s.payers.get i = some p → s.payers.get j = some r →
      p.scope = r.scope → i = j) ∧
    (¬∃ p : Seat, p ≠ .one ∧ (s.seat p).state ≠ .vacant) ∧
    (∃ p : Seat, p ≠ .two ∧ (s.seat p).state ≠ .vacant) ∧
    ({ s.accounts.shift with state := .closing } : Shift).state = .closing := by
  refine ⟨fun i j p r h k _ => one_payer _ i j p r h k, ?_, ⟨.one, by decide, by decide⟩, rfl⟩
  rintro ⟨p, n, h⟩
  cases p
  · exact n rfl
  all_goals exact h rfl

/-- A shift one trip below its limit, with seat 1 to close and with seat 2 beside it. -/
theorem test_witness_TripLimitEndsShift :
    let x := { running.accounts.shift.totals with settled := 16777211 }
    min max24 (x.settled + 1) + x.cancelled = 16777212 ∧
    running.accounts.shift.state = .opened ∧ min max24 (0 + 1) + 0 ≠ 16777212 ∧
    State.reset.accounts.shift.state = .closed ∧
    (∃ p : Seat, p ≠ .two ∧ ((seated .due).seat p).state ≠ .vacant) ∧
    ¬∃ p : Seat, p ≠ .one ∧ ((seated .due).seat p).state ≠ .vacant := by
  refine ⟨rfl, rfl, by decide, rfl, ⟨.one, by decide, by decide⟩, ?_⟩
  rintro ⟨p, n, h⟩
  cases p
  · exact n rfl
  all_goals exact h rfl

/-- A CLOSING shift whose last passenger is in seat 1, with and without a CONSOLE. -/
theorem test_witness_LastCloseReportsShift :
    let s := setShift (seated .due) { running.accounts.shift with state := .closing }
    s.accounts.shift.state = .closing ∧ (∀ p : Seat, p ≠ .one → (s.seat p).state = .vacant) ∧
    s.line.queue = [] ∧ consoleAddr s.line.roster = some 1 ∧ consoleAddr [] = none := by
  refine ⟨rfl, fun p n => ?_, rfl, by decide, rfl⟩
  cases p
  · exact absurd rfl n
  all_goals rfl

theorem test_witness_OccupancyMovesSwitch :
    ((seated .due).seat .one).state ≠ .vacant ∧ (running.seat .one).state = .vacant ∧
    (ride .hired).state ≠ .vacant := by decide

theorem test_witness_ExtrasAndSplitShares :
    (∀ st, ConsoleReady (seated st) 1) ∧ ConsoleReady running 1 ∧ 3 < (4 : Byte).toNat ∧
    (0 : Word24).toNat < 1 ∧ 9999 < (10000 : Word24).toNat ∧
    ¬(3 < (3 : Byte).toNat ∨ (9999 : Word24).toNat < 1 ∨ 9999 < (9999 : Word24).toNat) ∧
    ¬(3 < (0 : Byte).toNat ∨ (1 : Word24).toNat < 1 ∨ 9999 < (1 : Word24).toNat) ∧
    kindArg 3 = some .other ∧ (∀ q, (running.seat q).state ≠ .hired) ∧
    ((seated .hired).seat .one).state = .hired ∧ ((seated .hired).seat .two).state = .vacant ∧
    (seated .due).payers = indexesOf none ∧ 0 < riders (seated .hired).seats := by
  refine ⟨ready_seated, ready_running, by decide, by decide, by decide, by decide, by decide,
    by decide, fun q => ?_, rfl, rfl, rfl, by decide⟩
  cases q <;> decide

theorem test_witness_CashIsCutToDue :
    (∀ st, ConsoleReady (seated st) 1) ∧ (0 : Word24).toNat < 1 ∧
    999999 < (1000000 : Word24).toNat ∧ 1 ≤ (1 : Word24).toNat ∧ (999999 : Word24).toNat ≤ 999999 ∧
    seatOfNumber (1 : Byte).toNat = some .one ∧ (∀ st, ((seated st).seat .one).state = st) ∧
    6 ≤ (List.replicate 6 (⟨.cash, 1, 0, none⟩ : Payment)).length ∧
    ((seated .due).seat .one).payments.length < 6 ∧
    { ride .due with paid := 350 }.due = 0 ∧ 0 < { ride .due with paid := 349 }.due ∧
    (seated .due).payers = indexesOf none := by
  refine ⟨ready_seated, by decide, by decide, by decide, by decide, by decide, fun st => rfl,
    by decide, by decide, by decide, by decide, rfl⟩

theorem test_witness_ShiftOpensAndCloses :
    let closed := running.setAccounts accountsCold
    ConsoleReady running 1 ∧ ConsoleReady closed 1 ∧
    ConsoleReady (closed.setClock clockCold) 1 ∧ ConsoleReady (seated .hired) 1 ∧
    999999 < (1000000 : Word24).toNat ∧ (999999 : Word24).toNat ≤ 999999 ∧
    running.accounts.shift.state = .opened ∧ closed.accounts.shift.state = .closed ∧
    (closed.setClock clockCold).clock.valid = false ∧ closed.clock.valid = true ∧
    (∀ q, (running.seat q).state = .vacant) ∧ ((seated .hired).seat .one).state ≠ .vacant := by
  refine ⟨ready_running, ready rfl rfl, ready rfl rfl, ready_seated _, by decide, by decide, rfl, rfl,
    rfl, rfl, fun q => ?_, by decide⟩
  cases q <;> rfl

/-- A trip in the log, of seat 1. -/
def trip : Trip := { composeTrip .one .settled (ride .due) with number := 1 }

theorem test_witness_ReadsAnswerAndChangeNothing :
    let logged := running.setAccounts { running.accounts with log := [trip] }
    let mapped := (seated .due).setPayers ((indexesOf none).set 7 (some card))
    ConsoleReady running 1 ∧ ConsoleReady logged 1 ∧ ConsoleReady mapped 1 ∧
    ConsoleReady (running.setAccounts accountsCold) 1 ∧
    15 < (16 : Byte).toNat ∧ (15 : Byte).toNat ≤ 15 ∧ (12 : Byte).toNat < 13 ∧
    (running.setAccounts accountsCold).accounts.shift.number = 0 ∧
    running.accounts.shift.number ≠ 0 ∧ (0 : Word24).toNat = 0 ∧ 10 < (11 : Byte).toNat ∧
    0 < (1 : Word24).toNat ∧ (10 : Byte).toNat ≤ 10 ∧
    (∀ x ∈ running.accounts.log, x.number ≠ (1 : Word24).toNat) ∧
    logged.accounts.log.find? (fun y => y.number = (1 : Word24).toNat) = some trip ∧
    (tripPage trip 0).isSome = true ∧ tripPage trip 10 = none ∧
    seatOfNumber (5 : Byte).toNat = none ∧ resolve running.payers .one = none ∧
    resolve mapped.payers .one = some 7 ∧ mapped.payers.get 7 = some card ∧
    7 < (8 : Byte).toNat ∧ (7 : Byte).toNat = (7 : Fin 8).val ∧ running.payers.get 7 = none ∧
    2 < (3 : Byte).toNat ∧ (2 : Byte).toNat ≤ 2 := by
  refine ⟨ready_running, ready rfl rfl, ready rfl rfl, ready rfl rfl, by decide, by decide, by decide,
    rfl, by decide, rfl, by decide, by decide, by decide, by decide, by decide, by decide, by decide,
    by decide, by decide, by decide, rfl, by decide, by decide, rfl, by decide, by decide⟩

/-! ### Witnesses: payers and charges -/

/-- Seat 1 DUE with a payer, and its charge in flight. -/
def withPayer (p : Payer) : State := (seated .due).setPayers ((indexesOf none).set 0 (some p))

def paying : State :=
  { seated .paying with
    payers := (indexesOf none).set 0 (some { card with charging := some .one }),
    charges := (seatsOf none).set .one (some { index := 0, requested := 350, ceiling := 35,
                                               timer := 60000 }),
    tags := { counter := 9, late := [⟨8, 21⟩], slots := (seatsOf none).set .one (some ⟨9, 21⟩) } }

/-- An account payer of a scope. -/
def account (sc : Scope) : Payer :=
  { kind := .account 5, scope := sc, limit := 1000, spent := 0, tipsAllowed := true,
    charging := none }

theorem test_witness_SeatScopeServesBeforeParty :
    let m := (indexesOf none).set 0 (some card)
    let n := (indexesOf none).set 7 (some (account .party))
    (m.get 0 = some card ∧ card.scope = .seat .one) ∧
    (∀ i : Fin 8, ∀ p : Payer, n.get i = some p → p.scope ≠ .seat .one) ∧
    (n.get 7 = some (account .party) ∧ (account .party).scope = .party) ∧
    (∀ i : Fin 8, ∀ p : Payer, m.get i = some p → p.scope ≠ .seat .two ∧ p.scope ≠ .party) ∧
    (∀ i : Fin 8, (m.get i).map (·.scope)
      = (((indexesOf none).set 0 (some { card with spent := 3 })).get i).map (·.scope)) := by
  refine ⟨⟨rfl, rfl⟩, ?_, ⟨rfl, rfl⟩, ?_, by decide⟩
  · intro i p h
    fin_cases i <;> cases h
    decide
  · intro i p h
    fin_cases i <;> cases h
    decide

/-- The reader of seat 1 and its header. -/
def reader : Station := ⟨21, .reader, 1, some 2000⟩
def fromReader (cls : BitVec 2) : Header := ⟨cls, 21, 10⟩

theorem sent_reader {s : State} (cls : BitVec 2) (h : s.start.loaded = true)
    (k : s.line = running.line) (t : s.tariff = tariff) :
    Sent s reader cls.toNat (fromReader cls) :=
  ⟨h, by rw [k]; rfl, by rw [k]; exact (by decide : stationAt running.line.roster 21 = some reader),
    rfl, rfl, by rw [t]; exact .inl rfl⟩

theorem test_witness_PresentedCardIsInstalled :
    let full := (seated .due).setPayers (indexesOf (some (account (.seat .two))))
    let known := withPayer card
    Sent running reader 1 (fromReader 1) ∧ Sent (seated .due) reader 1 (fromReader 1) ∧
    Sent full reader 1 (fromReader 1) ∧ Sent known reader 1 (fromReader 1) ∧
    reader.cls = .reader ∧ reader.timer ≠ none ∧ scopeOfBinding reader.binding = some (.seat .one) ∧
    fromBigEndian [0, 0, 0] < 1 ∧ 999999 < fromBigEndian [0x0F, 0x42, 0x40] ∧
    1 ≤ fromBigEndian [0, 0, 1] ∧ fromBigEndian [0x0F, 0x42, 0x3F] ≤ 999999 ∧
    scopeOccupied running.seats (.seat .one) = false ∧
    scopeOccupied (seated .due).seats (.seat .one) = true ∧
    findScope known.payers (.seat .one) = some 0 ∧ known.payers.get 0 = some card ∧
    card.kind = .card reader.addr (fromBigEndian [0, 7]) ∧
    card.kind ≠ .card reader.addr (fromBigEndian [0, 8]) ∧
    findScope full.payers (.seat .one) = none ∧ (∀ i, full.payers.get i ≠ none) ∧
    findScope (seated .due).payers (.seat .one) = none ∧
    ((seated .due).payers.get 0 = none ∧ ∀ j : Fin 8, j < 0 → (seated .due).payers.get j ≠ none) := by
  refine ⟨sent_reader 1 rfl rfl rfl, sent_reader 1 rfl rfl rfl, sent_reader 1 rfl rfl rfl,
    sent_reader 1 rfl rfl rfl, rfl, by decide, by decide, by decide, by decide, by decide, by decide,
    by decide, by decide, by decide, rfl, by decide, by decide, by decide, by decide, by decide, rfl,
    fun j h => absurd h (Fin.not_lt_zero j)⟩

/-- The reader of seat 2, SILENT. -/
def silentReader : Station := ⟨22, .reader, 2, none⟩

theorem sent_silent {s : State} (cls : BitVec 2) (h : s.start.loaded = true)
    (k : s.line = running.line) (t : s.tariff = tariff) : Sent s silentReader cls.toNat ⟨cls, 22, 10⟩ :=
  ⟨h, by rw [k]; rfl,
    by rw [k]; exact (by decide : stationAt running.line.roster 22 = some silentReader),
    rfl, rfl, by rw [t]; exact .inl rfl⟩

theorem test_witness_SilentReaderReturnsBeforeCard :
    Sent (seated .due) silentReader 1 ⟨1, 22, 10⟩ ∧ silentReader.cls = .reader ∧
    silentReader.timer = none ∧ ([0, 7, 0, 3, 232] : List Byte).length ≤ 16 :=
  ⟨sent_silent 1 rfl rfl rfl, rfl, rfl, by decide⟩

theorem test_witness_AccountsMappedAndPayersRemoved :
    let full := (seated .due).setPayers (indexesOf (some (account (.seat .two))))
    let busy := (seated .due).setPayers
      ((indexesOf none).set 0 (some { card with charging := some .one }))
    ConsoleReady running 1 ∧ ConsoleReady (seated .hired) 1 ∧ ConsoleReady full 1 ∧
    ConsoleReady busy 1 ∧ ConsoleReady (withPayer card) 1 ∧
    scopeOfBinding (0 : Byte).toNat = none ∧ scopeOfBinding (6 : Byte).toNat = none ∧
    99999999 < (100000000 : Word32).toNat ∧ (0 : Word24).toNat < 1 ∧
    999999 < (1000000 : Word24).toNat ∧ 1 < (2 : Byte).toNat ∧
    scopeOfBinding (5 : Byte).toNat = some .party ∧ scopeOfBinding (1 : Byte).toNat = some (.seat .one) ∧
    ¬(99999999 < (99999999 : Word32).toNat ∨ (999999 : Word24).toNat < 1
      ∨ 999999 < (999999 : Word24).toNat ∨ 1 < (1 : Byte).toNat) ∧
    scopeOccupied running.seats .party = false ∧
    scopeOccupied (seated .hired).seats (.seat .one) = true ∧
    findScope (withPayer card).payers (.seat .one) ≠ none ∧
    findScope full.payers (.seat .one) = none ∧ (∀ i, full.payers.get i ≠ none) ∧
    findScope (seated .hired).payers (.seat .one) = none ∧ (seated .hired).payers.get 0 = none ∧
    (∀ q, ((seated .hired).seat q).state ≠ .due) ∧
    7 < (8 : Byte).toNat ∧ (7 : Byte).toNat = (7 : Fin 8).val ∧ running.payers.get 7 = none ∧
    busy.payers.get 0 = some { card with charging := some .one } ∧
    (withPayer card).payers.get 0 = some card ∧ running.payers = indexesOf none := by
  refine ⟨ready_running, ready_seated _, ready rfl rfl, ready rfl rfl, ready rfl rfl, by decide,
    by decide, by decide, by decide, by decide, by decide, by decide, by decide, by decide, by decide,
    by decide, by decide, by decide, by decide, by decide, rfl, fun q => ?_, by decide, by decide, rfl,
    rfl, rfl, rfl⟩
  cases q <;> decide

/-- A FLUSH that keeps the CHARGING payer of index 0 and removes the account of index 7. -/
theorem test_witness_UnmapAndFlushRemovePayers :
    let m : PayerMap := (indexesOf none).set 0 (some { card with charging := some .one })
    let s := (seated .paying).setPayers (m.set 7 (some (account .party)))
    ConsoleReady s 1 ∧
    (∀ i : Fin 8,
      (∀ p : Payer, s.payers.get i = some p → p.charging ≠ none → m.get i = some p) ∧
      ((∀ p : Payer, s.payers.get i = some p → p.charging = none) → m.get i = none)) ∧
    ∀ q, (s.seat q).state ≠ .due := by
  refine ⟨ready rfl rfl, fun i => ⟨fun p h k => ?_, fun h => ?_⟩, fun q => by cases q <;> decide⟩
  · fin_cases i <;> cases h <;> first | rfl | exact absurd rfl k
  · fin_cases i
    · exact absurd (h _ rfl) (by decide)
    all_goals rfl

theorem test_witness_TagsAreNewAndLateListKeepsFour :
    let t : Tags := { counter := 255, late := [⟨1, 21⟩, ⟨2, 21⟩, ⟨3, 21⟩, ⟨4, 21⟩], slots := seatsOf none }
    t.counter ≤ 255 ∧ t.late.length ≤ 4 ∧ (∃ q, t.slots.get q = none) ∧
    (⟨4, 22⟩ : Tag).tag = 4 ∧ (∃ x ∈ t.late, x.tag = 4) ∧ (∀ x ∈ t.late, x.tag ≠ 5) ∧
    t.late.length = 4 ∧ (t.late.drop 1).length < 4 :=
  ⟨by decide, by decide, ⟨.one, rfl⟩, rfl, ⟨⟨4, 21⟩, by decide, rfl⟩, by decide, rfl, by decide⟩

theorem test_witness_PassChargesCardOrAccount :
    let s := withPayer card
    let t := withPayer (account (.seat .one))
    let u := withPayer { account (.seat .one) with limit := 349 }
    (∀ x : Seat, x ≠ .one → (s.seat x).state ≠ .due) ∧ (s.seat .one).state = .due ∧
    0 < (s.seat .one).due ∧ (s.seat .one).payments.length < 6 ∧ resolve s.payers .one = some 0 ∧
    s.payers.get 0 = some card ∧ card.kind = .card 21 7 ∧ card.charging = none ∧
    card.spent < card.limit ∧ readerPresent s.line.roster 21 = true ∧
    (∀ x e, s.tags.slots.get x = some e → e.reader ≠ 21) ∧ s.line.queue.length < 16 ∧
    resolve t.payers .one = some 0 ∧ t.payers.get 0 = some (account (.seat .one)) ∧
    (account (.seat .one)).spent < (account (.seat .one)).limit ∧
    (∀ j : Fin 8, j ≠ 0 → t.payers.get j = none) ∧
    u.payers.get 0 = some { account (.seat .one) with limit := 349 } ∧
    { ride .due with paid := 350 }.due = 0 ∧ 0 < { ride .due with paid := 349 }.due := by
  refine ⟨fun x n => ?_, rfl, by decide, by decide, by decide, rfl, rfl, rfl, by decide, by decide,
    fun x e h => ?_, by decide, by decide, rfl, by decide, fun j n => ?_, rfl, by decide, by decide⟩
  · cases x
    · exact absurd rfl n
    all_goals decide
  · cases x <;> cases h
  · fin_cases j
    · exact absurd rfl n
    all_goals rfl

/-- Seats 1 and 2 DUE, with the party's card the only payer. -/
theorem test_witness_PartyReaderServesLowestSeat :
    let p : Payer := { card with kind := .card 25 7, scope := .party }
    let s := (withPayer p).setSeat .two (ride .due)
    (∀ x : Seat, seatNumber x < seatNumber .one → (s.seat x).state = .due →
      (s.seat x).due = 0 ∨ 6 ≤ (s.seat x).payments.length) ∧
    (∀ x : Seat, seatNumber x < seatNumber .two → (s.seat x).state = .due →
      ((s.setSeat .one { ride .due with waived := 350 }).seat x).due = 0
        ∨ 6 ≤ (s.seat x).payments.length) ∧
    (s.seat .one).state = .due ∧ (s.seat .two).state = .due ∧ 0 < (s.seat .one).due ∧
    (s.seat .one).payments.length < 6 ∧ s.payers.get 0 = some p ∧ p.scope = .party ∧
    p.kind = .card 25 7 ∧ p.charging = none ∧ p.spent < p.limit ∧
    (∀ j : Fin 8, j ≠ 0 → s.payers.get j = none) ∧ readerPresent s.line.roster 25 = true ∧
    (∀ x e, s.tags.slots.get x = some e → e.reader ≠ 25) ∧ s.line.queue.length < 16 := by
  refine ⟨fun x h => ?_, fun x h => ?_, rfl, rfl, by decide, by decide, rfl, rfl, rfl, rfl, by decide,
    fun j n => ?_, by decide, fun x e h => ?_, by decide⟩
  · cases x <;> exact absurd h (by decide)
  · cases x
    · exact fun _ => .inl rfl
    all_goals exact absurd h (by decide)
  · fin_cases j
    · exact absurd rfl n
    all_goals rfl
  · cases x <;> cases h

theorem test_witness_SilentReaderReturnsBeforeResult :
    Sent paying silentReader 0 ⟨0, 22, 10⟩ ∧ silentReader.cls = .reader ∧ silentReader.timer = none ∧
    ([9, 0, 0, 1, 94, 0, 0, 0] : List Byte).length ≤ 16 :=
  ⟨sent_silent 0 rfl rfl rfl, rfl, rfl, by decide⟩

theorem test_witness_ResultIsMatchedByTag :
    Sent paying reader 0 (fromReader 0) ∧ reader.cls = .reader ∧ reader.timer ≠ none ∧
    2 < (3 : Byte).toNat ∧ (2 : Byte).toNat ≤ 2 ∧ (0 : Byte).toNat = 0 ∧ 0 < (255 : Byte).toNat ∧
    seatOfTag paying (9 : Byte).toNat = some .one ∧ (paying.charges.get .one).isSome = true ∧
    paying.tags.slots.get .one = some ⟨9, 21⟩ ∧ (⟨9, 21⟩ : Tag).reader = reader.addr ∧
    (⟨9, 22⟩ : Tag).reader ≠ reader.addr ∧ seatOfTag paying (8 : Byte).toNat = none ∧
    (∀ x ∈ paying.tags.late, x.tag ≠ (255 : Byte).toNat) ∧
    paying.tags.late.find? (fun y => y.tag = (8 : Byte).toNat) = some ⟨8, 21⟩ ∧
    paying.accounts.shift.state ≠ .closed ∧ accountsCold.shift.state = .closed ∧
    paying.line.queue.length < 16 := by
  refine ⟨sent_reader 0 rfl rfl rfl, rfl, by decide, by decide, by decide, rfl, by decide, by decide,
    rfl, rfl, rfl, by decide, by decide, by decide, by decide, by decide, rfl, by decide⟩

theorem test_witness_ApprovalIsClampedAndCredited :
    (∀ x : Seat, x ≠ .one → (paying.seat x).state ≠ .due) ∧ (paying.seat .one).state = .paying ∧
    paying.payers.get 0 = some { card with charging := some .one } ∧
    { card with charging := some .one }.kind = .card 21 7 ∧
    (∀ j : Fin 8, j ≠ 0 → paying.payers.get j = none) ∧
    0 < min 350 350 ∧ { ride .due with paid := 350 }.due = 0 ∧ 0 < min 1 350 ∧ min 1 350 < 350 ∧
    0 < { ride .due with paid := 1 }.due ∧ min 0 350 = 0 ∧ min 351 350 < 351 ∧
    paying.line.queue.length < 16 := by
  refine ⟨fun x n => ?_, rfl, rfl, rfl, fun j n => ?_, by decide, by decide, by decide, by decide,
    by decide, by decide, by decide, by decide⟩
  · cases x
    · exact absurd rfl n
    all_goals decide
  · fin_cases j
    · exact absurd rfl n
    all_goals rfl

theorem test_witness_ChargeEndsOrIsNotThere :
    paying.line.fifo = [] ∧ (∀ x : Seat, x ≠ .one → (paying.seat x).state ≠ .due) ∧
    (paying.seat .one).state = .paying ∧
    paying.charges.get .one = some { index := 0, requested := 350, ceiling := 35, timer := 60000 } ∧
    paying.tags.slots.get .one = some ⟨9, 21⟩ ∧
    paying.payers.get 0 = some { card with charging := some .one } ∧
    (∀ j : Fin 8, j ≠ 0 → paying.payers.get j = none) ∧ ConsoleReady paying 1 ∧
    stationAt paying.line.roster (21 : BitVec 6).toNat = some reader ∧ reader.cls = .reader ∧
    reader.timer ≠ none ∧ reader.addr = (⟨9, 21⟩ : Tag).reader ∧
    (∀ x f, x ≠ .one → paying.tags.slots.get x = some f → f.reader ≠ 21) ∧
    paying.line.queue.length < 16 ∧ ConsoleReady running 1 ∧
    seatOfNumber (5 : Byte).toNat = none ∧ seatOfNumber (1 : Byte).toNat = some .one ∧
    (running.seat .one).state ≠ .paying ∧ running.charges.get .one = none := by
  refine ⟨rfl, fun x n => ?_, rfl, rfl, rfl, rfl, fun j n => ?_, ready rfl rfl, by decide, rfl,
    by decide, rfl, fun x f n h => ?_, by decide, ready_running, by decide, by decide, by decide, rfl⟩
  · cases x
    · exact absurd rfl n
    all_goals decide
  · fin_cases j
    · exact absurd rfl n
    all_goals rfl
  · cases x
    · exact absurd rfl n
    all_goals cases h

/-- An extra of 100 added while 350 was being charged: the full approval leaves 100. -/
theorem test_witness_FullApprovalChargesRest :
    let r := { ride .paying with extras := (ride .paying).extras.add .toll 100 }
    let s := paying.setSeat .one r
    let c : Charge := { index := 0, requested := 350, ceiling := 35, timer := 60000 }
    let p := { card with charging := some .one }
    let e : Tag := ⟨9, 21⟩
    (∀ x : Seat, x ≠ .one → (s.seat x).state ≠ .due) ∧ (s.seat .one).state = .paying ∧
    s.payers.get c.index = some p ∧ p.charging = some .one ∧ p.kind = .card e.reader 7 ∧
    (p.scope = .seat .one ∨ p.scope = .party) ∧ (∀ j : Fin 8, j ≠ c.index → s.payers.get j = none) ∧
    0 < c.requested ∧ c.requested ≤ 350 ∧ (s.seat .one).payments.length < 5 ∧
    readerPresent s.line.roster e.reader = true ∧
    (∀ x f, x ≠ .one → s.tags.slots.get x = some f → f.reader ≠ e.reader) ∧
    s.line.queue.length < 12 ∧ p.spent + (c.requested + min 35 c.ceiling) < p.limit ∧
    0 < { r with paid := 350 }.due := by
  refine ⟨fun x n => ?_, rfl, rfl, rfl, rfl, .inl rfl, fun j n => ?_, by decide, by decide, by decide,
    by decide, fun x f n h => ?_, by decide, by decide, by decide⟩
  · cases x
    · exact absurd rfl n
    all_goals decide
  · fin_cases j
    · exact absurd rfl n
    all_goals rfl
  · cases x
    · exact absurd rfl n
    all_goals cases h

/-- Seat 1's own card is charged, and the party's card stands beside it. -/
theorem test_witness_RefusedCardFallsBackToParty :
    let r : Payer := { card with kind := .card 25 7, scope := .party }
    let s := paying.setPayers (paying.payers.set 5 (some r))
    let c : Charge := { index := 0, requested := 350, ceiling := 35, timer := 60000 }
    let p := { card with charging := some .one }
    (∀ x : Seat, x ≠ .one → (s.seat x).state ≠ .due) ∧ (s.seat .one).state = .paying ∧
    0 < (s.seat .one).due ∧ (s.seat .one).payments.length < 6 ∧ s.payers.get c.index = some p ∧
    p.charging = some .one ∧ p.scope = .seat .one ∧ (5 : Fin 8) ≠ c.index ∧
    s.payers.get 5 = some r ∧ r.scope = .party ∧ r.kind = .card 25 7 ∧ r.charging = none ∧
    r.spent < r.limit ∧ (∀ k : Fin 8, k ≠ c.index → k ≠ 5 → s.payers.get k = none) ∧
    readerPresent s.line.roster 25 = true ∧
    (∀ x f, x ≠ .one → s.tags.slots.get x = some f → f.reader ≠ 25) ∧ s.line.queue.length < 12 := by
  refine ⟨fun x n => ?_, rfl, by decide, by decide, rfl, rfl, rfl, by decide, rfl, rfl, rfl, rfl,
    by decide, fun k n m => ?_, by decide, fun x f n h => ?_, by decide⟩
  · cases x
    · exact absurd rfl n
    all_goals decide
  · fin_cases k
    · exact absurd rfl n
    · rfl
    · rfl
    · rfl
    · rfl
    · exact absurd rfl m
    all_goals rfl
  · cases x
    · exact absurd rfl n
    all_goals cases h

/-! ### Witnesses: the intercom -/

/-- The seated machine with another intercom. -/
def talking (i : Intercom) : State := (seated .hired).setIntercom i

/-- The intercom in a state, with seat 1's press held. -/
def switch (t : Talk) : Intercom :=
  { intercomStart with state := t, seatPress := (seatsOf none).set .one (some 1500) }

def driver : Station := ⟨2, .driverPanel, 0, some 2000⟩
def panel : Station := ⟨11, .seatPanel, 1, some 2000⟩

theorem sent_driver (i : Intercom) : Sent (talking i) driver 1 ⟨1, 2, 10⟩ :=
  ⟨rfl, rfl, (by decide : stationAt running.line.roster 2 = some driver), rfl, rfl, .inl rfl⟩

theorem sent_panel (i : Intercom) : Sent (talking i) panel 1 ⟨1, 11, 10⟩ :=
  ⟨rfl, rfl, (by decide : stationAt running.line.roster 11 = some panel), rfl, rfl, .inl rfl⟩

theorem test_witness_DriverPressAndRelease :
    (∀ t, Sent (talking (switch t)) driver 1 ⟨1, 2, 10⟩ ∧ (talking (switch t)).intercom.state = t) ∧
    driver.cls = .driverPanel ∧ (switch .idle).driverPress = none ∧
    { switch .driverTalk with driverPress := some 1500 }.driverPress ≠ none ∧
    (switch .guard).pendingDriver = false :=
  ⟨fun t => ⟨sent_driver _, rfl⟩, rfl, rfl, by decide, rfl⟩

theorem test_witness_SeatPressAndRelease :
    (∀ t, Sent (talking (switch t)) panel 1 ⟨1, 11, 10⟩ ∧ (talking (switch t)).intercom.state = t ∧
      (talking (switch t)).line.fifo = [] ∧
      (talking (switch t)).intercom.seatPress.get .one ≠ none) ∧
    panel.cls = .seatPanel ∧ seatOfNumber panel.binding = some .one ∧ panel.timer ≠ none ∧
    (running.seat .one).state = .vacant ∧ ((talking (switch .idle)).seat .one).state ≠ .vacant ∧
    (switch .idle).needsRelease.get .one = false ∧ (switch .idle).mute.get .one = false ∧
    stationAt (talking (switch .idle)).line.roster (11 : BitVec 6).toNat = some panel :=
  ⟨fun t => ⟨sent_panel _, rfl, rfl, Option.some_ne_none 1500⟩, rfl, rfl, by decide, rfl, by decide,
    rfl, rfl, by decide⟩

/-- A press of a muted seat, with room for its report; and an event of the switch. -/
theorem test_witness_MutedPressAndSwitchReports :
    let i := { switch .idle with mute := (seatsOf false).set .one true }
    ((talking i).seat .one).state ≠ .vacant ∧ i.needsRelease.get .one = false ∧
    i.mute.get .one = true ∧ (talking i).line.queue.length < 10 ∧ (talking i).line.fifo = [] ∧
    panel.timer ≠ none ∧ movesSwitch .guardExpiry ∧ ∃ t, exec .guardExpiry (talking i) = .next t :=
  ⟨by decide, rfl, rfl, by decide, rfl, by decide, trivial, _, rfl⟩

theorem test_witness_GuardLimitMuteAndTarget :
    let g := { switch .guard with guardTimer := some 150 }
    let q := { g with queue := [.one], pendingDriver := true, driverPress := some 1500 }
    let l := { switch (.seatTalk .one) with talkTimer := some 30000 }
    (talking g).line.fifo = [] ∧ g.guardTimer ≠ none ∧ q.pendingDriver = true ∧
    q.driverPress ≠ none ∧ g.pendingDriver = false ∧ g.queue = [] ∧ q.queue = .one :: [] ∧
    { q with driverPress := none }.driverPress = none ∧ l.talkTimer ≠ none ∧
    l.state = .seatTalk .one ∧ (∀ i, ConsoleReady (talking i) 1) ∧ ConsoleReady running 1 ∧
    seatOfNumber (0 : Byte).toNat = none ∧ seatOfNumber (1 : Byte).toNat = some .one ∧
    1 < (2 : Byte).toNat ∧ (1 : Byte).toNat = 1 ∧ (0 : Byte).toNat = 0 ∧
    (running.seat .one).state = .vacant ∧ ((talking l).seat .one).state ≠ .vacant ∧
    g.state ≠ .seatTalk .one ∧ 4 < (5 : Byte).toNat ∧
    seatOfNumber (4 : Byte).toNat = some .four := by
  refine ⟨rfl, by decide, rfl, by decide, rfl, rfl, rfl, rfl, by decide, rfl,
    fun i => ready rfl rfl, ready_running, by decide, by decide, by decide, by decide, by decide, rfl,
    by decide, by decide, by decide, by decide⟩

/-! ### Witnesses: the sign and the hold -/

theorem test_witness_FreeSeatsAndSignMode :
    (¬∃ q : Seat, (running.seats.get q).exclusive = true ∧ (running.seats.get q).state ≠ .vacant) ∧
    (∃ q : Seat, ((seatsOf { ride .due with exclusive := true }).get q).exclusive = true ∧
      ((seatsOf { ride .due with exclusive := true }).get q).state ≠ .vacant) ∧
    (∀ q, (running.seats.get q).state = .vacant) ∧ ConsoleReady running 1 ∧ 2 < (3 : Byte).toNat ∧
    1 < (2 : Byte).toNat ∧ (2 : Byte).toNat = modeValue .offDuty ∧ (0 : Byte).toNat = modeValue .onDuty ∧
    (1 : Byte).toNat = true.toNat := by
  refine ⟨?_, ⟨.one, by decide, by decide⟩, fun q => by cases q <;> rfl, ready_running, by decide,
    by decide, by decide, by decide, by decide⟩
  rintro ⟨q, h, _⟩
  cases q <;> cases h

/-- The sign of a pooled ride with three seats free: AVAIL, HIRED and three bars (R144). -/
theorem test_sign_of_pooled_ride :
    let p := signPatterns false .opened .onDuty true (seated .hired).seats
    p.avail = .steady ∧ p.hired = .steady ∧ p.bar3 = .steady ∧ p.bar4 = .off ∧ p.out = .off ∧
    p.offduty = .off := by decide

/-- A third dark sample of HIRED brings its fault (R148). -/
theorem test_witness_LampBoundarySamplesAndLatches :
    let lit : Lamp := { lampStart with on := true, dark := 2 }
    running.line.fifo = [] ∧ running.sign.timebase ≠ none ∧ lit.on = true ∧
    (0 : BitVec 8).getLsbD Channel.hired.number = false ∧
    (255 : BitVec 8).getLsbD Channel.hired.number = true ∧ 2 ≤ lit.dark ∧ lampStart.on = false ∧
    lampStart.fault = false := by
  decide

/-- The halves of the blink cycles, at their last and first milliseconds (R140). -/
theorem test_blink_halves :
    onPeriod 499 .slow = true ∧ onPeriod 500 .slow = false ∧ onPeriod 374 .fast = true ∧
      onPeriod 375 .fast = false ∧ onPeriod 999 .steady = true ∧ onPeriod 0 .off = false := by decide

theorem test_third_dark_sample_raises_lamp :
    let s := running.setSign { running.sign with
      lamps := { running.sign.lamps with hired := { lampStart with on := true, dark := 2 } } }
    let t := after (.lampPeriodBoundary 0xFD) s
    t.sign.lamps.hired.fault = true ∧ t.hold.status.lamp = true ∧ t.monitor.condition.lamp = true ∧
    t.hold.held = false := by
  decide +kernel

theorem test_witness_HoldIsRaisedAndReleased :
    let causes := running.setHold { holdCold with
      held := true, status := (causesOf false).set .overrun true, pointer := some .overrun }
    running.monitor.masked.get .overrun = false ∧ running.monitor.note.get .overrun = false ∧
    running.monitor.note.get .lamp = true ∧ (causesOf true).get Cause.lamp = true ∧
    running.hold.held = false ∧ held.hold.held = true ∧ running.hold.pointer = none ∧
    causes.hold.pointer ≠ none ∧ running.line.queue.length < 15 ∧ ConsoleReady running 1 ∧
    ConsoleReady held 1 ∧ ConsoleReady causes 1 ∧ 9 < (10 : Byte).toNat ∧
    (0 : Byte).toNat = Cause.config.number ∧ (9 : Byte).toNat = Cause.peer.number ∧
    (4 : Byte).toNat = Cause.tamper.number ∧ running.monitor.condition.get .tamper = false ∧
    (causesOf true).get Cause.clock = true ∧ causes.hold.status.get .overrun = true ∧
    (∀ c, held.hold.status.get c = true → held.monitor.note.get c = true) := by
  refine ⟨rfl, rfl, rfl, rfl, rfl, rfl, rfl, by decide, by decide, ready_running, ready_held,
    ready rfl rfl, by decide, by decide, by decide, by decide, rfl, rfl, rfl, fun c h => ?_⟩
  cases c <;> cases h

theorem test_witness_TamperIsFilteredAndRaised :
    let s := { running with
      pins := { running.pins with tamper := true }, tamperFilter := { settled := false, changing := true } }
    s.line.fifo = [] ∧ running.tamperFilter.changing = false ∧ s.tamperFilter.changing = true ∧
    s.start.loaded = true ∧ s.pins.tamper = true ∧ running.pins.tamper = false ∧
    State.reset.start.loaded = false := by
  decide

/-! ### Witnesses: frames and the line -/

def nav : Station := ⟨30, .nav, 0, some 2000⟩

theorem test_witness_NavReportIsTakenInTwoParts :
    let counted := fun n => running.setMotion { running.motion with plausibility := n }
    (∀ n, Sent (counted n) nav 2 ⟨2, 30, 10⟩) ∧ nav.cls = .nav ∧ (1 : Byte).getLsbD 0 = true ∧
    (2 : Byte).getLsbD 0 = false ∧ fromBigEndian [0, 99] < tariff.vMin ∧
    tariff.vMin ≤ fromBigEndian [0, 100] ∧ running.motion.speed = 0 ∧
    { running.motion with speed := 1 }.speed ≠ 0 ∧ 3 + 1 < tariff.nPlaus ∧ 4 + 1 = tariff.nPlaus ∧
    tariff.nPlaus ≤ 5 := by
  refine ⟨fun n => ⟨rfl, rfl, ?_, rfl, rfl, .inl rfl⟩, rfl, by decide, by decide, by decide, by decide,
    rfl, by decide, by decide, by decide, by decide⟩
  change stationAt running.line.roster 30 = some nav
  decide

theorem test_witness_FramesAreValidatedOrDiscarded :
    let h : Header := ⟨1, 2, 10⟩
    running.start.loaded = true ∧ running.line.fifo = [] ∧ h.wf = true ∧
    (h.dest.toNat = running.tariff.own ∨ h.dest.toNat = broadcast) ∧
    (List.replicate 16 (0 : Byte)).length ≤ 16 ∧ 16 < (List.replicate 17 (0 : Byte)).length ∧
    stationAt running.line.roster (50 : BitVec 6).toNat = none ∧ (⟨1, 50, 10⟩ : Header).wf = true ∧
    kindClass 20 ≠ some (2 : BitVec 2).toNat ∧ kindAllowed .driverPanel 22 = false ∧
    stationAt running.line.roster h.source.toNat = some driver ∧ h.cls.toNat = 1 ∧
    (⟨3, 2, 10⟩ : Header).cls.toNat = 3 ∧ driver.timer ≠ none ∧ parseFrame [] = none ∧
    State.reset.start.loaded = false ∧ (header 0 10).wf = false ∧ 16 < (17 : Byte).toNat ∧
    64 ≤ (64 : Byte).toNat ∧ (63 : Byte).toNat = 63 ∧
    ([] : List Byte).head? ≠ some (byte (classValue driver.cls)) ∧
    ([0] : List Byte).head? ≠ some (byte (classValue driver.cls)) := by
  decide

/-- A frame whose check is one bit off is discarded; with its own check it is read (R187). -/
theorem test_witness_FrameWithWrongCheck :
    let body : List Byte := [0x54, 2, 10, 1, 1]
    let good := frameBytes ⟨1, 20, 2, 10, [1]⟩
    parseFrame good = some ⟨1, 20, 2, 10, [1]⟩ ∧ good.take 5 = body ∧
      (0 : Byte).toNat * 256 + (0 : Byte).toNat ≠ (crc16 body).toNat ∧
      parseFrame (body ++ [0, 0]) = none := by decide +kernel

theorem test_witness_PresenceIsHeardAndLost :
    let h := fun (a : BitVec 6) => (⟨3, a, 9⟩ : Header)
    let r := roster.map (fun e => if e.addr = 1 ∨ e.addr = 30 then { e with timer := none } else e)
    let quiet := running.setLine { running.line with roster := r }
    let talk := running.setIntercom { switch .driverTalk with driverPress := some 1500 }
    running.start.loaded = true ∧ running.line.fifo = [] ∧ (h 12).wf = true ∧ (0 : Nat) ≤ 16 ∧
    (h 12).dest.toNat ≠ running.tariff.own ∧ (h 12).dest.toNat ≠ broadcast ∧
    stationAt running.line.roster (50 : BitVec 6).toNat = none ∧
    stationAt running.line.roster 2 = some driver ∧ driver.timer ≠ none ∧
    stationAt quiet.line.roster 1 = some ⟨1, .console, 0, none⟩ ∧
    stationAt running.line.roster 22 = some ⟨22, .reader, 2, none⟩ ∧
    stationAt running.line.roster 12 = some ⟨12, .seatPanel, 2, none⟩ ∧
    seatOfNumber 2 = some .two ∧ presentPanel running.line.roster .two = none ∧
    (∀ x ∈ running.line.roster, x.cls = .seatPanel → x.binding = 2 → x.addr = 12) ∧
    running.line.queue.length < 16 ∧ stationAt running.line.roster 1 = some ⟨1, .console, 0, some 2000⟩ ∧
    stationAt running.line.roster 30 = some nav ∧ stationAt talk.line.roster 2 = some driver ∧
    talk.intercom.state = .driverTalk ∧ talk.intercom.driverPress ≠ none := by
  decide

theorem test_witness_WrongLengthIsOnlyHeard :
    let h := fun (cls : BitVec 2) (a : BitVec 6) => (⟨cls, a, 10⟩ : Header)
    Sent running driver 1 (h 1 2) ∧ driver.timer ≠ none ∧ driver.cls = .driverPanel ∧
    Sent running reader 1 (h 1 21) ∧ Sent running reader 0 (h 0 21) ∧ reader.timer ≠ none ∧
    Sent running nav 2 (h 2 30) ∧ nav.timer ≠ none ∧ Sent running nav 3 (h 3 30) ∧
    ([] : List Byte).length ≠ 1 ∧ (∃ b : Byte, [2] = [b] ∧ 1 < b.toNat) ∧
    [4].head? = some (byte (classValue nav.cls)) :=
  ⟨⟨rfl, rfl, by decide, rfl, rfl, .inl rfl⟩, by decide, rfl,
    ⟨rfl, rfl, by decide, rfl, rfl, .inl rfl⟩, ⟨rfl, rfl, by decide, rfl, rfl, .inl rfl⟩, by decide,
    ⟨rfl, rfl, by decide, rfl, rfl, .inl rfl⟩, by decide,
    ⟨rfl, rfl, by decide, rfl, rfl, .inl rfl⟩, by decide, ⟨2, rfl, by decide⟩, rfl⟩

theorem test_witness_CommandsReachTheirBlock :
    let c : Station := ⟨1, .console, 0, some 2000⟩
    Sent running c 1 ⟨1, 1, 10⟩ ∧ c.cls = .console ∧ consoleAddr running.line.roster = some c.addr ∧
    (∀ x ∈ running.line.roster, x.addr = c.addr → x.timer = some 2000) ∧
    readsService (.readHold 0) = true ∧ running.pins.service = false ∧ ConsoleReady running 1 ∧
    (perform 1 (.hire 0 0) running).2.code ≠ .ok :=
  ⟨⟨rfl, rfl, by decide, rfl, rfl, .inl rfl⟩, rfl, by decide, by decide, rfl, rfl, ready_running,
    by decide⟩

theorem test_witness_CommandsWaitOrAreAnswered :
    let c : Station := ⟨1, .console, 0, some 2000⟩
    let busy := running.setLine { running.line with answerPending := true }
    let e : FifoEntry := ⟨1, [0, 18]⟩
    let full := busy.setLine { busy.line with fifo := [e, e, e, e] }
    State.reset.start.loaded = false ∧ consoleAddr [] = none ∧ running.start.loaded = true ∧
    consoleAddr busy.line.roster = some 1 ∧ busy.line.answerPending = true ∧
    { running.line with resetTimer := some 100 }.resetTimer ≠ none ∧
    { full.line with fifo := [e, e, e] }.fifo.length < 4 ∧ 4 ≤ full.line.fifo.length ∧
    Sent running c 1 ⟨1, 1, 10⟩ ∧ c.cls = .console ∧ c.timer ≠ none ∧
    running.line.answerPending = false ∧ running.line.resetTimer = none ∧ decodeCommand [] = none ∧
    decodeCommand [0, 29] = none ∧ decodeCommand (List.replicate 16 0) = none :=
  ⟨rfl, rfl, rfl, by decide, rfl, by decide, by decide, by decide,
    ⟨rfl, rfl, by decide, rfl, rfl, .inl rfl⟩, rfl, by decide, rfl, rfl, rfl, by decide, by decide⟩

/-- A void, a seat's display and a status, in a queue of each fill. -/
theorem test_witness_TransmitQueueAndLine :
    let void : TxFrame := ⟨21, .void 3, false⟩
    let shown : TxFrame := ⟨11, .seatDisplay .one (displayOf vacantSeat), false⟩
    let pending : TxFrame := ⟨1, .result 0 .ok 18 [], true⟩
    let idle := fun (q : List TxFrame) => running.setLine { running.line with queue := q }
    let full := List.replicate 16 void
    arbitration 0 63 63 < arbitration 1 0 0 ∧ arbitration 1 2 63 < arbitration 1 3 0 ∧
    arbitration 1 2 3 < arbitration 1 2 4 ∧ (63 : Nat) < 64 ∧
    QueueLaw (idle []) ∧ QueueLaw (idle [void, shown]) ∧ QueueLaw (idle full) ∧
    (shown.body.key ≠ none ∧ ∃ g ∈ [void, shown], g.body.key = shown.body.key) ∧
    void.body.key = none ∧ [void, shown].length < 16 ∧
    (full = List.replicate 15 void ++ [void] ∧ full.length = 16) ∧
    running.start.loaded = true ∧ running.line.transmitting = none ∧
    arbitration void.body.cls void.body.kind running.tariff.own ≤ arbitration 0 11 10 ∧
    arbitration 0 11 9 < arbitration void.body.cls void.body.kind running.tariff.own ∧
    running.line.queue = [] ∧ void.answer = false ∧ pending.answer = true ∧
    running.line.resetTimer = none ∧ running.line.statusTimer ≠ none ∧
    decodeCommand (commandPayload 2 .flush) = some .flush := by
  refine ⟨by decide, by decide, by decide, by decide, ?_, ?_, ?_,
    ⟨by decide, _, .tail _ (.head _), rfl⟩, rfl, by decide, ⟨rfl, rfl⟩, rfl, rfl,
    by decide, by decide, rfl, rfl, rfl, rfl, by decide, by decide⟩ <;>
  · unfold QueueLaw
    decide +kernel

/-- A READ_HOLD of page 2 that waits behind the pending RESULT reads SERVICE at the completion:
a free value is drawn for its level. -/
theorem test_waiting_read_hold_reads_service :
    let s := running.setLine { running.line with
      transmitting := some ⟨1, .result 0 .ok 18 [], true⟩, answerPending := true,
      fifo := [{ source := 1, payload := commandPayload 3 (.readHold 2) }] }
    (after .transmissionComplete s).line.fifo = [] ∧ (after .transmissionComplete s).draws = 1 ∧
    (after .transmissionComplete s).pins.service = Config.serviceLevel 0 :=
  ⟨rfl, rfl, rfl⟩

theorem test_witness_CompletionTakesNextCommand :
    let pending : TxFrame := ⟨1, .result 0 .ok 18 [], true⟩
    let s := running.setLine { running.line with
      transmitting := some pending, answerPending := true,
      fifo := [{ source := 1, payload := commandPayload 3 (.readHold 2) }] }
    s.line.transmitting = some pending ∧ pending.answer = true ∧ s.line.resetTimer = none ∧
    s.start.loaded = true ∧ readsService (.readHold 2) = true ∧ readsService .flush = false ∧
    s.line.fifo = [{ source := 1, payload := commandPayload 3 (.readHold 2) }] := by
  decide

theorem test_witness_StoppedTimersDoNothing :
    running.line.fifo = [] ∧ running.start.imageTimer = none ∧ running.line.resetTimer = none ∧
    State.reset.motion.intervalTimer = none ∧ State.reset.line.statusTimer = none ∧
    running.intercom.guardTimer = none ∧ running.intercom.talkTimer = none ∧
    pressRecord running.intercom .driver = none ∧ State.reset.sign.timebase = none := by
  decide

/-! ### Layouts -/

/-- The state that the pages and the STATUS are read from is within the ranges that the layouts ask. -/
theorem test_witness_PagesAndFramesAreLaidOut :
    trip.bandsUsed.length ≤ 4 ∧ trip.payments[0]? = none ∧
    ({ trip with payments := [⟨.cash, 1, 0, none⟩] } : Trip).payments[0]? = some ⟨.cash, 1, 0, none⟩ ∧
    running.hold.trigger.time.day ≤ 7 ∧ (statusReport running).free ≤ 4 ∧
    (statusReport running).selected ≤ 4 ∧ (15 : Nat) < 16 ∧
    (intercomReport running.intercom).queue.length ≤ 4 := by
  decide

/-- The first page of the trip, as the payload tables of the line chapter lay it out. -/
theorem test_trip_page_zero :
    tripPage { trip with shift := 0x0102, identity := 0x1234 } 0
      = some [0, 0, 1, 1, 0, 1, 2, 0x12, 0x34, 0, 1] := by decide

end Sys2Proof.Tests
end

/-! PROOFS. Which parts of the state each operation may change, for the frames of the commands and of
the events (`mayChange`). -/

namespace Sys2Proof.Machine

-- One theorem at a time: the memory limit of the check counts the stack of every thread.
set_option Elab.async false

/-! ### Frames -/

/-- Every part of `s` that is not listed stands in `t` as before. -/
def Frame (ps : List Part) (s t : State) : Prop := ∀ p : Part, p ∉ ps → SamePart s t p

theorem Frame.refl (ps : List Part) (s : State) : Frame ps s s := by
  intro p _
  cases p <;> rfl

theorem Frame.trans {ps : List Part} {s t u : State} (h : Frame ps s t) (k : Frame ps t u) :
    Frame ps s u := by
  intro p hp
  have a := h p hp
  have b := k p hp
  cases p <;> exact b.trans a

/-- A frame holds with more parts listed. -/
theorem Frame.mono {ps qs : List Part} {s t : State} (h : Frame ps s t)
    (sub : ps ⊆ qs := by decide) : Frame qs s t :=
  fun p hp => h p (fun m => hp (sub m))

/-- Two changes one after the other, within a list that holds the parts of both. -/
theorem Frame.comp {ps qs rs : List Part} {s t u : State} (h : Frame ps s t) (k : Frame qs t u)
    (subP : ps ⊆ rs := by decide) (subQ : qs ⊆ rs := by decide) : Frame rs s u :=
  (h.mono subP).trans (k.mono subQ)

theorem Frame.ite {ps : List Part} {s t u : State} {c : Prop} [Decidable c] (h : Frame ps s t)
    (k : Frame ps s u) : Frame ps s (if c then t else u) := by
  split <;> assumption

/-! ### Writes of one part -/

section Writes

variable (s : State)

theorem setPins_frame (v : Pins) : Frame [.pins] s (s.setPins v) := by
  intro p hp
  cases p <;> simp_all [SamePart]

theorem setStart_frame (v : StartState) : Frame [.start] s (s.setStart v) := by
  intro p hp
  cases p <;> simp_all [SamePart]

theorem setMarkerValid_frame (v : Bool) : Frame [.marker] s (s.setMarkerValid v) := by
  intro p hp
  cases p <;> simp_all [SamePart]

theorem setClock_frame (v : Clock) : Frame [.clock] s (s.setClock v) := by
  intro p hp
  cases p <;> simp_all [SamePart]

theorem setTamperFilter_frame (v : TamperFilter) : Frame [.tamper] s (s.setTamperFilter v) := by
  intro p hp
  cases p <;> simp_all [SamePart]

theorem setSeats_frame (v : PerSeat SeatRecord) : Frame [.seats] s (s.setSeats v) := by
  intro p hp
  cases p <;> simp_all [SamePart]

theorem setSeat_frame (q : Seat) (r : SeatRecord) : Frame [.seats] s (s.setSeat q r) :=
  setSeats_frame s _

theorem setTags_frame (v : Tags) : Frame [.tags] s (s.setTags v) := by
  intro p hp
  cases p <;> simp_all [SamePart]

theorem setHold_frame (v : Hold) : Frame [.hold] s (s.setHold v) := by
  intro p hp
  cases p <;> simp_all [SamePart]

theorem setAccounts_frame (v : Accounts) : Frame [.accounts] s (s.setAccounts v) := by
  intro p hp
  cases p <;> simp_all [SamePart]

theorem setTariff_frame (v : Tariff) : Frame [.tariff] s (s.setTariff v) := by
  intro p hp
  cases p <;> simp_all [SamePart]

theorem setBand_frame (v : BandSelector) : Frame [.band] s (s.setBand v) := by
  intro p hp
  cases p <;> simp_all [SamePart]

theorem setMotion_frame (v : Motion) : Frame [.motion] s (s.setMotion v) := by
  intro p hp
  cases p <;> simp_all [SamePart]

theorem setPayers_frame (v : PerIndex (Option Payer)) : Frame [.payers] s (s.setPayers v) := by
  intro p hp
  cases p <;> simp_all [SamePart]

theorem setCharges_frame (v : PerSeat (Option Charge)) : Frame [.charges] s (s.setCharges v) := by
  intro p hp
  cases p <;> simp_all [SamePart]

theorem setIntercom_frame (v : Intercom) : Frame [.intercom] s (s.setIntercom v) := by
  intro p hp
  cases p <;> simp_all [SamePart]

theorem setSign_frame (v : Sign) : Frame [.sign] s (s.setSign v) := by
  intro p hp
  cases p <;> simp_all [SamePart]

theorem setMonitor_frame (v : Monitor) : Frame [.monitor] s (s.setMonitor v) := by
  intro p hp
  cases p <;> simp_all [SamePart]

theorem setLine_frame (v : Line) : Frame [.line] s (s.setLine v) := by
  intro p hp
  cases p <;> simp_all [SamePart]

theorem setDraws_frame (v : Nat) : Frame [.draws] s (s.setDraws v) := by
  intro p hp
  cases p <;> simp_all [SamePart]

end Writes

/-! ### What the queue, a trip's work and a raise may change -/

theorem QueueOnly.frame {s t : State} (h : QueueOnly s t) : Frame sendParts s t := by
  intro p hp
  cases p <;> simp_all [SamePart, sendParts, h.pins, h.start, h.markerValid, h.clock,
    h.tamperFilter, h.seats, h.tags, h.hold, h.accounts, h.tariff, h.band, h.motion, h.payers,
    h.charges, h.intercom, h.sign, h.monitor, h.draws]

theorem FareOnly.frame {s t : State} (h : FareOnly s t) : Frame passParts s t := by
  intro p hp
  cases p <;> simp_all [SamePart, passParts, tripParts, sendParts, h.pins, h.start, h.markerValid,
    h.clock, h.tamperFilter, h.hold, h.tariff, h.band, h.motion, h.monitor, h.draws]

theorem RaiseOnly.frame {s t : State} (h : RaiseOnly s t) : Frame raiseParts s t := by
  intro p hp
  cases p <;> simp_all [SamePart, raiseParts, sendParts, h.pins, h.start, h.markerValid, h.clock,
    h.tamperFilter, h.seats, h.tags, h.tariff, h.band, h.motion, h.payers, h.charges, h.intercom,
    h.draws]

theorem send_frame (dest : Nat) (body : TxBody) (s : State) : Frame sendParts s (send dest body s) :=
  (send_only dest body s).frame

theorem queueStatus_frame (s : State) : Frame sendParts s (queueStatus s) := (queueStatus_only s).frame

theorem computeSign_frame (s : State) : Frame [.sign] s (computeSign s) := setSign_frame s _

theorem reportCondition_frame (c : Cause) (b : Bool) (s : State) :
    Frame [.monitor] s (reportCondition c b s) := setMonitor_frame s _

theorem clearStatus_frame (c : Cause) (s : State) : Frame [.hold] s (clearStatus c s) :=
  setHold_frame s _

theorem raiseCause_frame (c : Cause) (src : Nat) (s : State) :
    Frame raiseParts s (raiseCause c src s) := (raiseCause_raise c src s).frame

/-! ### The intercom switch -/

/-- What a change of the intercom switch may change. -/
def switchParts : List Part := [.intercom] ++ sendParts

theorem changeIntercom_frame (f : Intercom → Intercom) (s : State) :
    Frame switchParts s (changeIntercom f s) := by
  have write := (setIntercom_frame s { f s.intercom with
    gates := gatesOf (f s.intercom).state (f s.intercom).target s.seats })
  unfold changeIntercom
  exact .ite write.mono (write.comp (send_frame _ _ _))

theorem occupancyNotice_frame (q : Seat) (w : Bool) (s : State) :
    Frame switchParts s (occupancyNotice q w s) :=
  .ite (.refl _ s) (.ite (changeIntercom_frame _ s) (changeIntercom_frame _ s))

theorem takePress_frame (k : PressKey) (s : State) : Frame switchParts s (takePress k s) := by
  have write := setIntercom_frame s (setPress k (some lapseTime) s.intercom)
  unfold takePress
  cases k with
  | driver => exact write.comp (changeIntercom_frame _ _)
  | seat q =>
    exact .ite write.mono (.ite (write.comp (send_frame _ _ _))
      (write.comp (changeIntercom_frame _ _)))

theorem takeRelease_frame (k : PressKey) (s : State) : Frame switchParts s (takeRelease k s) := by
  have write := setIntercom_frame s (setPress k none s.intercom)
  unfold takeRelease
  cases k with
  | driver => exact .ite (write.comp (changeIntercom_frame _ _)) (.refl _ s)
  | seat q => exact .ite (write.comp (changeIntercom_frame _ _)) (.refl _ s)

theorem guardExpires_frame (s : State) : Frame switchParts s (guardExpires s) :=
  .ite (changeIntercom_frame _ s) (.refl _ s)

theorem talkLimitExpires_frame (s : State) : Frame switchParts s (talkLimitExpires s) := by
  unfold talkLimitExpires
  split
  · split
    · exact changeIntercom_frame _ s
    · exact .refl _ s
  · exact .refl _ s

/-! ### Shift and seats -/

/-- What a change of the shift may change. -/
def shiftParts : List Part := [.accounts, .sign] ++ sendParts

/-- What a change of a seat's state may change (R40). -/
def seatParts : List Part := [.seats, .intercom, .sign] ++ sendParts

theorem changeShift_frame (sh : Shift) (s : State) : Frame shiftParts s (changeShift sh s) :=
  ((setAccounts_frame s _).comp (computeSign_frame _) : Frame shiftParts s _).comp
    (queueStatus_frame _)

theorem closeShift_frame (s : State) : Frame shiftParts s (closeShift s) :=
  (changeShift_frame _ s).comp (queueReport_only _).frame

theorem afterTrip_frame (o : Bool) (s : State) : Frame shiftParts s (afterTrip o s) := by
  unfold afterTrip
  dsimp only
  split
  · exact .refl _ s
  · exact .ite (.refl _ s) (closeShift_frame s)
  · exact .ite (.ite (changeShift_frame _ s) ((changeShift_frame _ s).trans (closeShift_frame _)))
      (.refl _ s)

theorem takeTrip_frame (t : Trip) (o : Bool) (s : State) : Frame shiftParts s (takeTrip t o s) :=
  (setAccounts_frame s _).comp (afterTrip_frame o _)

theorem changeSeat_frame (q : Seat) (r : SeatRecord) (s : State) :
    Frame seatParts s (changeSeat q r s) :=
  (((setSeat_frame s q r).comp (computeSign_frame _) : Frame seatParts s _).comp
    (occupancyNotice_frame q _ _) : Frame seatParts s _).comp (queueStatus_frame _)

theorem removeScope_frame (sc : Scope) (s : State) : Frame [.payers] s (removeScope sc s) := by
  unfold removeScope
  split
  · exact setPayers_frame s _
  · exact .refl _ s

theorem payersAtClose_frame (q : Seat) (o : Bool) (s : State) :
    Frame [.payers] s (payersAtClose q o s) :=
  .ite (removeScope_frame _ s) ((removeScope_frame _ s).trans (removeScope_frame _ _))

theorem closeSeat_frame (q : Seat) (e : TripEnd) (s : State) : Frame tripParts s (closeSeat q e s) :=
  (((takeTrip_frame _ _ s).comp (payersAtClose_frame q _ _) : Frame tripParts s _).comp
    (changeSeat_frame q _ _) : Frame tripParts s _).comp (compareDisplay_only _ q).frame

theorem closeIfPaid_frame (q : Seat) (s : State) : Frame tripParts s (closeIfPaid q s) :=
  .ite (closeSeat_frame q _ s) (.refl _ s)

theorem warmStartSeat_frame (s : State) (q : Seat) : Frame tripParts s (warmStartSeat s q) :=
  .ite ((changeSeat_frame q _ s).comp (closeIfPaid_frame q _)) (setSeat_frame s q _).mono

theorem warmStartSeats_frame (s : State) : Frame tripParts s (warmStartSeats s) :=
  (((warmStartSeat_frame s .one).trans (warmStartSeat_frame _ .two)).trans
    (warmStartSeat_frame _ .three)).trans (warmStartSeat_frame _ .four)

theorem retireSlot_frame (s : State) (q : Seat) :
    Frame ([.tags] ++ sendParts) s (retireSlot s q) := by
  unfold retireSlot
  split
  · exact .refl _ s
  · exact .ite ((setTags_frame s _).comp (send_frame _ _ _)) (setTags_frame s _).mono

theorem retireSlots_frame (s : State) : Frame ([.tags] ++ sendParts) s (retireSlots s) :=
  (((retireSlot_frame s .one).trans (retireSlot_frame _ .two)).trans
    (retireSlot_frame _ .three)).trans (retireSlot_frame _ .four)

/-! ### Payers and charges -/

theorem beginCharge_frame (i : Fin 8) (q : Seat) (s : State) :
    Frame [.payers] s (beginCharge i q s) := by
  unfold beginCharge
  split
  · split
    · exact setPayers_frame s _
    · exact .refl _ s
  · exact .refl _ s

theorem endCharge_frame (i : Fin 8) (n : Nat) (full : Bool) (s : State) :
    Frame [.payers] s (endCharge i n full s) := by
  unfold endCharge
  split
  · exact .ite (setPayers_frame s _) (.refl _ s)
  · exact .refl _ s

theorem settlePayer_frame (i : Fin 8) (n : Nat) (s : State) :
    Frame [.payers] s (settlePayer i n s) := by
  unfold settlePayer
  split
  · split
    · exact setPayers_frame s _
    · exact .refl _ s
  · exact .refl _ s

theorem setCharge_frame (q : Seat) (c : Option Charge) (e : Option Tag) (s : State) :
    Frame [.charges, .tags] s (setCharge q c e s) :=
  (setCharges_frame s _).comp (setTags_frame _ _)

/-! ### The band selector and the hold -/

theorem evaluateAuto_frame (s : State) : Frame [.band] s (evaluateAuto s) := by
  unfold evaluateAuto
  split
  · exact setBand_frame s _
  · exact .refl _ s

theorem selectAuto_frame (s : State) : Frame [.band] s (selectAuto s) :=
  (setBand_frame s _).trans (evaluateAuto_frame _)

theorem passMinute_frame (s : State) : Frame [.band] s (passMinute s) :=
  .ite (evaluateAuto_frame s) (.refl _ s)

theorem releaseHold_frame (s : State) : Frame ([.hold, .sign] ++ sendParts) s (releaseHold s) :=
  (((setHold_frame s _).comp (send_frame _ _ _) : Frame ([.hold] ++ sendParts) s _).comp
    (queueStatus_frame _) : Frame ([.hold] ++ sendParts) s _).comp (computeSign_frame _)

end Sys2Proof.Machine

/-! PROOFS. What the running main domain keeps: every change that is no start and no load completion
leaves the image, the counts, the totalizers, the band, the hold by CONFIG and the seats' progress in
order (R14, R19, R57, R66, R156, R170). -/

namespace Sys2Proof.Machine

-- One theorem at a time: the memory limit of the check counts the stack of every thread.
set_option Elab.async false

/-! ### Counts (R156, R170, R178) -/

theorem heldAdd_le (max n k : Nat) : heldAdd max n k ≤ max := Nat.min_le_left _ _

theorem le_heldAdd {max n : Nat} (k : Nat) (h : n ≤ max) : n ≤ heldAdd max n k :=
  Nat.le_min.2 ⟨h, Nat.le_add_right n k⟩

/-- The totalizers and the trip counter are within their bounds. -/
def Counted (a : Accounts) : Prop :=
  let z := a.totalizers
  z.total.metres ≤ max32 ∧ z.hired.metres ≤ max32 ∧ z.trips ≤ max32 ∧ z.steps ≤ max32 ∧
  z.fare ≤ max32 ∧ z.voids ≤ max32 ∧ a.tripCounter ≤ max24

theorem countLaw_iff (s : State) : CountLaw s ↔ Counted s.accounts ∧ s.hold.count ≤ max24 := by
  simp only [CountLaw, Counted, and_assoc]

theorem TotalizersGrow.refl (z : Totalizers) : TotalizersGrow z z := by
  simp [TotalizersGrow]

theorem TotalizersGrow.trans {x y z : Totalizers} (h : TotalizersGrow x y) (k : TotalizersGrow y z) :
    TotalizersGrow x z := by
  simp only [TotalizersGrow] at *
  omega

/-- Accounts within their bounds stay so, and no totalizer falls. -/
def AccountsGrow (a b : Accounts) : Prop :=
  Counted a → Counted b ∧ TotalizersGrow a.totalizers b.totalizers

theorem AccountsGrow.trans {a b c : Accounts} (h : AccountsGrow a b) (k : AccountsGrow b c) :
    AccountsGrow a c := fun x =>
  ⟨(k (h x).1).1, (h x).2.trans (k (h x).1).2⟩

/-- The shift record and the trip log may change freely. -/
theorem AccountsGrow.of_eq {a b : Accounts} (z : b.totalizers = a.totalizers)
    (n : b.tripCounter = a.tripCounter) : AccountsGrow a b := by
  intro h
  simp only [Counted, z, n] at *
  exact ⟨h, .refl _⟩

theorem AccountsGrow.refl (a : Accounts) : AccountsGrow a a := .of_eq rfl rfl

theorem nextTripNumber_le {n : Nat} (h : n ≤ max24) : nextTripNumber n ≤ max24 := by
  unfold nextTripNumber
  split
  · decide
  · omega

theorem recordTrip_grow (t : Trip) (a : Accounts) (identity : Nat) :
    AccountsGrow a (recordTrip t a identity) := by
  rintro ⟨total, hired, trips, steps, fare, voids, counter⟩
  exact ⟨⟨total, hired, heldAdd_le _ _ _, heldAdd_le _ _ _, heldAdd_le _ _ _, voids,
      nextTripNumber_le counter⟩,
    le_rfl, le_rfl, le_heldAdd _ trips, le_heldAdd _ steps, le_heldAdd _ fare, le_rfl⟩

theorem addDistance_metres_le {t : Tariff} {max dp : Nat} {m : Metres} (h : m.metres ≤ max) :
    m.metres ≤ (addDistance t max dp m).metres ∧ (addDistance t max dp m).metres ≤ max := by
  unfold addDistance
  split
  · exact ⟨le_rfl, h⟩
  · exact ⟨le_heldAdd _ h, heldAdd_le _ _ _⟩

theorem deliverDistance_grow (dp : Nat) (s : State) :
    AccountsGrow s.accounts (deliverDistance dp s).accounts := by
  rintro ⟨total, hired, rest⟩
  obtain ⟨totalGrows, totalLe⟩ := addDistance_metres_le (t := s.tariff) (dp := dp) total
  have hiredBoth :
      s.accounts.totalizers.hired.metres
          ≤ (deliverDistance dp s).accounts.totalizers.hired.metres ∧
        (deliverDistance dp s).accounts.totalizers.hired.metres ≤ max32 := by
    simp only [deliverDistance, State.setAccounts_accounts]
    split
    · exact addDistance_metres_le hired
    · exact ⟨le_rfl, hired⟩
  exact ⟨⟨totalLe, hiredBoth.2, rest⟩, totalGrows, hiredBoth.1, le_rfl, le_rfl, le_rfl, le_rfl⟩

theorem countVoid_grow (s : State) : AccountsGrow s.accounts (countVoid s).accounts := by
  rintro ⟨total, hired, trips, steps, fare, voids, counter⟩
  exact ⟨⟨total, hired, trips, steps, fare, heldAdd_le _ _ _, counter⟩,
    le_rfl, le_rfl, le_rfl, le_rfl, le_rfl, le_heldAdd _ voids⟩

theorem countHold_grow (s : State) : AccountsGrow s.accounts (countHold s).accounts := by
  unfold countHold
  dsimp only
  split
  · exact .refl _
  · exact .of_eq rfl rfl

theorem afterTrip_grow (o : Bool) (s : State) :
    AccountsGrow s.accounts (afterTrip o s).accounts := by
  obtain ⟨_, _, e⟩ := afterTrip_accounts o s
  rw [e]
  exact .of_eq rfl rfl

theorem closeSeat_grow (q : Seat) (e : TripEnd) (s : State) :
    AccountsGrow s.accounts (closeSeat q e s).accounts := by
  rw [closeSeat_accounts]
  exact AccountsGrow.trans (b := (recordTrip _ s.accounts _)) (recordTrip_grow _ _ _)
    (afterTrip_grow _ (s.setAccounts _))

/-! ### The seats' progress -/

/-- A seat's progress is less than S′ of its active band, and 0 for a band that the image in force does
not define; a VACANT seat has none (R57, R66). -/
def SeatInStep (t : Tariff) (r : SeatRecord) : Prop :=
  r.state ≠ .vacant →
    (∀ b, bandAt t r.activeBand = some b → r.progress < b.size) ∧
    (bandAt t r.activeBand = none → r.progress = 0)

/-- Every seat's progress is below its step. -/
def InStep (s : State) : Prop := ∀ q, SeatInStep s.tariff (s.seat q)

/-- A record keeps its progress and its active band, or is VACANT. -/
def MeterKept (r r' : SeatRecord) : Prop :=
  r'.state = .vacant ∨
    r.state ≠ .vacant ∧ r'.progress = r.progress ∧ r'.activeBand = r.activeBand

theorem MeterKept.refl (r : SeatRecord) : MeterKept r r := by
  by_cases h : r.state = .vacant
  · exact .inl h
  · exact .inr ⟨h, rfl, rfl⟩

theorem MeterKept.trans {a b c : SeatRecord} (h : MeterKept a b) (k : MeterKept b c) :
    MeterKept a c := by
  rcases k with k | ⟨open_, progress, band⟩
  · exact .inl k
  · rcases h with h | ⟨open_', progress', band'⟩
    · exact absurd h open_
    · exact .inr ⟨open_', progress.trans progress', band.trans band'⟩

theorem MeterKept.inStep {t : Tariff} {r r' : SeatRecord} (h : MeterKept r r')
    (k : SeatInStep t r) : SeatInStep t r' := by
  intro occupied
  rcases h with h | ⟨open_, progress, band⟩
  · exact absurd h occupied
  · rw [progress, band]
    exact k open_

/-- What setting one seat's record does to a fact about all seats. -/
theorem forall_seat_set {P : Seat → SeatRecord → Prop} {s : State} {q : Seat} {r : SeatRecord}
    (h : P q r) (k : ∀ p, P p (s.seat p)) (p : Seat) : P p ((s.setSeat q r).seat p) := by
  by_cases e : p = q
  · subst e
    simpa using h
  · rw [State.setSeat_seat_of_ne s r e]
    exact k p

/-! ### A trip's work -/

/-- A trip's work that keeps the meters of open seats and never lowers a totalizer. -/
structure FareRuns (s t : State) : Prop extends FareOnly s t where
  meter : ∀ q, MeterKept (s.seat q) (t.seat q)
  totals : AccountsGrow s.accounts t.accounts

theorem FareRuns.trans {s t u : State} (h : FareRuns s t) (k : FareRuns t u) : FareRuns s u where
  toFareOnly := h.toFareOnly.trans k.toFareOnly
  meter q := (h.meter q).trans (k.meter q)
  totals := h.totals.trans k.totals

theorem FareRuns.refl (s : State) : FareRuns s s where
  toFareOnly := .refl s
  meter _ := .refl _
  totals := .refl _

theorem FareRuns.ite {s t u : State} {c : Prop} [Decidable c] (h : FareRuns s t)
    (k : FareRuns s u) : FareRuns s (if c then t else u) := by
  split <;> assumption

/-- Work that leaves the seats and the accounts alone. -/
theorem FareRuns.of_frame {ps : List Part} {s t : State} (f : FareOnly s t) (h : Frame ps s t)
    (hs : Part.seats ∉ ps := by decide) (ha : Part.accounts ∉ ps := by decide) : FareRuns s t where
  toFareOnly := f
  meter q := by
    have e : t.seats = s.seats := h .seats hs
    simp only [State.seat, e]
    exact .refl _
  totals := by
    have e : t.accounts = s.accounts := h .accounts ha
    rw [e]
    exact .refl _

theorem QueueOnly.fareRuns {s t : State} (h : QueueOnly s t) : FareRuns s t :=
  .of_frame h.fare h.frame

theorem setTags_runs (s : State) (v : Tags) : FareRuns s (s.setTags v) :=
  .of_frame (setTags_fare s v) (setTags_frame s v)

theorem setPayers_runs (s : State) (v : PayerMap) : FareRuns s (s.setPayers v) :=
  .of_frame (setPayers_fare s v) (setPayers_frame s v)

/-- A seat's record replaced by one that keeps the meter. -/
theorem setSeat_runs {s : State} {q : Seat} {r : SeatRecord} (h : MeterKept (s.seat q) r) :
    FareRuns s (s.setSeat q r) where
  toFareOnly := setSeat_fare s q r
  meter := forall_seat_set (P := fun p x => MeterKept (s.seat p) x) h (fun _ => .refl _)
  totals := .refl _

theorem changeSeat_runs {s : State} {q : Seat} {r : SeatRecord} (h : MeterKept (s.seat q) r) :
    FareRuns s (changeSeat q r s) where
  toFareOnly := changeSeat_fare q r s
  meter p := by
    simp only [State.seat, changeSeat_seats]
    exact (setSeat_runs h).meter p
  totals := by
    rw [changeSeat_accounts]
    exact .refl _

theorem closeSeat_runs (q : Seat) (e : TripEnd) (s : State) : FareRuns s (closeSeat q e s) where
  toFareOnly := closeSeat_fare q e s
  meter p := by
    simp only [State.seat, closeSeat_seats]
    exact (setSeat_runs (s := s) (q := q) (r := vacantSeat) (.inl rfl)).meter p
  totals := closeSeat_grow q e s

theorem closeIfPaid_runs (q : Seat) (s : State) : FareRuns s (closeIfPaid q s) :=
  .ite (closeSeat_runs q _ s) (.refl s)

/-- A record of an open seat that differs in neither the progress nor the active band. -/
theorem MeterKept.of_open {r r' : SeatRecord} {x : SeatState} (h : r.state = x)
    (hx : x ≠ .vacant) (progress : r'.progress = r.progress)
    (band : r'.activeBand = r.activeBand) : MeterKept r r' :=
  .inr ⟨h ▸ hx, progress, band⟩

theorem enterPaying_runs (q : Seat) (s : State) : FareRuns s (enterPaying q s) := by
  unfold enterPaying
  dsimp only
  split
  · next h => exact changeSeat_runs (.of_open h.1 (by decide) rfl rfl)
  · exact .refl s

theorem leavePaying_runs (q : Seat) (s : State) : FareRuns s (leavePaying q s) := by
  unfold leavePaying
  dsimp only
  split
  · next h => exact changeSeat_runs (.of_open h (by decide) rfl rfl)
  · exact .refl s

theorem creditCard_runs (q : Seat) (p : Payment) (s : State) : FareRuns s (creditCard q p s) := by
  unfold creditCard
  dsimp only
  split
  · next h =>
    exact (changeSeat_runs (r := { addPayment p (s.seat q) with state := .due })
      (.of_open h (by decide) rfl rfl)).trans (closeIfPaid_runs q _)
  · exact .refl s

theorem creditAccount_runs (q : Seat) (p : Payment) (s : State) :
    FareRuns s (creditAccount q p s) := by
  unfold creditAccount
  dsimp only
  split
  · next h =>
    exact (setSeat_runs (r := addPayment p (s.seat q)) (.of_open h (by decide) rfl rfl)).trans
      (closeIfPaid_runs q _)
  · exact .refl s

theorem setCharge_runs (q : Seat) (c : Option Charge) (e : Option Tag) (s : State) :
    FareRuns s (setCharge q c e s) := .of_frame (setCharge_fare q c e s) (setCharge_frame q c e s)

theorem endCharge_runs (i : Fin 8) (n : Nat) (full : Bool) (s : State) :
    FareRuns s (endCharge i n full s) := .of_frame (endCharge_fare i n full s) (endCharge_frame i n full s)

theorem startCharge_runs (q : Seat) (i : Fin 8) (p : Payer) (r : Nat) (s : State) :
    FareRuns s (startCharge q i p r s) :=
  ((((setTags_runs s _).trans (send_only _ _ _).fareRuns).trans (setCharge_runs _ _ _ _)).trans
    (.of_frame (beginCharge_fare i q _) (beginCharge_frame i q _))).trans (enterPaying_runs q _)

theorem settle_runs (q : Seat) (i : Fin 8) (p : Payer) (n : Nat) (s : State) :
    FareRuns s (settle q i p n s) :=
  (FareRuns.of_frame (settlePayer_fare _ _ s) (settlePayer_frame _ _ s)).trans
    (creditAccount_runs _ _ _)

theorem passSeat_runs (q : Seat) (fuel : Nat) (s : State) : FareRuns s (passSeat q fuel s) := by
  induction fuel generalizing s with
  | zero => exact .refl s
  | succ n ih =>
    unfold passSeat
    split
    · exact .refl s
    · split
      · exact startCharge_runs _ _ _ _ s
      · exact (settle_runs _ _ _ _ s).trans (ih _)

theorem chargePass_runs (s : State) : FareRuns s (chargePass s) :=
  (((passSeat_runs .one _ s).trans (passSeat_runs .two _ _)).trans (passSeat_runs .three _ _)).trans
    (passSeat_runs .four _ _)

/-- A pass with its display comparison. -/
theorem passCompare_runs (s : State) : FareRuns s (compareDisplays (chargePass s)) :=
  (chargePass_runs s).trans (compareDisplays_only _).fareRuns

theorem passAndCompare_runs (s : State) : FareRuns s (passAndCompare s) :=
  (chargePass_runs s).trans (compareIfChanged_only _ _).fareRuns

theorem endWithoutResult_runs (q : Seat) (s : State) : FareRuns s (endWithoutResult q s) := by
  unfold endWithoutResult
  split
  · exact (((((setCharge_runs _ _ _ s).trans (setTags_runs _ _)).trans (send_only _ _ _).fareRuns).trans
      (endCharge_runs _ _ _ _)).trans (leavePaying_runs q _)).trans (passCompare_runs _)
  · exact .refl s

theorem readerSilent_runs (reader : Nat) (s : State) : FareRuns s (readerSilent reader s) := by
  unfold readerSilent
  split
  · exact endWithoutResult_runs _ s
  · exact .refl s

theorem approve_runs (q : Seat) (c : Charge) (e : Tag) (amount tip : Nat) (s : State) :
    FareRuns s (approve q c e amount tip s) := by
  unfold approve
  dsimp only
  refine FareRuns.trans ?_ (passCompare_runs _)
  refine FareRuns.trans ?_ (.ite (creditCard_runs _ _ _) (leavePaying_runs _ _))
  refine FareRuns.trans ?_ (endCharge_runs _ _ _ _)
  exact (FareRuns.ite (send_only _ _ _).fareRuns (.refl s)).trans (setCharge_runs _ _ _ _)

theorem decline_runs (q : Seat) (c : Charge) (s : State) : FareRuns s (decline q c s) :=
  (((setCharge_runs _ _ _ s).trans (endCharge_runs _ _ _ _)).trans (leavePaying_runs q _)).trans
    (passCompare_runs _)

theorem countVoid_runs (s : State) : FareRuns s (countVoid s) where
  toFareOnly := setAccounts_fare s _
  meter _ := .refl _
  totals := countVoid_grow s

theorem lateResult_runs (e : Tag) (approved : Bool) (s : State) :
    FareRuns s (lateResult e approved s) :=
  (FareRuns.ite ((send_only _ _ s).fareRuns.trans (countVoid_runs _)) (.refl s)).trans
    (setTags_runs _ _)

theorem stopSeat_runs {q : Seat} {s : State} (h : (s.seat q).state = .hired) :
    FareRuns s (stopSeat q s) :=
  ((changeSeat_runs (r := stoppedSeat s.clock.time (s.seat q))
    (.of_open h (by decide) rfl rfl)).trans (closeIfPaid_runs q _)).trans (passCompare_runs _)

/-- A record that keeps its state, its progress and its active band keeps its meter. -/
theorem MeterKept.of_eq {r r' : SeatRecord} (state : r'.state = r.state)
    (progress : r'.progress = r.progress) (band : r'.activeBand = r.activeBand) :
    MeterKept r r' := by
  by_cases h : r.state = .vacant
  · exact .inl (state.trans h)
  · exact .inr ⟨h, progress, band⟩

theorem addExtra_runs (q : Seat) (k : ExtraKind) (n : Nat) (s : State) :
    FareRuns s (addExtra q k n s) := by
  have write : FareRuns s (s.setSeat q (applyExtra k n (s.seat q))) :=
    setSeat_runs (.of_eq rfl rfl rfl)
  exact (FareRuns.ite (write.trans (chargePass_runs _)) write).trans
    (compareIfChanged_only s _).fareRuns

theorem splitSeats_runs (k : ExtraKind) (n : Nat) (s : State) :
    FareRuns s (compareIfChanged s (s.setSeats (splitSeats s.seats k n))) := by
  refine FareRuns.trans ?_ (compareIfChanged_only s _).fareRuns
  exact { toFareOnly := setSeats_fare s _
          meter := fun q => by cases q <;> exact .of_eq rfl rfl rfl
          totals := .refl _ }

theorem creditCash_runs (q : Seat) (p : Payment) (s : State) : FareRuns s (creditCash q p s) :=
  (((setSeat_runs (r := addPayment p (s.seat q)) (.of_eq rfl rfl rfl)).trans
    (closeIfPaid_runs q _)).trans (.ite (chargePass_runs _) (.refl _))).trans
    (compareDisplays_only _).fareRuns

/-- The close of a seat whose record was first changed in its money alone. -/
theorem closeAfterWrite_runs {q : Seat} {r : SeatRecord} {s : State} (e : TripEnd)
    (h : MeterKept (s.seat q) r) :
    FareRuns s (compareDisplays (closeSeat q e (s.setSeat q r))) :=
  ((setSeat_runs h).trans (closeSeat_runs q e _)).trans (compareDisplays_only _).fareRuns

theorem presentCard_runs (reader : Nat) (sc : Scope) (ref limit : Nat) (s : State) :
    FareRuns s (presentCard reader sc ref limit s) := by
  have reply : ∀ code index, FareRuns s (cardReply reader code index s) := fun _ _ =>
    (send_only _ _ s).fareRuns
  unfold presentCard
  refine .ite (reply _ _) (.ite (reply _ _) ?_)
  split
  · exact reply _ _
  · refine .ite (reply _ _) ?_
    split
    · exact reply _ _
    · exact ((setPayers_runs s _).trans (send_only _ _ _).fareRuns).trans (passAndCompare_runs _)

/-! ### The accrual (R64 to R70) -/

/-- Whether a number of steps bounds a record's progress: it is less than so many times S′ of the active
band. -/
def WithinSteps (t : Tariff) (n : Nat) (r : SeatRecord) : Prop :=
  ∀ b, bandAt t r.activeBand = some b → r.progress < n * b.size

theorem bandAt_mem {t : Tariff} {n : Nat} {b : Band} (h : bandAt t n = some b) : b ∈ t.bands := by
  unfold bandAt at h
  split at h
  · cases h
  · exact List.mem_of_getElem? h

theorem bandSized.size_pos {b : Band} (h : bandSized b) : 0 < b.size := by
  obtain ⟨np, nt, size⟩ := h
  rw [size]
  positivity

theorem countStep_meter (amount : Nat) (r : SeatRecord) :
    (countStep amount r).progress = r.progress ∧ (countStep amount r).activeBand = r.activeBand ∧
      (countStep amount r).state = r.state := by
  unfold countStep
  dsimp only
  split
  · exact ⟨rfl, rfl, rfl⟩
  · unfold chargeStep
    split <;> exact ⟨rfl, rfl, rfl⟩

/-- A transfer rescales the progress to the new band's S′, rounding down: a bound in steps stays
(R70). -/
theorem transferBand_within {t : Tariff} {selected n : Nat} {b : Band} {r : SeatRecord}
    (sized : ∀ b ∈ t.bands, bandSized b) (active : bandAt t r.activeBand = some b)
    (h : r.progress < n * b.size) : WithinSteps t n (transferBand t selected b r) := by
  have stay : WithinSteps t n r := by
    intro c hc
    rw [active] at hc
    cases hc
    exact h
  unfold transferBand
  split
  · exact stay
  · split
    · exact stay
    · next c hc =>
      intro d hd
      rw [hc] at hd
      cases hd
      have posB := (sized b (bandAt_mem active)).size_pos
      have posC := (sized c (bandAt_mem hc)).size_pos
      change r.progress * c.size / b.size < n * c.size
      rw [Nat.div_lt_iff_lt_mul posB]
      calc r.progress * c.size < n * b.size * c.size := Nat.mul_lt_mul_of_pos_right h posC
        _ = n * c.size * b.size := by ring

/-- A step takes S′ off the progress: a bound of `n + 1` steps becomes one of `n` (R67). -/
theorem reachStep_within {t : Tariff} {selected n : Nat} {b : Band} {r : SeatRecord}
    (sized : ∀ b ∈ t.bands, bandSized b) (active : bandAt t r.activeBand = some b)
    (reached : b.size ≤ r.progress) (h : r.progress < (n + 1) * b.size) :
    WithinSteps t n (reachStep t selected b r) := by
  obtain ⟨progress, band, _⟩ :=
    countStep_meter b.amount { r with progress := r.progress - b.size }
  refine transferBand_within sized ?_ ?_
  · rw [band]
    exact active
  · rw [progress]
    change r.progress - b.size < n * b.size
    rw [Nat.add_mul, Nat.one_mul] at h
    omega

/-- With fuel for the steps that bound it, a delivery leaves the progress below S′ (R66). -/
theorem reachSteps_within {t : Tariff} {selected : Nat} (sized : ∀ b ∈ t.bands, bandSized b)
    (fuel : Nat) (r : SeatRecord) (h : WithinSteps t fuel r) :
    WithinSteps t 1 (reachSteps t selected fuel r) := by
  induction fuel generalizing r with
  | zero =>
    intro b hb
    have := h b hb
    omega
  | succ n ih =>
    unfold reachSteps
    split
    · next none_ =>
      intro b hb
      rw [none_] at hb
      cases hb
    · next b active =>
      split
      · next below =>
        intro c hc
        rw [active] at hc
        cases hc
        omega
      · next reached =>
        exact ih _ (reachStep_within sized active (by omega) (h b active))

/-- A delivery reaches at most 85 steps: progress below S′ and the gain stay below 86 times S′
(R64, R65, R67). -/
theorem gain_within {t : Tariff} {b : Band} {dp k q : Nat} (sized : bandSized b)
    (shares : ∀ x ∈ t.shares, x ≤ 1000) (count : dp ≤ maxCount) (below : q < b.size) :
    q + sharedGain t b dp k < stepFuel * b.size := by
  obtain ⟨np, nt, size⟩ := sized
  have share : shareOf t k ≤ 1000 := by
    unfold shareOf
    rw [List.getD_eq_getElem?_getD]
    cases h : t.shares[k - 1]? with
    | none => simp
    | some x => exact shares x (List.mem_of_getElem? h)
  have base : baseGain b dp ≤ 85 * (b.np * b.nt) := by
    unfold baseGain maxCount at *
    refine max_le ?_ ?_
    · calc dp * b.nt ≤ 255 * b.nt := Nat.mul_le_mul_right _ count
        _ = 85 * (3 * b.nt) := by ring
        _ ≤ 85 * (b.np * b.nt) := Nat.mul_le_mul_left _ (Nat.mul_le_mul_right _ np)
    · calc b.np = 1 * (b.np * 1) := by ring
        _ ≤ 85 * (b.np * b.nt) := Nat.mul_le_mul (by omega) (Nat.mul_le_mul_left _ nt)
  have gain : sharedGain t b dp k ≤ 85 * b.size := by
    calc baseGain b dp * shareOf t k ≤ 85 * (b.np * b.nt) * 1000 := Nat.mul_le_mul base share
      _ = 85 * b.size := by rw [size]; ring
  unfold stepFuel
  omega

/-- The active band stays one that the image defines. -/
theorem reachStep_active {t : Tariff} {selected : Nat} {b : Band} {r : SeatRecord}
    (h : bandAt t r.activeBand = some b) :
    (bandAt t (reachStep t selected b r).activeBand).isSome = true := by
  have band := (countStep_meter b.amount { r with progress := r.progress - b.size }).2.1
  have stay : (bandAt t (countStep b.amount
      { r with progress := r.progress - b.size }).activeBand).isSome = true := by
    rw [band]
    simp [h]
  unfold reachStep transferBand
  split
  · exact stay
  · split
    · exact stay
    · next c hc => simp [hc]

theorem reachSteps_active {t : Tariff} {selected : Nat} (fuel : Nat) (r : SeatRecord)
    (h : (bandAt t r.activeBand).isSome = true) :
    (bandAt t (reachSteps t selected fuel r).activeBand).isSome = true := by
  induction fuel generalizing r with
  | zero => exact h
  | succ n ih =>
    unfold reachSteps
    split
    · exact h
    · next b active =>
      split
      · exact h
      · exact ih _ (reachStep_active active)

/-- The gain of a seat whose progress is below its step leaves it below the step of the band that is
then active (R66, R67, R70). -/
theorem progressSeat_inStep {t : Tariff} {selected dp k : Nat} {r : SeatRecord}
    (sized : ∀ b ∈ t.bands, bandSized b) (shares : ∀ x ∈ t.shares, x ≤ 1000)
    (count : dp ≤ maxCount) (occupied : r.state ≠ .vacant) (h : SeatInStep t r) :
    SeatInStep t (progressSeat t selected dp k r) := by
  unfold progressSeat
  split
  · exact h
  · next b active =>
    intro _
    have within : WithinSteps t stepFuel { r with progress := r.progress + sharedGain t b dp k } := by
      intro c hc
      rw [active] at hc
      cases hc
      exact gain_within (sized b (bandAt_mem active)) shares count ((h occupied).1 b active)
    refine ⟨fun c hc => ?_, fun none_ => ?_⟩
    · have := reachSteps_within (selected := selected) sized stepFuel _ within c hc
      omega
    · have := reachSteps_active (selected := selected) stepFuel
        { r with progress := r.progress + sharedGain t b dp k } (t := t)
        (Option.isSome_iff_exists.2 ⟨b, active⟩)
      rw [none_] at this
      cases this

theorem accrueSeat_inStep {t : Tariff} {selected dp k : Nat} {held : Bool} {r : SeatRecord}
    (sized : ∀ b ∈ t.bands, bandSized b) (shares : ∀ x ∈ t.shares, x ≤ 1000)
    (count : dp ≤ maxCount) (h : SeatInStep t r) :
    SeatInStep t (accrueSeat t selected held dp k r) := by
  have marked : SeatInStep t (markSeat t dp k r) := h
  unfold accrueSeat
  split
  · next hired =>
    have occupied : (markSeat t dp k r).state ≠ .vacant := by
      have : r.state = .hired := by simpa [SeatRecord.hired] using hired
      change r.state ≠ _
      rw [this]
      decide
    dsimp only
    split
    · exact h
    · split
      · exact h
      · exact progressSeat_inStep sized shares count occupied marked
  · exact h

end Sys2Proof.Machine

/-! PROOFS. The relation between a running state and the state after a change that is no start and no
load completion, and the operations of the blocks that keep it. -/

namespace Sys2Proof.Machine

-- One theorem at a time: the memory limit of the check counts the stack of every thread.
set_option Elab.async false

/-! ### The relation -/

/-- The part is HELD, and CONFIG, unmasked and of HOLD severity, keeps it so (R153, R162). -/
def ConfigHolds (s : State) : Prop := s.hold.held = true ∧ holdsNow s .config = true

/-- The selected band and the scheduled bands are among those of a good image; with a rejected one there
is no band (R14, R19). -/
structure BandInForce (t : Tariff) (b : BandSelector) : Prop where
  good : t.good = true →
    1 ≤ t.bands.length ∧ (∀ e ∈ t.schedule, 1 ≤ e.band ∧ e.band ≤ t.bands.length) ∧
    1 ≤ b.selected ∧ b.selected ≤ t.bands.length
  rejected : t.good = false → t.bands = [] ∧ t.manualAllowed = false ∧ b.selected = 0

theorem imageLaw_iff (s : State) :
    ImageLaw s ↔ (s.start.loaded = true →
      BandInForce s.tariff s.band ∧ (s.tariff.good = false → ConfigHolds s)) := by
  unfold ImageLaw ConfigHolds
  refine imp_congr_right fun _ => ⟨fun ⟨good, bad⟩ => ?_, fun ⟨⟨good, bad⟩, held⟩ => ?_⟩
  · exact ⟨⟨good, fun h => ⟨(bad h).1, (bad h).2.1, (bad h).2.2.1⟩⟩, fun h => (bad h).2.2.2⟩
  · exact ⟨good, fun h => ⟨(bad h).1, (bad h).2.1, (bad h).2.2, held h⟩⟩

theorem progressLaw_iff (s : State) :
    ProgressLaw s ↔ SizeLaw s ∧ StartLaw s ∧ (s.start.loaded = true → InStep s) := by
  unfold ProgressLaw InStep SeatInStep
  refine and_congr_right fun _ => and_congr_right fun _ => imp_congr_right fun _ =>
    forall_congr' fun q => imp_congr_right fun _ => ?_
  cases bandAt s.tariff (s.seat q).activeBand <;> simp

/-- `t` follows from `s` by a change that is no start, no stop and no load completion: the supplies'
record and the image are the same, the counts stay within their bounds, no totalizer falls, and the
selected band and the hold by CONFIG stand. -/
structure Stands (s t : State) : Prop where
  start : t.start = s.start
  marker : t.markerValid = s.markerValid
  tariff : t.tariff = s.tariff
  counter : s.motion.counter ≤ maxCount → t.motion.counter ≤ maxCount
  count : s.hold.count ≤ max24 → t.hold.count ≤ max24
  totals : AccountsGrow s.accounts t.accounts
  held : ConfigHolds s → ConfigHolds t
  band : BandInForce s.tariff s.band → BandInForce s.tariff t.band

/-- Such a change that keeps the seats' progress below their steps, too. -/
structure Runs (s t : State) : Prop extends Stands s t where
  progress : SizeLaw s → InStep s → InStep t

theorem Runs.refl (s : State) : Runs s s :=
  ⟨⟨rfl, rfl, rfl, id, id, .refl _, id, id⟩, fun _ h => h⟩

theorem Stands.size {s t : State} (h : Stands s t) (k : SizeLaw s) : SizeLaw t := by
  obtain ⟨bands, shares, counter⟩ := k
  exact ⟨h.tariff ▸ bands, h.tariff ▸ shares, h.counter counter⟩

theorem Stands.trans {s t u : State} (h : Stands s t) (k : Stands t u) : Stands s u where
  start := k.start.trans h.start
  marker := k.marker.trans h.marker
  tariff := k.tariff.trans h.tariff
  counter := k.counter ∘ h.counter
  count := k.count ∘ h.count
  totals := h.totals.trans k.totals
  held := k.held ∘ h.held
  band x := h.tariff ▸ k.band (h.tariff.symm ▸ h.band x)

theorem Runs.trans {s t u : State} (h : Runs s t) (k : Runs t u) : Runs s u where
  toStands := h.toStands.trans k.toStands
  progress z x := k.progress (h.size z) (h.progress z x)

theorem Runs.ite {s t u : State} {c : Prop} [Decidable c] (h : Runs s t) (k : Runs s u) :
    Runs s (if c then t else u) := by
  split <;> assumption

/-- The parts in which no law of the running main domain stands. -/
def quietParts : List Part :=
  [.pins, .clock, .tamper, .tags, .payers, .charges, .intercom, .sign, .display, .line, .draws]

theorem InStep.of_eq {s t : State} (tariff : t.tariff = s.tariff) (seats : t.seats = s.seats)
    (h : InStep s) : InStep t := by
  intro q
  have := h q
  simpa only [State.seat, tariff, seats] using this

theorem ConfigHolds.of_eq {s t : State} (hold : t.hold = s.hold) (monitor : t.monitor = s.monitor)
    (h : ConfigHolds s) : ConfigHolds t := by
  simpa only [ConfigHolds, holdsNow, hold, monitor] using h

/-- A change within the quiet parts. -/
theorem Frame.runs {ps : List Part} {s t : State} (h : Frame ps s t)
    (sub : ps ⊆ quietParts := by decide) : Runs s t := by
  have same : ∀ p, p ∉ quietParts → SamePart s t p := fun p hp => h p (fun m => hp (sub m))
  have start : t.start = s.start := same .start (by decide)
  have marker : t.markerValid = s.markerValid := same .marker (by decide)
  have tariff : t.tariff = s.tariff := same .tariff (by decide)
  have motion : t.motion = s.motion := same .motion (by decide)
  have hold : t.hold = s.hold := same .hold (by decide)
  have accounts : t.accounts = s.accounts := same .accounts (by decide)
  have monitor : t.monitor = s.monitor := same .monitor (by decide)
  have band : t.band = s.band := same .band (by decide)
  have seats : t.seats = s.seats := same .seats (by decide)
  exact ⟨⟨start, marker, tariff, fun x => motion ▸ x, fun x => hold ▸ x, accounts ▸ .refl _,
    .of_eq hold monitor, fun x => band ▸ x⟩, fun _ => .of_eq tariff seats⟩

theorem FareRuns.runs {s t : State} (h : FareRuns s t) : Runs s t where
  start := h.start
  marker := h.markerValid
  tariff := h.tariff
  counter x := h.motion ▸ x
  count x := h.hold ▸ x
  totals := h.totals
  held := .of_eq h.hold h.monitor
  band x := h.band ▸ x
  progress _ x q := h.tariff ▸ (h.meter q).inStep (x q)

theorem QueueOnly.runs {s t : State} (h : QueueOnly s t) : Runs s t := h.fareRuns.runs

/-! ### Shift, distance and motion -/

/-- The accounts change, and parts in which no law stands. -/
theorem Frame.runs_of_accounts {ps : List Part} {s t : State} (h : Frame ps s t)
    (grow : AccountsGrow s.accounts t.accounts) (sub : ps ⊆ .accounts :: quietParts := by decide) :
    Runs s t := by
  have a : Runs s (s.setAccounts t.accounts) := by
    exact ⟨⟨rfl, rfl, rfl, id, id, grow, id, id⟩, fun _ h => h⟩
  refine a.trans (Frame.runs (ps := quietParts) (fun p hp => ?_))
  by_cases e : p = .accounts
  · subst e
    rfl
  · have := h p (fun m => (List.mem_cons.1 (sub m)).elim e hp)
    cases p <;> first | exact this | exact absurd rfl e

theorem changeShift_runs {sh : Shift} (s : State) : Runs s (changeShift sh s) :=
  (changeShift_frame sh s).runs_of_accounts
    (by rw [changeShift_accounts]; exact .of_eq rfl rfl)

theorem closeShift_runs (s : State) : Runs s (closeShift s) :=
  changeShift_runs s |>.trans (queueReport_only _).runs

theorem startClosing_runs (s : State) : Runs s (startClosing s) := changeShift_runs s

theorem deliverDistance_runs (dp : Nat) (s : State) : Runs s (deliverDistance dp s) :=
  (setAccounts_frame s _).runs_of_accounts (deliverDistance_grow dp s)

/-- The motion unit changes, with its interval counter within its bound. -/
theorem setMotion_runs {s : State} {v : Motion}
    (h : s.motion.counter ≤ maxCount → v.counter ≤ maxCount) : Runs s (s.setMotion v) :=
  ⟨⟨rfl, rfl, rfl, h, id, .refl _, id, id⟩, fun _ h => h⟩

theorem countEdge_counter (prescale : Nat) (m : Motion) (h : m.counter ≤ maxCount) :
    (countEdge prescale m).counter ≤ maxCount := by
  unfold countEdge
  split
  · exact h
  · exact heldAdd_le _ _ _

theorem pulseLevel_runs (l : Level) (s : State) : Runs s (pulseLevel l s) := by
  have pin : Runs s (s.setPins { s.pins with pulse := l }) := (setPins_frame s _).runs
  unfold pulseLevel
  dsimp only
  split
  · exact pin
  · exact pin.trans (setMotion_runs id)

theorem settlePulse_runs (s : State) : Runs s (settlePulse s) := by
  unfold settlePulse
  refine .ite (setMotion_runs fun h => ?_) (.refl s)
  split
  · exact countEdge_counter _ _ h
  · exact h

/-! ### The hold monitor (R154 to R162) -/

/-- The hold monitor's records change, CONFIG's hold standing. -/
theorem setHold_runs {s : State} {v : Hold} (count : s.hold.count ≤ max24 → v.count ≤ max24)
    (held : ConfigHolds s → ConfigHolds (s.setHold v)) : Runs s (s.setHold v) :=
  ⟨⟨rfl, rfl, rfl, id, count, .refl _, held, id⟩, fun _ h => h⟩

/-- The monitor's settings stand. -/
theorem setMonitor_runs {s : State} {v : Monitor} (masked : v.masked = s.monitor.masked)
    (note : v.note = s.monitor.note) : Runs s (s.setMonitor v) := by
  refine ⟨⟨rfl, rfl, rfl, id, id, .refl _, fun h => ?_, id⟩, fun _ h => h⟩
  simpa only [ConfigHolds, holdsNow, State.setMonitor_monitor, State.setMonitor_hold, masked, note]
    using h

theorem reportCondition_runs (c : Cause) (b : Bool) (s : State) : Runs s (reportCondition c b s) :=
  setMonitor_runs rfl rfl

theorem markRaised_runs (c : Cause) (src : Nat) (s : State) : Runs s (markRaised c src s) := by
  refine (setHold_runs (v := { s.hold with status := s.hold.status.set c true }) id ?_).trans
    (setMonitor_runs rfl rfl)
  rintro ⟨held, now⟩
  refine ⟨held, ?_⟩
  simp only [holdsNow, State.setHold_hold, State.setHold_monitor, PerCause.get_set] at now ⊢
  split
  · simp only [Bool.and_eq_true] at now ⊢
    exact ⟨⟨trivial, now.1.2⟩, now.2⟩
  · exact now

theorem countHold_runs (s : State) : Runs s (countHold s) := by
  refine Frame.runs_of_accounts (ps := [.accounts]) ?_ (countHold_grow s)
  exact .ite (.refl _ s) (setAccounts_frame s _)

theorem enterHeld_runs (c : Cause) (src : Nat) (s : State) : Runs s (enterHeld c src s) := by
  refine Runs.trans (Runs.trans (Runs.trans (Runs.trans (setHold_runs ?_ ?_)
    (send_only _ _ _).runs) (queueStatus_only _).runs) (computeSign_frame _).runs) (countHold_runs _)
  · exact fun _ => heldAdd_le _ _ _
  · exact fun h => ⟨rfl, h.2⟩

theorem raiseCause_runs (c : Cause) (src : Nat) (s : State) : Runs s (raiseCause c src s) := by
  have marked := markRaised_runs c src s
  exact .ite marked (.ite (marked.trans (enterHeld_runs _ _ _))
    (.ite (marked.trans (setHold_runs id id)) marked))

/-- CONFIG's status is never cleared by a command (R161). -/
theorem clearStatus_runs {c : Cause} (h : c ≠ .config) (s : State) : Runs s (clearStatus c s) := by
  refine setHold_runs id ?_
  rintro ⟨held, now⟩
  refine ⟨held, ?_⟩
  simpa only [holdsNow, State.setHold_hold, State.setHold_monitor, PerCause.get_set,
    if_neg h.symm] using now

/-- The part leaves HELD only while no unmasked HOLD cause stands, so never from a hold by CONFIG
(R162). -/
theorem releaseHold_runs {s : State} (h : allCauses.any (holdsNow s) = false) :
    Runs s (releaseHold s) := by
  refine Runs.trans (Runs.trans (Runs.trans
    (setHold_runs (v := { s.hold with held := false }) id ?_) (send_only _ _ _).runs)
    (queueStatus_only _).runs) (computeSign_frame _).runs
  rintro ⟨_, now⟩
  rw [List.any_eq_false] at h
  exact absurd now (h .config (by decide))

theorem tamperEffect_runs (b : Bool) (s : State) : Runs s (tamperEffect b s) := by
  unfold tamperEffect
  refine .ite (.ite ((raiseCause_runs _ _ s).trans (reportCondition_runs _ _ _))
    (reportCondition_runs _ _ s)) (.ite (setHold_runs id ?_) (.refl s))
  rintro ⟨held, now⟩
  exact ⟨held, now⟩

/-! ### The band selector (R19, R20) -/

theorem latestEntry_mem {es : List ScheduleEntry} {e : ScheduleEntry}
    (h : latestEntry es = some e) : e ∈ es := by
  have fold : ∀ (l : List ScheduleEntry) (best : Option ScheduleEntry),
      l.foldl (fun best e =>
        match best with
        | none => some e
        | some b => if b.start ≤ e.start then some e else some b) best = some e →
      best = some e ∨ e ∈ l := by
    intro l
    induction l with
    | nil => exact fun best h => .inl h
    | cons x xs ih =>
      intro best h
      rw [List.foldl_cons] at h
      rcases ih _ h with k | k
      · cases best with
        | none => exact .inr (by simp_all)
        | some b =>
          dsimp only at k
          split at k
          · exact .inr (by simp_all)
          · exact .inl k
      · exact .inr (List.mem_cons_of_mem _ k)
  rcases fold es none h with k | k
  · cases k
  · exact k

/-- The evaluation selects a band of the image, and none with a rejected one (R19). -/
theorem evaluateBand_inForce {t : Tariff} {b : BandSelector} (c : Clock) (h : BandInForce t b) :
    BandInForce t { b with selected := evaluateBand t c } := by
  constructor
  · intro good
    obtain ⟨some_, schedule, _⟩ := h.good good
    refine ⟨some_, schedule, ?_⟩
    have first : 1 ≤ 1 ∧ 1 ≤ t.bands.length := ⟨le_rfl, some_⟩
    unfold evaluateBand
    simp only [good, Bool.not_true, Bool.false_eq_true, if_false]
    split
    · exact first
    · split
      · next e he => exact schedule e (List.mem_of_mem_filter (latestEntry_mem he))
      · split
        · next e he => exact schedule e (List.mem_of_mem_filter (latestEntry_mem he))
        · exact first
  · intro rejected
    obtain ⟨none_, manual, _⟩ := h.rejected rejected
    exact ⟨none_, manual, by simp [evaluateBand, rejected]⟩

theorem setBand_runs {s : State} {v : BandSelector}
    (h : BandInForce s.tariff s.band → BandInForce s.tariff v) : Runs s (s.setBand v) :=
  ⟨⟨rfl, rfl, rfl, id, id, .refl _, id, h⟩, fun _ h => h⟩

theorem evaluateAuto_runs (s : State) : Runs s (evaluateAuto s) := by
  unfold evaluateAuto
  split
  · exact setBand_runs (evaluateBand_inForce s.clock)
  · exact .refl s

theorem selectAuto_runs (s : State) : Runs s (selectAuto s) :=
  (setBand_runs (v := { s.band with mode := .auto }) fun h => ⟨h.good, h.rejected⟩).trans
    (evaluateAuto_runs _)

theorem passMinute_runs (s : State) : Runs s (passMinute s) := .ite (evaluateAuto_runs s) (.refl s)

/-- MANUAL is taken only where the image allows it, which a rejected one does not (R20). -/
theorem setManual_runs {s : State} {n : Nat} (allowed : s.tariff.manualAllowed = true) (lo : 1 ≤ n)
    (hi : n ≤ s.tariff.bands.length) : Runs s (s.setBand { mode := .manual, selected := n }) := by
  refine setBand_runs fun h => ⟨fun good => ?_, fun rejected => ?_⟩
  · obtain ⟨some_, schedule, _⟩ := h.good good
    exact ⟨some_, schedule, lo, hi⟩
  · have := (h.rejected rejected).2.1
    simp [allowed] at this

/-! ### Seats that begin to meter (R42, R45) -/

/-- A seat takes a record that is in step, and its change is announced. -/
theorem changeSeat_runs_of_inStep {q : Seat} {r : SeatRecord} {s : State}
    (h : SizeLaw s → InStep s → SeatInStep s.tariff r) : Runs s (changeSeat q r s) := by
  have fare := changeSeat_fare q r s
  refine ⟨⟨fare.start, fare.markerValid, fare.tariff, fun x => fare.motion ▸ x,
    fun x => fare.hold ▸ x, ?_, .of_eq fare.hold fare.monitor, fun x => fare.band ▸ x⟩, ?_⟩
  · rw [changeSeat_accounts]
    exact .refl _
  · intro size steps p
    rw [fare.tariff]
    simp only [State.seat, changeSeat_seats]
    exact forall_seat_set (P := fun _ x => SeatInStep s.tariff x) (h size steps) steps p

/-- Progress 0 is in step with every band. -/
theorem seatInStep_of_zero {t : Tariff} {r : SeatRecord} (sized : ∀ b ∈ t.bands, bandSized b)
    (h : r.progress = 0) : SeatInStep t r := by
  refine fun _ => ⟨fun b hb => ?_, fun _ => h⟩
  rw [h]
  exact (sized b (bandAt_mem hb)).size_pos

theorem hire_runs (q : Seat) (pool : Bool) (s : State) :
    Runs s (compareDisplays (changeSeat q (hiredSeat s pool) s)) :=
  (changeSeat_runs_of_inStep fun size _ => seatInStep_of_zero size.1 rfl).trans
    (compareDisplays_only _).runs

/-- A band beyond the image's has no step sizes. -/
theorem bandAt_beyond {t : Tariff} {n : Nat} (h : t.bands.length < n) : bandAt t n = none := by
  unfold bandAt
  split
  · rfl
  · rw [List.getElem?_eq_none_iff]
    omega

/-- A resumed seat keeps its progress at its band; a seat of a band beyond the image's has none and
takes the selected band (R45). -/
theorem resume_runs {q : Seat} {s : State} (h : (s.seat q).state = .due) :
    Runs s (compareDisplays (changeSeat q (resumedSeat s (s.seat q)) s)) := by
  refine (changeSeat_runs_of_inStep fun size steps => ?_).trans (compareDisplays_only _).runs
  have occupied : (s.seat q).state ≠ .vacant := by simp [h]
  obtain ⟨below, zero⟩ := steps q occupied
  unfold resumedSeat resumeBand
  split
  · next beyond => exact seatInStep_of_zero size.1 (zero (bandAt_beyond beyond))
  · exact fun _ => ⟨below, zero⟩

/-! ### An interval and a NAV_REPORT (R26, R33) -/

theorem deliverFare_stands (dp : Nat) (s : State) : Stands s (deliverFare dp s) :=
  Stands.trans (t := s.setSeats (s.seats.map
      (accrueSeat s.tariff s.band.selected s.hold.held dp (riders s.seats))))
    ⟨rfl, rfl, rfl, id, id, .refl _, id, id⟩ (compareDisplays_only _).runs.toStands

theorem deliverFare_runs {dp : Nat} (h : dp ≤ maxCount) (s : State) : Runs s (deliverFare dp s) where
  toStands := deliverFare_stands dp s
  progress size steps := by
    refine (compareDisplays_only _).runs.progress (s := s.setSeats (s.seats.map
      (accrueSeat s.tariff s.band.selected s.hold.held dp (riders s.seats)))) size fun q => ?_
    simp only [State.seat, State.setSeats_seats, State.setSeats_tariff, PerSeat.get_map]
    exact accrueSeat_inStep size.1 size.2.1 h (steps q)

theorem clearPulseLoss_runs (s : State) : Runs s (clearPulseLoss s) :=
  (setMotion_runs (v := { s.motion with plausibility := 0 }) id).trans (reportCondition_runs _ _ _)

/-- The first part of an expiry: the counter is taken, and its overrun raised (R26, steps 1 and 2). -/
def takeCount (s : State) : State :=
  let t := s.setMotion { s.motion with counter := 0 }
  if s.motion.counter = maxCount then raiseCause .overrun t.tariff.own t else t

/-- The last part of an expiry: the shift accounts' delivery, the speed and PULSE_LOSS (R26, steps 3 to 5). -/
def tellCount (dp : Nat) (s : State) : State :=
  let t := updateSpeed dp (deliverDistance dp s)
  if 0 < dp then clearPulseLoss t else t

/-- The parts of an expiry, with the fare engine's delivery between them. -/
theorem expireInterval_eq (s : State) :
    expireInterval s =
      if s.motion.intervalTimer.isSome then
        tellCount s.motion.counter (deliverFare s.motion.counter (takeCount s))
      else s := rfl

theorem takeCount_runs (s : State) : Runs s (takeCount s) := by
  have reset : Runs s (s.setMotion { s.motion with counter := 0 }) :=
    setMotion_runs fun _ => Nat.zero_le _
  exact .ite (reset.trans (raiseCause_runs _ _ _)) reset

theorem tellCount_runs (dp : Nat) (s : State) : Runs s (tellCount dp s) := by
  have told : Runs s (updateSpeed dp (deliverDistance dp s)) :=
    (deliverDistance_runs dp s).trans (setMotion_runs id)
  exact .ite (told.trans (clearPulseLoss_runs _)) told

/-- The counter's bound keeps an expiry's steps within the fare engine's fuel (R24, R67). -/
theorem expireInterval_runs (s : State) : Runs s (expireInterval s) := by
  rw [expireInterval_eq]
  have before := takeCount_runs s
  have after := tellCount_runs s.motion.counter (deliverFare s.motion.counter (takeCount s))
  exact .ite
    { toStands := (before.toStands.trans (deliverFare_stands _ _)).trans after.toStands
      progress := fun size =>
        ((before.trans (deliverFare_runs size.2.2 _)).trans after).progress size } (.refl s)

end Sys2Proof.Machine

/-! PROOFS. What every console command does, said once: it is refused without an effect, or done with one
of the listed effects; the parts an effect may change, and what it keeps of the running main domain (table of
console commands, R190, R197). -/

namespace Sys2Proof.Machine

-- One theorem at a time: the memory limit of the check counts the stack of every thread.
set_option Elab.async false

/-! ### Replies -/

/-- The bytes that a RESULT has room for after its sequence number, code and command (R187, R190). -/
def resultRoom : Nat := 13

/-- A command is refused, with no effect and no data, or done, with an effect `T` and data that a RESULT
has room for. -/
def RepliesWith (s : State) (T : State → Prop) (x : State × Reply) : Prop :=
  (∃ c, c ≠ .ok ∧ x = refuse s c) ∨ (∃ t d, T t ∧ d.length ≤ resultRoom ∧ x = done t d)

section Replies

variable {s t : State} {T : State → Prop} {x y : State × Reply}

theorem refuse_replies {c : ResultCode} (h : c ≠ .ok := by decide) :
    RepliesWith s T (refuse s c) := .inl ⟨c, h, rfl⟩

theorem done_replies {d : List Byte} (h : T t) (len : d.length ≤ resultRoom) :
    RepliesWith s T (done t d) := .inr ⟨t, d, h, len, rfl⟩

theorem ite_replies {c : Prop} [Decidable c] (h : c → RepliesWith s T x)
    (k : ¬c → RepliesWith s T y) : RepliesWith s T (if c then x else y) := by
  split
  · next p => exact h p
  · next p => exact k p

end Replies

@[simp] theorem bigEndian_length (n k : Nat) : (bigEndian n k).length = k := by
  induction k with
  | zero => rfl
  | succ k ih => simp [bigEndian, ih]

@[simp] theorem timeBytes_length (t : DayTime) : (timeBytes t).length = 4 := by simp [timeBytes]

@[simp] theorem optTimeBytes_length (t : Option DayTime) : (optTimeBytes t).length = 4 := by
  simp [optTimeBytes]

theorem bandBytes_length_le (bands : List Nat) : (bandBytes bands).length ≤ 4 := by
  simp [bandBytes]

/-- A totals page has at most twelve items bytes (R176, R190). -/
theorem totalsPage_length_le (a : Accounts) (page : Nat) :
    (totalsPage a page).length ≤ resultRoom := by
  unfold totalsPage resultRoom
  dsimp only
  split <;> simp

theorem tripPage_length_le {t : Trip} {page : Nat} {d : List Byte} (h : tripPage t page = some d) :
    d.length ≤ resultRoom := by
  have bands := bandBytes_length_le t.bandsUsed
  unfold tripPage at h
  unfold resultRoom
  split at h
  · cases h; simp
  · cases h; simp; omega
  · cases h; simp
  · cases h; simp
  · cases h; simp
  · obtain ⟨p, _, rfl⟩ := Option.map_eq_some_iff.1 h
    simp [paymentPage]

theorem payerBytes_length (i : Fin 8) (v : Bool) (p : Payer) :
    (payerBytes i v p).length = resultRoom := by
  simp [payerBytes, resultRoom]

theorem holdPage_length_le (s : State) (page : Nat) : (holdPage s page).length ≤ resultRoom := by
  unfold holdPage resultRoom
  split <;> simp [allCauses, PerCause.list]

theorem splitData_length (v : PerSeat SeatRecord) (n : Nat) :
    (bigEndian (splitTotal v n) 2
      ++ (allSeats.map (fun q => bigEndian (splitApplied v n q) 2)).flatten).length = 10 := by
  simp [allSeats]

theorem mappedBytes_length (i : Fin 8) (limit spent : Nat) (s : State) :
    (mappedBytes i limit spent s).length = 5 := by
  unfold mappedBytes
  split <;> simp

/-! ### What each command does -/

/-- The effects of each console command that is done, with what its owning block has checked; a read has
none (table of console commands). -/
def Performed (src : Nat) (c : Command) (s t : State) : Prop :=
  match c with
  | .reset => t = s.setLine { s.line with resetTimer := some resetTime }
  | .setClock day seconds =>
    t = evaluateAuto (reportCondition .clock false
      (s.setClock { time := { day := day.toNat, seconds := seconds.toNat }, valid := true }))
  | .setBand n =>
    t = selectAuto s ∨
    (s.tariff.manualAllowed = true ∧ 1 ≤ n.toNat ∧ n.toNat ≤ s.tariff.bands.length ∧
      t = s.setBand { mode := .manual, selected := n.toNat })
  | .shiftOpen driver =>
    s.accounts.shift.state = .closed ∧
    t = changeShift
      { state := .opened, number := nextShiftNumber s.accounts.shift.number, driver := driver.toNat,
        identity := s.tariff.identity, openClock := s.clock.time, closeClock := none,
        totals := noTotals } s
  | .shiftClose =>
    s.accounts.shift.state = .opened ∧
    (allVacant s.seats = true ∧ t = closeShift s ∨ allVacant s.seats = false ∧ t = startClosing s)
  | .hire _ _ => ∃ q pool, hireRefusal s q pool = none ∧
      t = compareDisplays (changeSeat q (hiredSeat s pool) s)
  | .stop _ => t = s ∨ ∃ q, (s.seat q).state = .hired ∧ t = stopSeat q s
  | .resume _ => ∃ q, resumeRefusal s q = none ∧
      t = compareDisplays (changeSeat q (resumedSeat s (s.seat q)) s)
  | .cancel _ => ∃ q, (s.seat q).state = .hired ∧ (s.seat q).extras.total = 0 ∧
      t = compareDisplays (closeSeat q .cancelled (s.setSeat q { s.seat q with fare := 0 }))
  | .addExtra _ _ _ => ∃ q k n, (s.seat q).vacant = false ∧ t = addExtra q k n s
  | .splitExtra _ _ => ∃ k n, t = compareIfChanged s (s.setSeats (splitSeats s.seats k n))
  | .cash _ _ _ => ∃ q tendered tip, cashRefusal (s.seat q) = none ∧
      t = creditCash q (cashPayment tendered tip (s.seat q)) s
  | .waive _ => ∃ q, (s.seat q).state = .due ∧
      t = compareDisplays (closeSeat q .settled
        (s.setSeat q { s.seat q with waived := (s.seat q).waived + (s.seat q).due }))
  | .accountMap _ _ _ _ => ∃ i sc account limit tips,
      accountPlace s sc = .ok i ∧ inRange 1 maxLimit limit = true ∧
      t = passAndCompare (setPayer i (some (newPayer (.account account) sc limit tips)) s)
  | .unmap _ => ∃ i p, s.payers.get i = some p ∧ p.charging = none ∧
      t = passAndCompare (setPayer i none s)
  | .flush => t = s.setPayers (s.payers.map flushed) ∨
      t = passAndCompare (s.setPayers (s.payers.map flushed))
  | .abortCharge _ => ∃ q, (s.seat q).state = .paying ∧ t = endWithoutResult q s
  | .intercomMute _ _ =>
    (∃ q, (s.seat q).vacant = false ∧ t = changeIntercom (muteSeat s.tariff.guardTime q) s) ∨
    ∃ q, t = changeIntercom (fun i => { i with mute := i.mute.set q false }) s
  | .intercomTarget _ => ∃ x, t = changeIntercom (fun i => { i with target := x }) s
  | .signMode _ _ => ∃ m p, t = computeSign (s.setSign { s.sign with mode := m, pool := p })
  | .holdTrigger => t = raiseCause .console src s
  | .clearCause _ => ∃ x, x ≠ .config ∧ t = clearStatus x s
  | .holdRelease => s.hold.held = true ∧ allCauses.any (holdsNow s) = false ∧ t = releaseHold s
  | .readTotals _ | .readTrip _ _ | .probeSeat _ | .probeIndex _ | .readHold _ => t = s

section Commands

variable (src : Nat) (s : State)

theorem setClock_replies (day : Byte) (seconds : Word24) :
    RepliesWith s (Performed src (.setClock day seconds) s) (setClockCommand day seconds s) :=
  ite_replies (fun _ => refuse_replies) fun _ => ite_replies (fun _ => refuse_replies) fun _ =>
    done_replies rfl (by simp)

theorem setBand_replies (n : Byte) :
    RepliesWith s (Performed src (.setBand n) s) (setBandCommand n s) :=
  ite_replies (fun _ => refuse_replies) fun _ =>
  ite_replies (fun _ => done_replies (.inl rfl) (by simp)) fun pos =>
  ite_replies (fun _ => refuse_replies) fun allowed =>
  ite_replies (fun _ => refuse_replies) fun le =>
    done_replies (.inr ⟨by simpa using allowed, by omega, by omega, rfl⟩) (by simp)

theorem shiftOpen_replies (driver : Word24) :
    RepliesWith s (Performed src (.shiftOpen driver) s) (shiftOpenCommand driver s) :=
  ite_replies (fun _ => refuse_replies) fun _ => ite_replies (fun _ => refuse_replies) fun closed =>
  ite_replies (fun _ => refuse_replies) fun _ =>
    done_replies ⟨by simpa using closed, rfl⟩ (by simp [resultRoom])

theorem shiftClose_replies :
    RepliesWith s (Performed src .shiftClose s) (shiftCloseCommand s) :=
  ite_replies (fun _ => refuse_replies) fun opened => by
    refine done_replies ⟨by simpa using opened, ?_⟩ (by simp [resultRoom])
    split
    · next h => exact .inl ⟨h, rfl⟩
    · next h => exact .inr ⟨by simpa using h, rfl⟩

theorem readTotals_replies (page : Byte) :
    RepliesWith s (Performed src (.readTotals page) s) (readTotalsCommand page s) :=
  ite_replies (fun _ => refuse_replies) fun _ => ite_replies (fun _ => refuse_replies) fun _ =>
    done_replies rfl (totalsPage_length_le _ _)

theorem readTrip_replies (n : Word24) (page : Byte) :
    RepliesWith s (Performed src (.readTrip n page) s) (readTripCommand n page s) := by
  unfold readTripCommand
  refine ite_replies (fun _ => refuse_replies) fun _ => ?_
  split
  · exact refuse_replies
  · split
    · exact refuse_replies
    · next h => exact done_replies rfl (tripPage_length_le h)

theorem hire_replies (seat pool : Byte) :
    RepliesWith s (Performed src (.hire seat pool) s) (hireCommand seat pool s) := by
  unfold hireCommand
  split
  · split
    · next c h =>
      refine refuse_replies ?_
      rintro rfl
      unfold hireRefusal at h
      split_ifs at h
      all_goals simp at h
    · next h => exact done_replies ⟨_, _, h, rfl⟩ (by simp [resultRoom])
  · exact refuse_replies

theorem stop_replies (seat : Byte) :
    RepliesWith s (Performed src (.stop seat) s) (stopCommand seat s) := by
  unfold stopCommand
  split
  · exact refuse_replies
  · dsimp only
    split
    · next h => exact done_replies (.inr ⟨_, h, rfl⟩) (by simp [resultRoom])
    · exact done_replies (.inl rfl) (by simp [resultRoom])
    · exact refuse_replies
    · exact refuse_replies

theorem resume_replies (seat : Byte) :
    RepliesWith s (Performed src (.resume seat) s) (resumeCommand seat s) := by
  unfold resumeCommand
  split
  · exact refuse_replies
  · split
    · next c h =>
      refine refuse_replies ?_
      rintro rfl
      unfold resumeRefusal at h
      dsimp only at h
      split_ifs at h
      all_goals simp at h
    · next h => exact done_replies ⟨_, h, rfl⟩ (by simp [resultRoom])

theorem cancel_replies (seat : Byte) :
    RepliesWith s (Performed src (.cancel seat) s) (cancelCommand seat s) := by
  unfold cancelCommand
  split
  · exact refuse_replies
  · exact ite_replies (fun _ => refuse_replies) fun hired =>
      ite_replies (fun _ => refuse_replies) fun free =>
        done_replies ⟨_, by simpa using hired, by omega, rfl⟩ (by simp)

theorem addExtra_replies (seat kind : Byte) (amount : Word24) :
    RepliesWith s (Performed src (.addExtra seat kind amount) s)
      (addExtraCommand seat kind amount s) := by
  unfold addExtraCommand
  split
  · exact ite_replies (fun _ => refuse_replies) fun _ =>
      ite_replies (fun _ => refuse_replies) fun occupied =>
        done_replies ⟨_, _, _, by simpa using occupied, rfl⟩ (by simp [resultRoom])
  · exact refuse_replies

theorem splitExtra_replies (kind : Byte) (amount : Word24) :
    RepliesWith s (Performed src (.splitExtra kind amount) s) (splitExtraCommand kind amount s) := by
  unfold splitExtraCommand
  dsimp only
  split
  · exact refuse_replies
  · exact ite_replies (fun _ => refuse_replies) fun _ => ite_replies (fun _ => refuse_replies)
      fun _ => done_replies ⟨_, _, rfl⟩ (by rw [splitData_length]; decide)

theorem cash_replies (seat : Byte) (tendered tip : Word24) :
    RepliesWith s (Performed src (.cash seat tendered tip) s) (cashCommand seat tendered tip s) := by
  unfold cashCommand
  split
  · exact refuse_replies
  · refine ite_replies (fun _ => refuse_replies) fun _ => ?_
    split
    · next c h =>
      refine refuse_replies ?_
      rintro rfl
      unfold cashRefusal at h
      split_ifs at h
      all_goals simp at h
    · next h => exact done_replies ⟨_, _, _, h, rfl⟩ (by simp [resultRoom])

theorem waive_replies (seat : Byte) :
    RepliesWith s (Performed src (.waive seat) s) (waiveCommand seat s) := by
  unfold waiveCommand
  split
  · exact refuse_replies
  · dsimp only
    split
    · exact refuse_replies
    · exact refuse_replies
    · exact refuse_replies
    · next h => exact done_replies ⟨_, h, rfl⟩ (by simp [resultRoom])

theorem accountPlace_error {sc : Scope} {c : ResultCode} (h : accountPlace s sc = .error c) :
    c ≠ .ok := by
  rintro rfl
  unfold accountPlace at h
  split_ifs at h
  · simp at h
  · simp at h
  · split at h <;> simp at h

theorem accountMap_replies (scope : Byte) (account : Word32) (limit : Word24) (tips : Byte) :
    RepliesWith s (Performed src (.accountMap scope account limit tips) s)
      (accountMapCommand scope account limit tips s) := by
  unfold accountMapCommand
  split
  · refine ite_replies (fun _ => refuse_replies) fun range => ?_
    split
    · next h => exact refuse_replies (accountPlace_error s h)
    · next h =>
      exact done_replies ⟨_, _, _, _, _, h, by simp_all, rfl⟩
        (by rw [mappedBytes_length]; decide)
  · exact refuse_replies

theorem unmap_replies (index : Byte) :
    RepliesWith s (Performed src (.unmap index) s) (unmapCommand index s) := by
  unfold unmapCommand
  split
  · exact refuse_replies
  · split
    · exact refuse_replies
    · next h =>
      exact ite_replies (fun _ => refuse_replies) fun idle =>
        done_replies ⟨_, _, h, by simpa using idle, rfl⟩ (payerBytes_length _ _ _).le

theorem flush_replies : RepliesWith s (Performed src .flush s) (flushCommand s) := by
  unfold flushCommand
  refine done_replies ?_ (by simp [resultRoom])
  split
  · exact .inr rfl
  · exact .inl rfl

theorem probeSeat_replies (seat : Byte) :
    RepliesWith s (Performed src (.probeSeat seat) s) (probeSeatCommand seat s) := by
  unfold probeSeatCommand
  split
  · exact refuse_replies
  · split
    · exact refuse_replies
    · split
      · exact refuse_replies
      · exact done_replies rfl (payerBytes_length _ _ _).le

theorem probeIndex_replies (index : Byte) :
    RepliesWith s (Performed src (.probeIndex index) s) (probeIndexCommand index s) := by
  unfold probeIndexCommand
  split
  · exact refuse_replies
  · split
    · exact refuse_replies
    · exact done_replies rfl (payerBytes_length _ _ _).le

theorem abortCharge_replies (seat : Byte) :
    RepliesWith s (Performed src (.abortCharge seat) s) (abortChargeCommand seat s) := by
  unfold abortChargeCommand
  split
  · exact refuse_replies
  · split
    · next h =>
      split
      · exact done_replies ⟨_, h, rfl⟩ (by simp [resultRoom])
      · exact refuse_replies
    · exact refuse_replies

theorem intercomMute_replies (seat on : Byte) :
    RepliesWith s (Performed src (.intercomMute seat on) s) (intercomMuteCommand seat on s) := by
  unfold intercomMuteCommand
  split
  · exact ite_replies (fun _ => refuse_replies) fun occupied =>
      done_replies (.inl ⟨_, by simpa using occupied, rfl⟩) (by simp)
  · exact done_replies (.inr ⟨_, rfl⟩) (by simp)
  · exact refuse_replies

theorem intercomTarget_replies (target : Byte) :
    RepliesWith s (Performed src (.intercomTarget target) s) (intercomTargetCommand target s) := by
  unfold intercomTargetCommand
  split
  · exact done_replies ⟨_, rfl⟩ (by simp)
  · exact refuse_replies

theorem signMode_replies (mode pool : Byte) :
    RepliesWith s (Performed src (.signMode mode pool) s) (signModeCommand mode pool s) := by
  unfold signModeCommand
  split
  · exact done_replies ⟨_, _, rfl⟩ (by simp [resultRoom])
  · exact refuse_replies

theorem clearCause_replies (cause : Byte) :
    RepliesWith s (Performed src (.clearCause cause) s) (clearCauseCommand cause s) := by
  unfold clearCauseCommand
  split
  · exact refuse_replies
  · exact ite_replies (fun _ => refuse_replies) fun other =>
      ite_replies (fun _ => refuse_replies) fun _ =>
      ite_replies (fun _ => refuse_replies) fun _ => done_replies ⟨_, other, rfl⟩ (by simp)

theorem holdRelease_replies :
    RepliesWith s (Performed src .holdRelease s) (holdReleaseCommand s) :=
  ite_replies (fun _ => refuse_replies) fun held => ite_replies (fun _ => refuse_replies)
    fun none_ => done_replies ⟨by simpa using held, by simpa using none_, rfl⟩ (by simp)

theorem readHold_replies (page : Byte) :
    RepliesWith s (Performed src (.readHold page) s) (readHoldCommand page s) :=
  ite_replies (fun _ => refuse_replies) fun _ => done_replies rfl (holdPage_length_le _ _)

/-- Every console command is refused without an effect, or has one of its effects. -/
theorem perform_replies (c : Command) : RepliesWith s (Performed src c s) (perform src c s) := by
  cases c with
  | reset => exact done_replies rfl (by simp)
  | setClock day seconds => exact setClock_replies src s day seconds
  | setBand n => exact setBand_replies src s n
  | shiftOpen driver => exact shiftOpen_replies src s driver
  | shiftClose => exact shiftClose_replies src s
  | readTotals page => exact readTotals_replies src s page
  | readTrip n page => exact readTrip_replies src s n page
  | hire seat pool => exact hire_replies src s seat pool
  | stop seat => exact stop_replies src s seat
  | resume seat => exact resume_replies src s seat
  | cancel seat => exact cancel_replies src s seat
  | addExtra seat kind amount => exact addExtra_replies src s seat kind amount
  | splitExtra kind amount => exact splitExtra_replies src s kind amount
  | cash seat tendered tip => exact cash_replies src s seat tendered tip
  | waive seat => exact waive_replies src s seat
  | accountMap scope account limit tips => exact accountMap_replies src s scope account limit tips
  | unmap index => exact unmap_replies src s index
  | flush => exact flush_replies src s
  | probeSeat seat => exact probeSeat_replies src s seat
  | probeIndex index => exact probeIndex_replies src s index
  | abortCharge seat => exact abortCharge_replies src s seat
  | intercomMute seat on => exact intercomMute_replies src s seat on
  | intercomTarget target => exact intercomTarget_replies src s target
  | signMode mode pool => exact signMode_replies src s mode pool
  | holdTrigger => exact done_replies rfl (by simp)
  | clearCause cause => exact clearCause_replies src s cause
  | holdRelease => exact holdRelease_replies src s
  | readHold page => exact readHold_replies src s page

end Commands

/-- The state after a command is the state before it, or one of the command's effects. -/
theorem perform_cases (src : Nat) (c : Command) (s : State) :
    (perform src c s).1 = s ∨ Performed src c s (perform src c s).1 := by
  rcases perform_replies src s c with ⟨_, _, e⟩ | ⟨t, d, h, _, e⟩
  · exact .inl (by rw [e]; rfl)
  · exact .inr (by rw [e]; exact h)

/-! ### The parts a command may change -/

theorem performed_frame {src : Nat} {c : Command} {s t : State} (h : Performed src c s t) :
    Frame (commandParts c) s t := by
  cases c with
  | reset => subst h; exact Frame.mono (qs := sendParts) (setLine_frame s _)
  | setClock day seconds =>
    subst h
    have told : Frame [.clock, .monitor] s (reportCondition .clock false
        (s.setClock { time := { day := day.toNat, seconds := seconds.toNat }, valid := true })) :=
      (setClock_frame s _).comp (reportCondition_frame _ _ _)
    change Frame ([.clock, .monitor, .band] ++ sendParts) s _
    exact told.comp (evaluateAuto_frame _)
  | setBand n =>
    change Frame ([.band] ++ sendParts) s _
    rcases h with rfl | ⟨_, _, _, rfl⟩
    · exact (selectAuto_frame s).mono
    · exact (setBand_frame s _).mono
  | shiftOpen driver => rw [h.2]; exact changeShift_frame _ s
  | shiftClose =>
    rcases h with ⟨_, ⟨_, rfl⟩ | ⟨_, rfl⟩⟩
    · exact closeShift_frame s
    · exact changeShift_frame _ s
  | hire seat pool =>
    obtain ⟨q, p, _, rfl⟩ := h
    exact (changeSeat_frame _ _ s).trans (compareDisplays_only _).frame.mono
  | resume seat =>
    obtain ⟨q, _, rfl⟩ := h
    exact (changeSeat_frame _ _ s).trans (compareDisplays_only _).frame.mono
  | stop seat =>
    rcases h with rfl | ⟨q, _, e⟩
    · exact .refl _ _
    · rw [e]
      exact (stopSeat_fare q s).frame
  | cancel seat =>
    obtain ⟨q, _, _, rfl⟩ := h
    exact ((setSeat_frame s _ _).mono.trans (closeSeat_frame _ _ _)).trans
      (compareDisplays_only _).frame.mono
  | addExtra seat kind amount => obtain ⟨q, k, n, _, rfl⟩ := h; exact (addExtra_fare q k n s).frame
  | splitExtra kind amount =>
    obtain ⟨k, n, rfl⟩ := h
    change Frame ([.seats] ++ sendParts) s _
    exact (setSeats_frame s _).comp (compareIfChanged_only _ _).frame
  | cash seat tendered tip => obtain ⟨q, _, _, _, rfl⟩ := h; exact (creditCash_fare q _ s).frame
  | waive seat =>
    obtain ⟨q, _, rfl⟩ := h
    exact ((setSeat_frame s _ _).mono.trans (closeSeat_frame _ _ _)).trans
      (compareDisplays_only _).frame.mono
  | accountMap scope account limit tips =>
    obtain ⟨i, _, _, _, _, _, _, rfl⟩ := h
    exact ((setPayers_fare s _).trans (passAndCompare_fare _)).frame
  | unmap index =>
    obtain ⟨i, _, _, _, rfl⟩ := h
    exact ((setPayers_fare s _).trans (passAndCompare_fare _)).frame
  | flush =>
    rcases h with rfl | rfl
    · exact (setPayers_fare s _).frame
    · exact ((setPayers_fare s _).trans (passAndCompare_fare _)).frame
  | abortCharge seat => obtain ⟨q, _, rfl⟩ := h; exact (endWithoutResult_fare q s).frame
  | intercomMute seat on =>
    rcases h with ⟨q, _, rfl⟩ | ⟨q, rfl⟩
    · exact changeIntercom_frame _ s
    · exact changeIntercom_frame _ s
  | intercomTarget target => obtain ⟨x, rfl⟩ := h; exact changeIntercom_frame _ s
  | signMode mode pool =>
    obtain ⟨m, p, rfl⟩ := h
    change Frame ([.sign] ++ sendParts) s _
    exact (setSign_frame s _).comp (computeSign_frame _)
  | holdTrigger => subst h; exact raiseCause_frame _ _ s
  | clearCause cause => 
    obtain ⟨x, _, rfl⟩ := h
    change Frame ([.hold] ++ sendParts) s _
    exact (clearStatus_frame x s).mono
  | holdRelease => rw [h.2.2]; exact releaseHold_frame s
  | readTotals | readTrip | probeSeat | probeIndex | readHold => rw [h]; exact .refl _ _

theorem perform_frame (src : Nat) (c : Command) (s : State) :
    Frame (commandParts c) s (perform src c s).1 := by
  rcases perform_cases src c s with e | h
  · rw [e]
    exact .refl _ s
  · exact performed_frame h

/-! ### What a command keeps -/

theorem performed_runs {src : Nat} {c : Command} {s t : State} (h : Performed src c s t) :
    Runs s t := by
  cases c with
  | reset => subst h; exact (setLine_frame s _).runs
  | setClock day seconds =>
    subst h
    exact ((setClock_frame s _).runs.trans (reportCondition_runs _ _ _)).trans (evaluateAuto_runs _)
  | setBand n =>
    rcases h with rfl | ⟨allowed, lo, hi, rfl⟩
    · exact selectAuto_runs s
    · exact setManual_runs allowed lo hi
  | shiftOpen driver => rw [h.2]; exact changeShift_runs s
  | shiftClose =>
    rcases h with ⟨_, ⟨_, rfl⟩ | ⟨_, rfl⟩⟩
    · exact closeShift_runs s
    · exact startClosing_runs s
  | hire seat pool => obtain ⟨q, p, _, rfl⟩ := h; exact hire_runs q p s
  | stop seat =>
    rcases h with rfl | ⟨q, hired, e⟩
    · exact .refl _
    · rw [e]
      exact (stopSeat_runs hired).runs
  | resume seat =>
    obtain ⟨q, free, rfl⟩ := h
    refine resume_runs ?_
    unfold resumeRefusal at free
    dsimp only at free
    split_ifs at free
    all_goals simp_all
  | cancel seat =>
    obtain ⟨q, _, _, rfl⟩ := h
    exact (closeAfterWrite_runs (r := { s.seat q with fare := 0 }) _ (.of_eq rfl rfl rfl)).runs
  | addExtra seat kind amount => obtain ⟨q, k, n, _, rfl⟩ := h; exact (addExtra_runs q k n s).runs
  | splitExtra kind amount => obtain ⟨k, n, rfl⟩ := h; exact (splitSeats_runs k n s).runs
  | cash seat tendered tip => obtain ⟨q, _, _, _, rfl⟩ := h; exact (creditCash_runs q _ s).runs
  | waive seat =>
    obtain ⟨q, _, rfl⟩ := h
    exact (closeAfterWrite_runs
      (r := { s.seat q with waived := (s.seat q).waived + (s.seat q).due }) _
      (.of_eq rfl rfl rfl)).runs
  | accountMap scope account limit tips =>
    obtain ⟨i, _, _, _, _, _, _, rfl⟩ := h
    exact ((setPayers_runs s _).trans (passAndCompare_runs _)).runs
  | unmap index =>
    obtain ⟨i, _, _, _, rfl⟩ := h
    exact ((setPayers_runs s _).trans (passAndCompare_runs _)).runs
  | flush =>
    rcases h with rfl | rfl
    · exact (setPayers_runs s _).runs
    · exact ((setPayers_runs s _).trans (passAndCompare_runs _)).runs
  | abortCharge seat => obtain ⟨q, _, rfl⟩ := h; exact (endWithoutResult_runs q s).runs
  | intercomMute seat on =>
    rcases h with ⟨q, _, rfl⟩ | ⟨q, rfl⟩
    · exact (changeIntercom_frame _ s).runs
    · exact (changeIntercom_frame _ s).runs
  | intercomTarget target => obtain ⟨x, rfl⟩ := h; exact (changeIntercom_frame _ s).runs
  | signMode mode pool =>
    obtain ⟨m, p, rfl⟩ := h
    exact (setSign_frame s _).runs.trans (computeSign_frame _).runs
  | holdTrigger => subst h; exact raiseCause_runs _ _ s
  | clearCause cause => obtain ⟨x, other, rfl⟩ := h; exact clearStatus_runs other s
  | holdRelease => rw [h.2.2]; exact releaseHold_runs h.2.1
  | readTotals | readTrip | probeSeat | probeIndex | readHold => rw [h]; exact .refl _

theorem perform_runs (src : Nat) (c : Command) (s : State) : Runs s (perform src c s).1 := by
  rcases perform_cases src c s with e | h
  · rw [e]
    exact .refl s
  · exact performed_runs h

end Sys2Proof.Machine

/-! PROOFS. The command intake: a payload decodes to its command, a command taken out of the FIFO, and the
rows of the console's commands (R190, R196, R197). -/

namespace Sys2Proof.Machine

-- One theorem at a time: the memory limit of the check counts the stack of every thread.
set_option Elab.async false

/-! ### Payloads (R190) -/

theorem join24_split24 (w : Word24) :
    join24 (w.extractLsb' 16 8) (w.extractLsb' 8 8) (w.extractLsb' 0 8) = w := by
  unfold join24
  rw [BitVec.extractLsb'_append_extractLsb'_eq_extractLsb' (show 16 = 8 + 8 from rfl),
    BitVec.extractLsb'_append_extractLsb'_eq_extractLsb' (show 8 = 0 + 8 from rfl)]
  exact BitVec.extractLsb'_eq_self

theorem join32_split32 (w : Word32) :
    join32 (w.extractLsb' 24 8) (w.extractLsb' 16 8) (w.extractLsb' 8 8) (w.extractLsb' 0 8) = w := by
  unfold join32
  rw [BitVec.extractLsb'_append_extractLsb'_eq_extractLsb' (show 24 = 16 + 8 from rfl),
    BitVec.extractLsb'_append_extractLsb'_eq_extractLsb' (show 16 = 8 + 8 from rfl),
    BitVec.extractLsb'_append_extractLsb'_eq_extractLsb' (show 8 = 0 + 8 from rfl)]
  exact BitVec.extractLsb'_eq_self

/-- The payload of a COMMAND frame decodes to its command: a word argument is joined from its bytes. -/
theorem decodeCommand_commandPayload (seq : Byte) (c : Command) :
    decodeCommand (commandPayload seq c) = some c := by
  cases c with
  | setClock day seconds => exact congrArg (some <| Command.setClock day ·) (join24_split24 seconds)
  | shiftOpen driver => exact congrArg (some <| Command.shiftOpen ·) (join24_split24 driver)
  | readTrip n page => exact congrArg (some <| Command.readTrip · page) (join24_split24 n)
  | addExtra seat kind amount => exact congrArg (some <| Command.addExtra seat kind ·) (join24_split24 amount)
  | splitExtra kind amount => exact congrArg (some <| Command.splitExtra kind ·) (join24_split24 amount)
  | cash seat tendered tip =>
    exact congrArg₂ (some <| Command.cash seat · ·) (join24_split24 tendered) (join24_split24 tip)
  | accountMap scope account limit tips =>
    exact congrArg₂ (some <| Command.accountMap scope · · tips) (join32_split32 account)
      (join24_split24 limit)
  | _ => rfl

theorem commandPayload_length (seq : Byte) (c : Command) :
    2 ≤ (commandPayload seq c).length ∧ (commandPayload seq c).length ≤ 11 := by
  cases c <;> simp [commandPayload, Command.args, split24, split32]

/-! ### Taking a command -/

/-- The parts that the SERVICE level read by a command changes at a row that carries it. -/
def serviceParts (c : Command) : List Part := if readsService c = true then [.pins] else []

/-- The level of SERVICE that a command's row carries. -/
def rowLevel (service : Bool) (c : Command) : Option Bool :=
  if readsService c = true then some service else none

/-- At its own row a command draws no free value. -/
theorem withService_frame (service : Bool) (c : Command) (s : State) :
    Frame (serviceParts c) s (withService (rowLevel service c) c s) := by
  cases h : readsService c
  · rw [withService_unread h]
    exact .refl _ s
  · simp only [serviceParts, rowLevel, h, if_true, withService_read h]
    exact setPins_frame s _

theorem withService_frame_any (v : Option Bool) (c : Command) (s : State) :
    Frame [.pins, .draws] s (withService v c s) := by
  refine .ite ?_ (.refl _ s)
  cases v with
  | some b => exact (setPins_frame s _).mono
  | none => exact (setPins_frame s _).comp (setDraws_frame _ _)

theorem answerCommand_frame (e : FifoEntry) (x : State × Reply) :
    Frame (.draws :: sendParts) x.1 (answerCommand e x) := by
  have sent : Frame sendParts x.1 (enqueue (resultFrame e x.2 true x.1.draws)
      (x.1.setLine { x.1.line with answerPending := true })) :=
    (setLine_frame x.1 _).comp (enqueue_only _ _).frame
  exact .ite (sent.comp (setDraws_frame _ _)) sent.mono

/-- The RESULT to a payload that holds a sequence number and a code draws nothing. -/
theorem answerCommand_frame_full {e : FifoEntry} (h : 2 ≤ e.payload.length) (x : State × Reply) :
    Frame sendParts x.1 (answerCommand e x) := by
  unfold answerCommand drawEcho
  rw [if_neg (by omega)]
  exact (setLine_frame x.1 _).comp (enqueue_only _ _).frame

/-- What a command taken out of the FIFO may change. -/
def takenParts : List Part := [.pins, .clock, .band, .draws] ++ frameParts

theorem commandParts_subset (c : Command) : commandParts c ⊆ takenParts := by
  cases c <;> simp only [commandParts] <;> decide

theorem performDecoded_frame (v : Option Bool) (src : Nat) (c : Option Command) (s : State) :
    Frame takenParts s (performDecoded v src c s).1 := by
  cases c with
  | none => exact .refl _ s
  | some c =>
    exact (withService_frame_any v c s).comp (perform_frame src c _) (by decide)
      (commandParts_subset c)

theorem takeEntry_frame (v : Option Bool) (e : FifoEntry) (s : State) :
    Frame takenParts s (takeEntry v e s) :=
  (performDecoded_frame v e.source _ s).comp (answerCommand_frame e _) (fun _ h => h)

/-- What an event's taking of commands may change. -/
theorem takeCommands_frame (v : Option Bool) (s : State) : Frame takenParts s (takeCommands v s) :=
  drain_induct (P := Frame takenParts s)
    (fun e rest u h _ _ => (h.comp (setLine_frame u { u.line with fifo := rest })
      (fun _ m => m)).trans (takeEntry_frame v e _)) _ s (.refl _ s)

theorem takeEntry_runs (v : Option Bool) (e : FifoEntry) (s : State) : Runs s (takeEntry v e s) := by
  refine Runs.trans ?_ (answerCommand_frame e _).runs
  unfold performDecoded
  split
  · exact (withService_frame_any v _ s).runs.trans (perform_runs _ _ _)
  · exact .refl s

/-- What an event's taking of commands keeps. -/
theorem takeCommands_runs (v : Option Bool) (s : State) : Runs s (takeCommands v s) :=
  drain_induct (P := Runs s)
    (fun e rest u h _ _ => (h.trans (setLine_frame u { u.line with fifo := rest }).runs).trans
      (takeEntry_runs v e _)) _ s (.refl s)

/-! ### The rows of the console's commands -/

/-- The row of a command is its arrival at the intake. -/
theorem exec_rowOf (service : Bool) (seq : Byte) (c : Command) (s : State) :
    exec (rowOf service seq c) s = .next (consoleRow (rowLevel service c) seq c s) := by
  cases c <;> rfl

/-- Every command of the table is the row of a console command, or an event. -/
theorem row_or_event (i : Instr) :
    (∃ service seq c, i = rowOf service seq c) ∨ Laws.commandOf i = none := by
  cases i with
  | reset q => exact .inl ⟨false, q, .reset, rfl⟩
  | setClock q d n => exact .inl ⟨false, q, .setClock d n, rfl⟩
  | setBand q n => exact .inl ⟨false, q, .setBand n, rfl⟩
  | shiftOpen q d => exact .inl ⟨false, q, .shiftOpen d, rfl⟩
  | shiftClose q => exact .inl ⟨false, q, .shiftClose, rfl⟩
  | readTotals q p => exact .inl ⟨false, q, .readTotals p, rfl⟩
  | readTrip q n p => exact .inl ⟨false, q, .readTrip n p, rfl⟩
  | hire q x p => exact .inl ⟨false, q, .hire x p, rfl⟩
  | stop q x => exact .inl ⟨false, q, .stop x, rfl⟩
  | resume q x => exact .inl ⟨false, q, .resume x, rfl⟩
  | cancel q x => exact .inl ⟨false, q, .cancel x, rfl⟩
  | addExtra q x k n => exact .inl ⟨false, q, .addExtra x k n, rfl⟩
  | splitExtra q k n => exact .inl ⟨false, q, .splitExtra k n, rfl⟩
  | cash q x n p => exact .inl ⟨false, q, .cash x n p, rfl⟩
  | waive q x => exact .inl ⟨false, q, .waive x, rfl⟩
  | accountMap q x i n p => exact .inl ⟨false, q, .accountMap x i n p, rfl⟩
  | unmap q i => exact .inl ⟨false, q, .unmap i, rfl⟩
  | flush q => exact .inl ⟨false, q, .flush, rfl⟩
  | probeSeat q x => exact .inl ⟨false, q, .probeSeat x, rfl⟩
  | probeIndex q i => exact .inl ⟨false, q, .probeIndex i, rfl⟩
  | abortCharge q x => exact .inl ⟨false, q, .abortCharge x, rfl⟩
  | intercomMute q x n => exact .inl ⟨false, q, .intercomMute x n, rfl⟩
  | intercomTarget q n => exact .inl ⟨false, q, .intercomTarget n, rfl⟩
  | signMode q m p => exact .inl ⟨false, q, .signMode m p, rfl⟩
  | holdTrigger q => exact .inl ⟨false, q, .holdTrigger, rfl⟩
  | clearCause v q c => exact .inl ⟨v, q, .clearCause c, rfl⟩
  | holdRelease q => exact .inl ⟨false, q, .holdRelease, rfl⟩
  | readHold v q p => exact .inl ⟨v, q, .readHold p, rfl⟩
  | _ => exact .inr rfl

theorem mayChange_rowOf (service : Bool) (seq : Byte) (c : Command) :
    mayChange (rowOf service seq c) = serviceParts c ++ commandParts c := by
  cases c <;> rfl

theorem arrive_runs (e : FifoEntry) (s : State) : Runs s (arrive e s) := by
  refine .ite (setLine_frame s _).runs ?_
  have sent := (enqueue_only (resultFrame e ⟨.busy, []⟩ false s.draws) s).runs
  exact .ite (sent.trans (setDraws_frame _ _).runs) sent

theorem consoleRow_runs (v : Option Bool) (seq : Byte) (c : Command) (s : State) :
    Runs s (consoleRow v seq c s) := by
  unfold consoleRow
  split
  · split
    · exact (arrive_runs _ s).trans (takeCommands_runs v _)
    · exact .refl s
  · exact .refl s

theorem sendParts_subset (c : Command) : sendParts ⊆ commandParts c := by
  cases c <;> simp only [commandParts] <;> decide

/-- A COMMAND that finds the FIFO empty joins it. -/
theorem arrive_of_empty {s : State} (e : FifoEntry) (h : s.line.fifo = []) :
    arrive e s = s.setLine { s.line with fifo := [e] } := by
  simp [arrive, h, fifoPlaces]

/-- With an empty FIFO a console row changes what its command may change: it is taken at once, or joins the
FIFO (R197). -/
theorem consoleRow_frame {s : State} (service : Bool) (seq : Byte) (c : Command)
    (h : s.line.fifo = []) :
    Frame (serviceParts c ++ commandParts c) s (consoleRow (rowLevel service c) seq c s) := by
  have sub : commandParts c ⊆ serviceParts c ++ commandParts c := List.subset_append_right _ _
  have sends : sendParts ⊆ serviceParts c ++ commandParts c := fun _ m => sub (sendParts_subset c m)
  have joins : ∀ e, Frame (serviceParts c ++ commandParts c) s (arrive e s) := fun e => by
    rw [arrive_of_empty e h]
    exact (setLine_frame s _).mono
      (List.Subset.trans (by decide : [Part.line] ⊆ sendParts) sends)
  unfold consoleRow
  split
  · split
    · next a _ =>
      by_cases k : canTake s = true
      · rw [takeCommands_arrive h k]
        unfold takeEntry
        rw [decodeCommand_commandPayload]
        have performed : Frame (serviceParts c ++ commandParts c) s
            (perform a c (withService (rowLevel service c) c s)).1 :=
          (withService_frame service c s).comp (perform_frame a c _)
            (List.subset_append_left _ _) sub
        exact performed.comp (answerCommand_frame_full (commandPayload_length seq c).1 _)
          (fun _ m => m) sends
      · rw [takeCommands_of_blocked]
        · exact joins _
        · rw [arrive_of_empty _ h]
          exact Bool.eq_false_iff.2 k
    · exact .refl _ s
  · exact .refl _ s

end Sys2Proof.Machine

/-! PROOFS. What each event of the table does: the parts it may change, that it leaves the waiting commands
alone, and what it keeps of the running main domain; and the five ways in which a step can follow
(R1 to R7, R21 to R36, R104 to R114, R122 to R131, R148, R158, R187 to R201). -/

namespace Sys2Proof.Machine

-- One theorem at a time: the memory limit of the check counts the stack of every thread.
set_option Elab.async false

/-! ### The effect of an event -/

/-- A change within `ps` that leaves the command FIFO alone and keeps the running main domain. -/
structure Effect (ps : List Part) (s t : State) : Prop where
  frame : Frame ps s t
  fifo : t.line.fifo = s.line.fifo
  runs : Runs s t

theorem Effect.refl (ps : List Part) (s : State) : Effect ps s s := ⟨.refl ps s, rfl, .refl s⟩

theorem Effect.trans {ps : List Part} {s t u : State} (h : Effect ps s t) (k : Effect ps t u) :
    Effect ps s u := ⟨h.frame.trans k.frame, k.fifo.trans h.fifo, h.runs.trans k.runs⟩

theorem Effect.mono {ps qs : List Part} {s t : State} (h : Effect ps s t)
    (sub : ps ⊆ qs := by decide) : Effect qs s t := ⟨h.frame.mono sub, h.fifo, h.runs⟩

theorem Effect.comp {ps qs rs : List Part} {s t u : State} (h : Effect ps s t) (k : Effect qs t u)
    (subP : ps ⊆ rs := by decide) (subQ : qs ⊆ rs := by decide) : Effect rs s u :=
  (h.mono subP).trans (k.mono subQ)

theorem Effect.ite {ps : List Part} {s t u : State} {c : Prop} [Decidable c] (h : Effect ps s t)
    (k : Effect ps s u) : Effect ps s (if c then t else u) := by
  split <;> assumption

/-- A change within parts in which no law of the running main domain stands. -/
theorem Frame.effect {ps : List Part} {s t : State} (h : Frame ps s t)
    (fifo : t.line.fifo = s.line.fifo) (sub : ps ⊆ quietParts := by decide) : Effect ps s t :=
  ⟨h, fifo, h.runs sub⟩

theorem QueueOnly.effect {s t : State} (h : QueueOnly s t) : Effect sendParts s t :=
  h.frame.effect h.fifo

theorem FareRuns.effect {s t : State} (h : FareRuns s t) : Effect passParts s t :=
  ⟨h.toFareOnly.frame, h.fifo, h.runs⟩

theorem raiseCause_effect (c : Cause) (src : Nat) (s : State) :
    Effect raiseParts s (raiseCause c src s) :=
  ⟨raiseCause_frame c src s, (raiseCause_raise c src s).fifo, raiseCause_runs c src s⟩

theorem reportCondition_effect (c : Cause) (b : Bool) (s : State) :
    Effect [.monitor] s (reportCondition c b s) :=
  ⟨reportCondition_frame c b s, rfl, reportCondition_runs c b s⟩

/-- A cause raised with its condition present. -/
theorem raiseReport_effect (c : Cause) (src : Nat) (b : Bool) (s : State) :
    Effect raiseParts s (reportCondition c b (raiseCause c src s)) :=
  (raiseCause_effect c src s).comp (reportCondition_effect c b _)

/-! ### Inputs -/

theorem setMotion_effect {s : State} {v : Motion}
    (h : s.motion.counter ≤ maxCount → v.counter ≤ maxCount) : Effect [.motion] s (s.setMotion v) :=
  ⟨setMotion_frame s v, rfl, setMotion_runs h⟩

theorem takeCount_effect (s : State) : Effect (.motion :: raiseParts) s (takeCount s) := by
  have reset : Effect (.motion :: raiseParts) s (s.setMotion { s.motion with counter := 0 }) :=
    (setMotion_effect (s := s) (v := { s.motion with counter := 0 }) fun _ => Nat.zero_le _).mono
  exact .ite (reset.trans (raiseCause_effect _ _ _).mono) reset

theorem tellCount_effect (dp : Nat) (s : State) :
    Effect [.accounts, .motion, .monitor] s (tellCount dp s) := by
  refine ⟨?_, by unfold tellCount; dsimp only; split <;> rfl, tellCount_runs dp s⟩
  have told : Frame [.accounts, .motion, .monitor] s (updateSpeed dp (deliverDistance dp s)) :=
    (setAccounts_frame s _).comp (setMotion_frame _ _)
  exact .ite ((told.trans (setMotion_frame _ _).mono).trans (reportCondition_frame _ _ _).mono) told

theorem expireInterval_effect (s : State) :
    Effect ([.motion, .seats] ++ raiseParts) s (expireInterval s) := by
  refine ⟨?_, ?_, expireInterval_runs s⟩ <;> rw [expireInterval_eq]
  · have fare : Frame ([.seats] ++ sendParts) (takeCount s)
        (deliverFare s.motion.counter (takeCount s)) :=
      (setSeats_frame _ _).comp (compareDisplays_only _).frame
    exact .ite (((takeCount_effect s).frame.mono.trans fare.mono).trans
      (tellCount_effect _ _).frame.mono) (.refl _ s)
  · split
    · rw [(tellCount_effect _ _).fifo, ← (takeCount_effect s).fifo]
      exact (compareDisplays_only (State.setSeats _ _)).fifo
    · rfl

theorem tamperEffect_effect (b : Bool) (s : State) : Effect raiseParts s (tamperEffect b s) := by
  refine ⟨?_, ?_, tamperEffect_runs b s⟩ <;> unfold tamperEffect
  · exact .ite (.ite (raiseReport_effect _ _ _ _).frame (reportCondition_frame _ _ _).mono)
      (.ite (setHold_frame _ _).mono (.refl _ _))
  · split
    · split
      · exact (raiseReport_effect _ _ _ _).fifo
      · rfl
    · split <;> rfl

theorem settleTamper_effect (s : State) :
    Effect ([.tamper] ++ raiseParts) s (settleTamper s) := by
  have watch : Effect [.tamper] s (s.setTamperFilter { settled := s.pins.tamper, changing := false }) :=
    (setTamperFilter_frame s _).effect rfl
  exact .ite (watch.comp (tamperEffect_effect _ _)) (.refl _ s)

theorem raiseLamp_effect (before after : PerChannel Lamp) (s : State) (c : Channel) :
    Effect raiseParts s (raiseLamp before after s c) :=
  .ite (raiseReport_effect _ _ _ s) (.refl _ s)

theorem reportLamps_effect (before after : PerChannel Lamp) (s : State) :
    Effect raiseParts s (reportLamps before after s) := by
  have raised : Effect raiseParts s (reportedChannels.foldl (raiseLamp before after) s) :=
    ((raiseLamp_effect before after s .avail).trans (raiseLamp_effect _ _ _ .hired)).trans
      (raiseLamp_effect _ _ _ .out)
  exact .ite (raised.trans (reportCondition_effect _ _ _).mono) raised

theorem setSign_effect (s : State) (v : Sign) : Effect [.sign] s (s.setSign v) :=
  (setSign_frame s v).effect rfl

theorem lampBoundary_effect (sense : BitVec 8) (s : State) :
    Effect (.pins :: raiseParts) s (lampBoundary sense s) := by
  have pin : Effect (.pins :: raiseParts) s (s.setPins { s.pins with sense := sense }) :=
    Effect.mono (ps := [.pins]) ((setPins_frame s _).effect rfl)
  refine .ite (pin.trans ?_) pin
  exact ((setSign_effect _ _).comp (reportLamps_effect _ _ _) : Effect raiseParts _ _).comp
    (setSign_effect _ _)

/-! ### The intercom switch -/

theorem takePress_effect (k : PressKey) (s : State) : Effect switchParts s (takePress k s) := by
  refine (takePress_frame k s).effect ?_
  unfold takePress
  cases k with
  | driver => exact (changeIntercom_fare _ _).fifo
  | seat q =>
    dsimp only
    split
    · rfl
    · split
      · exact (send_only _ _ _).fifo
      · exact (changeIntercom_fare _ _).fifo

theorem takeRelease_effect (k : PressKey) (s : State) : Effect switchParts s (takeRelease k s) := by
  refine (takeRelease_frame k s).effect ?_
  unfold takeRelease
  split
  · cases k with
    | driver => exact (changeIntercom_fare _ _).fifo
    | seat q => exact (changeIntercom_fare _ _).fifo
  · rfl

theorem guardExpires_effect (s : State) : Effect switchParts s (guardExpires s) := by
  refine (guardExpires_frame s).effect ?_
  unfold guardExpires
  split
  · exact (changeIntercom_fare _ s).fifo
  · rfl

theorem talkLimitExpires_effect (s : State) : Effect switchParts s (talkLimitExpires s) := by
  refine (talkLimitExpires_frame s).effect ?_
  unfold talkLimitExpires
  split
  · split
    · exact (changeIntercom_fare _ s).fifo
    · rfl
  · rfl

/-! ### Presence (R194, R195) -/

theorem setTimer_effect (addr : Nat) (t : Timer) (s : State) : Effect [.line] s (setTimer addr t s) :=
  (setLine_frame s _).effect rfl

theorem presentNotice_effect (e : Station) (s : State) : Effect passParts s (presentNotice e s) := by
  unfold presentNotice
  split
  · exact (passAndCompare_runs s).effect
  · split
    · exact ((setDisplay_only s _).trans (compareDisplay_only _ _)).effect.mono
    · exact .refl _ s
  all_goals exact .refl _ s

theorem hear_effect (e : Station) (s : State) : Effect passParts s (hear e s) := by
  have heard : Effect passParts s (setTimer e.addr (some presenceTime) s) :=
    (setTimer_effect _ _ s).mono
  exact .ite heard (heard.trans (presentNotice_effect e _))

theorem silentNotice_effect (e : Station) (s : State) :
    Effect (.motion :: passParts) s (silentNotice e s) := by
  unfold silentNotice
  split
  · exact (readerSilent_runs _ s).effect.mono
  · split
    · exact (takeRelease_effect _ s).mono
    · exact .refl _ s
  · exact (takeRelease_effect _ s).mono
  · exact Effect.mono (setMotion_effect (v := { s.motion with plausibility := 0 }) id)
  all_goals exact .refl _ s

theorem presenceExpires_effect (addr : Nat) (s : State) :
    Effect (.motion :: passParts) s (presenceExpires addr s) := by
  unfold presenceExpires
  split
  · exact .ite ((setTimer_effect _ _ s).mono.trans (silentNotice_effect _ _)) (.refl _ s)
  · exact .refl _ s

/-! ### Delivery (R193) -/

theorem navSpeed_effect (valid : Bool) (speed : Nat) (s : State) :
    Effect (.motion :: raiseParts) s (navSpeed valid speed s) := by
  have count : ∀ n, Effect (.motion :: raiseParts) s
      (s.setMotion { s.motion with plausibility := n }) := fun n =>
    (setMotion_effect (s := s) (v := { s.motion with plausibility := n }) id).mono
  have cleared : Effect (.motion :: raiseParts) s (clearPulseLoss s) :=
    (count 0).trans (reportCondition_effect _ _ _).mono
  have doubted : Effect (.motion :: raiseParts) s (doubtPulses s) :=
    .ite (.ite ((count _).trans (raiseReport_effect _ _ _ _).mono) (count _)) (.refl _ s)
  exact .ite (count 0) (.ite cleared (.ite (count 0) doubted))

theorem takeNav_effect (speed : Nat) (flags : Byte) (ambient : Nat) (s : State) :
    Effect (.motion :: raiseParts) s (takeNav speed flags ambient s) :=
  (navSpeed_effect _ speed s).trans (setSign_effect _ _).mono

theorem takeFault_effect (src : Nat) (code : Byte) (s : State) :
    Effect raiseParts s (takeFault src code s) :=
  (raiseCause_effect .peer src s).trans
    (Effect.mono ⟨setMonitor_frame _ _, rfl, setMonitor_runs rfl rfl⟩)

theorem deliverTalk_effect (e : Station) (held : Byte) (s : State) :
    Effect switchParts s (deliverTalk e held s) := by
  unfold deliverTalk takeTalk
  split
  · split
    · exact takePress_effect _ s
    · exact takeRelease_effect _ s
    · exact .refl _ s
  · exact .refl _ s

theorem deliverCard_effect (e : Station) (ref limit : Nat) (s : State) :
    Effect passParts s (deliverCard e ref limit s) := by
  unfold deliverCard
  split
  · exact (presentCard_runs _ _ _ _ s).effect
  · exact .refl _ s

theorem takeResult_effect (src tag outcome amount tip : Nat) (s : State) :
    Effect frameParts s (takeResult src tag outcome amount tip s) := by
  have raised : Effect frameParts s (raiseCause .source src s) := (raiseCause_effect _ _ s).mono
  unfold takeResult
  refine .ite (.refl _ s) ?_
  split
  · unfold chargeAnswer
    split
    · exact .ite (.ite (approve_runs _ _ _ _ _ s).effect.mono (decline_runs _ _ s).effect.mono)
        raised
    · exact .refl _ s
  · split
    · exact .ite (lateResult_runs _ _ s).effect.mono raised
    · exact .refl _ s

/-- What the delivery of a frame may change: a NAV_REPORT also the motion unit. -/
def deliverParts (kind : Nat) : List Part := if kind = 32 then .motion :: frameParts else frameParts

/-- A delivered frame that is no COMMAND. -/
theorem deliver_effect (e : Station) {kind : Nat} (payload : List Byte) (s : State)
    (h : kind ≠ 18) : Effect (deliverParts kind) s (deliver e kind payload s) := by
  unfold deliver
  split
  · exact absurd rfl h
  · exact (deliverTalk_effect e _ s).mono
  · exact (deliverCard_effect e _ _ s).mono
  · exact takeResult_effect _ _ _ _ _ s
  · exact (takeNav_effect _ _ _ s).mono
  · exact (takeFault_effect _ _ s).mono
  · exact .refl _ s

theorem frameParts_subset (kind : Nat) : frameParts ⊆ deliverParts kind := by
  unfold deliverParts
  split <;> decide

/-- A frame addressed to the CF-14 that is no COMMAND. -/
theorem takeFrame_effect {f : RxFrame} (s : State) (h : f.kind.toNat ≠ 18) :
    Effect (deliverParts f.kind.toNat) s (takeFrame f s) := by
  have sub := frameParts_subset f.kind.toNat
  unfold takeFrame
  split
  · exact (hear_effect _ s).comp (deliver_effect _ _ _ h)
      (List.Subset.trans (by decide) sub) (fun _ m => m)
  · exact (raiseCause_effect _ _ s).mono (List.Subset.trans (by decide) sub)

theorem overhear_effect (f : RxFrame) (s : State) : Effect frameParts s (overhear f s) := by
  unfold overhear
  split
  · exact (hear_effect _ s).mono
  · exact .refl _ s

/-- A frame of any kind: a COMMAND joins the FIFO or finds BUSY. -/
theorem takeFrame_any (f : RxFrame) (s : State) :
    Frame (.motion :: takenParts) s (takeFrame f s) ∧ Runs s (takeFrame f s) := by
  by_cases h : f.kind.toNat = 18
  · unfold takeFrame
    split
    · next e _ =>
      have heard := hear_effect e s
      have arrived : Frame (.draws :: sendParts) (hear e s)
          (arrive { source := e.addr, payload := f.payload } (hear e s)) := by
        refine .ite (setLine_frame _ _).mono ?_
        have sent := (enqueue_only (resultFrame { source := e.addr, payload := f.payload }
          ⟨.busy, []⟩ false (hear e s).draws) (hear e s)).frame
        exact .ite (sent.comp (setDraws_frame _ _)) sent.mono
      rw [h]
      exact ⟨heard.frame.comp arrived, heard.runs.trans (arrive_runs _ _)⟩
    · have raised := raiseCause_effect .source f.source.toNat s
      exact ⟨raised.frame.mono, raised.runs⟩
  · have taken := takeFrame_effect s h
    refine ⟨taken.frame.mono ?_, taken.runs⟩
    unfold deliverParts
    split <;> decide

theorem receiveFrame_frame (v : Option Bool) (f : RxFrame) (s : State) :
    Frame anyFrameParts s (receiveFrame v f s) := by
  refine .ite (Frame.trans ?_ (takeCommands_frame v _).mono) (.refl _ s)
  exact .ite (takeFrame_any f s).1.mono (overhear_effect f s).frame.mono

theorem receiveFrame_runs (v : Option Bool) (f : RxFrame) (s : State) :
    Runs s (receiveFrame v f s) :=
  .ite ((Runs.ite (takeFrame_any f s).2 (overhear_effect f s).runs).trans (takeCommands_runs v _))
    (.refl s)

theorem receiveBytes_frame (bytes : List Byte) (s : State) :
    Frame anyFrameParts s (receiveBytes bytes s) := by
  unfold receiveBytes
  split
  · exact receiveFrame_frame none _ s
  · exact .refl _ s

theorem receiveBytes_runs (bytes : List Byte) (s : State) : Runs s (receiveBytes bytes s) := by
  unfold receiveBytes
  split
  · exact receiveFrame_runs none _ s
  · exact .refl s

/-- The row of a frame that is no COMMAND, while no command waits. -/
theorem receiveKind_frame {s : State} (v : Option Bool) {kind : BitVec 6} (h : Header)
    (payload : List Byte) (empty : s.line.fifo = []) (k : kind.toNat ≠ 18) :
    Frame (deliverParts kind.toNat) s (receiveKind v kind h payload s) := by
  have taken : Effect (deliverParts kind.toNat) s
      (if forUs s.tariff.own (frameOf kind h payload) then takeFrame (frameOf kind h payload) s
        else overhear (frameOf kind h payload) s) :=
    .ite (takeFrame_effect (f := frameOf kind h payload) s k)
      ((overhear_effect _ s).mono (frameParts_subset _))
  refine .ite ?_ (.refl _ s)
  rw [takeCommands_of_empty (taken.fifo.trans empty)]
  exact taken.frame

/-! ### Starts (R1 to R6) -/

theorem stopMain_frame (s : State) : Frame mainParts s (stopMain s) := by
  rw [stopMain_eq]
  intro p hp
  cases p <;> first | rfl | exact absurd hp (by decide)

theorem beginStart_frame (s : State) : Frame startParts s (beginStart s) := by
  have marked : Frame startParts (stopMain s) (readMarker (stopMain s)) := by
    refine .ite (.refl _ _) ?_
    intro p hp
    cases p <;> first | rfl | exact absurd hp (by decide)
  exact ((stopMain_frame s).mono.trans marked).trans (setStart_frame _ _).mono

/-- The queue's notices and the commands that a cleared mark lets be taken. -/
theorem transmissionFails_runs (s : State) : Runs s (transmissionFails s) := by
  unfold transmissionFails
  split
  · exact .refl s
  · exact ((setLine_frame s _).runs.trans (discardNotice_only _ _).runs).trans
      (takeCommands_runs none _)

theorem contend_frame (others : List Contender) (s : State) : Frame [.line] s (contend others s) := by
  unfold contend
  split
  · exact .ite (setLine_frame s _) (.refl _ s)
  · exact .refl _ s

/-! ### Load completion (R5) -/

theorem putInForce_frame (l : Loaded) (s : State) :
    Frame [.tariff, .start, .line, .motion, .sign, .monitor, .tamper, .band] s (putInForce l s) := by
  unfold putInForce takeSettings watchTamper
  refine Frame.trans ?_ (selectAuto_frame _).mono
  refine Frame.trans ?_ (setTamperFilter_frame _ _).mono
  refine Frame.trans ?_ (setMonitor_frame _ _).mono
  refine Frame.trans ?_ (setSign_frame _ _).mono
  have image : Frame [.tariff, .start, .line, .motion, .sign, .monitor, .tamper, .band] s
      (s.setTariff l.tariff) := (setTariff_frame s _).mono
  have line := (image.trans (setStart_frame _ { s.start with loaded := true, imageTimer := none }).mono).trans
    (setLine_frame _ { s.line with roster := l.roster, statusTimer := some statusTime }).mono
  exact .ite (line.trans (setMotion_frame _ _).mono) line

theorem raiseIfPresent_frame (c : Cause) (s : State) :
    Frame raiseParts s (raiseIfPresent c s) := .ite (raiseCause_frame _ _ s) (.refl _ s)

theorem enterIfCalled_frame (s : State) : Frame raiseParts s (enterIfCalled s) := by
  unfold enterIfCalled
  refine .ite (.refl _ s) ?_
  split
  · exact (enterHeld_raise _ _ s).frame
  · exact .refl _ s

theorem monitorStartWork_frame (s : State) : Frame raiseParts s (monitorStartWork s) := by
  have conditions : Frame raiseParts s (startConditions s) := (setMonitor_frame s _).mono
  have cleared : ∀ u, Frame raiseParts u (if u.tariff.good then clearStatus .config u else u) :=
    fun u => .ite (clearStatus_frame _ u).mono (.refl _ u)
  exact ((((conditions.trans (cleared _)).trans (raiseIfPresent_frame _ _)).trans
    (raiseIfPresent_frame _ _)).trans (raiseIfPresent_frame _ _)).trans (enterIfCalled_frame _)

/-- What the start work on retained items may change. -/
def retainedParts : List Part := [.tags, .draws, .hold, .monitor] ++ tripParts

theorem resumeTrips_frame (s : State) : Frame retainedParts s (resumeTrips s) :=
  ((warmStartSeats_frame s).comp (Frame.ite (raiseCause_frame _ _ _) (.refl _ _)) :
    Frame retainedParts s _).comp (retireSlots_frame _)

theorem retainedWork_frame (s : State) : Frame retainedParts s (retainedWork s) := by
  have monitor : ∀ u, Frame retainedParts u (monitorStartWork u) := fun u =>
    (monitorStartWork_frame u).mono
  unfold retainedWork warmWork
  split
  · exact monitor s
  · refine .ite ?_ ((warmStartSeats_frame s).mono.trans (monitor _))
    exact .ite (((setDraws_frame s _).mono.trans (monitor _)).trans (resumeTrips_frame _))
      (((setDraws_frame s _).mono.trans (resumeTrips_frame _)).trans (monitor _))

theorem startWork_frame (l : Loaded) (s : State) : Frame loadParts s (startWork l s) := by
  have announced : Frame loadParts (putInForce l s) (intercomStartWork (putInForce l s)) :=
    .ite (send_frame _ _ _).mono (.refl _ _)
  exact ((((putInForce_frame l s).mono.trans announced).trans (retainedWork_frame _).mono).trans
    (computeSign_frame _).mono).trans (queueStatus_frame _).mono

/-! ### The five ways a step can follow -/

/-- What a command of the table does to a state: a change of the kind `R`, a stop, a start, a load
completion, or the loss of the marker. -/
inductive Follows (R : State → State → Prop) (s t : State) : Prop
  | runs (h : R s t)
  | stops (u : State) (pins : Frame [.pins] s u) (e : t = stopMain u)
  | starts (u : State) (moved : Frame [.pins, .line] s u) (e : t = beginStart u)
  | loads (bytes : List Byte) (reading : s.start.imageTimer.isSome = true)
      (e : t = startWork (loadImage bytes) s)
  | backup (e : t = backupFails s)

/-- The supplies' pins, the marker and the image read follow so for every relation that a change of the
pins is in (R1 to R5). -/
theorem supply_follows {R : State → State → Prop} {c : Instr} {s t : State}
    (pins : ∀ u, Frame [.pins] s u → R s u)
    (supply : c ∈ [.pgoodRise, .pgoodFall, .rstAssert, .rstRelease, .vbakLoss, .imageReadTimeout] ∨
      ∃ image, c = .loadCompletion image)
    (h : exec c s = .next t) : Follows R s t := by
  have same : Follows R s s := .runs (pins s (.refl _ s))
  have free : ∀ u, Frame [.pins] s u → Follows R s (startIfFree u) := fun u hu => by
    unfold startIfFree
    split
    · exact .starts u hu.mono rfl
    · exact .runs (pins u hu)
  have read : ∀ bytes, Follows R s (completeLoad bytes s) := fun bytes => by
    unfold completeLoad
    split
    · next reading => exact .loads bytes reading rfl
    · exact same
  cases c <;> cases h
  case pgoodRise =>
    unfold pgoodRises
    split
    · exact same
    · exact free _ (setPins_frame s _)
  case pgoodFall =>
    unfold pgoodFalls
    split
    · exact .stops _ (setPins_frame s _) rfl
    · exact same
  case rstAssert =>
    unfold rstFalls
    split
    · exact same
    · exact .stops _ (setPins_frame s _) rfl
  case rstRelease =>
    unfold rstRises
    split
    · exact free _ (setPins_frame s _)
    · exact same
  case vbakLoss => exact .backup rfl
  case imageReadTimeout => exact read []
  case loadCompletion image => exact read image
  all_goals simp at supply

/-- RESET's start, and the completion of a transmission. -/
theorem transmissionEnds_follows (s : State) : Follows Runs s (transmissionEnds s) := by
  unfold transmissionEnds
  split
  · exact .runs (.refl s)
  · next f _ =>
    have sent := setLine_frame s { s.line with transmitting := none }
    dsimp only
    split
    · unfold answerSent
      split
      · exact .starts _ sent.mono rfl
      · exact .runs ((sent.runs.trans (setLine_frame _ _).runs).trans (takeCommands_runs none _))
    · exact .runs sent.runs

/-- Every event follows in one of the five ways. -/
theorem event_follows {c : Instr} {s t : State} (event : Laws.commandOf c = none)
    (h : exec c s = .next t) : Follows Runs s t := by
  have taken : ∀ {ps : List Part} {u : State}, Effect ps s u → Follows Runs s (takeCommands none u) :=
    fun x => .runs (x.runs.trans (takeCommands_runs none _))
  have supply := supply_follows (R := Runs) (c := c) (s := s) (t := t) (fun _ f => f.runs)
  cases c <;> cases h
  case pgoodRise | pgoodFall | rstAssert | rstRelease | vbakLoss | imageReadTimeout | loadCompletion =>
    exact supply (by simp) rfl
  case resetTimerExpiry =>
    unfold resetExpires
    split
    · exact .starts s (.refl _ s) rfl
    · exact .runs (.refl s)
  case clockTick => exact .runs ((setClock_frame s _).runs.trans (passMinute_runs _))
  case minuteBoundary => exact .runs (passMinute_runs s)
  case pulseChange l => exact .runs (pulseLevel_runs l s)
  case settledEdge => exact .runs (settlePulse_runs s)
  case intervalExpiry => exact taken (expireInterval_effect s)
  case tamperChange asserted =>
    exact .runs ((setPins_frame s _).runs.trans (setTamperFilter_frame _ _).runs)
  case tamperSettled => exact taken (settleTamper_effect s)
  case lineIdle others => exact .runs (contend_frame others s).runs
  case transmissionComplete => exact transmissionEnds_follows s
  case transmissionAbandoned => exact .runs (transmissionFails_runs s)
  case frameDiscarded bytes => exact .runs (receiveBytes_runs bytes s)
  case presenceTimeout a => exact taken (presenceExpires_effect a.toNat s)
  case statusTimerExpiry =>
    exact .runs (.ite ((queueStatus_only s).runs.trans (takeCommands_runs none _)) (.refl s))
  case chargeTimerExpiry q => exact taken (endWithoutResult_runs q s).effect
  case pressLapse k => exact taken (takeRelease_effect k s)
  case guardExpiry => exact taken (guardExpires_effect s)
  case talkLimitExpiry => exact taken (talkLimitExpires_effect s)
  case lampPeriodBoundary sense => exact taken (lampBoundary_effect sense s)
  case frameToOtherStation | command | talk | cardPresented | chargeResult | navReport | faultReport
      | heartbeat => exact .runs (receiveFrame_runs _ _ s)
  all_goals cases event

/-- Every command of the table follows in one of the five ways. -/
theorem exec_follows {c : Instr} {s t : State} (h : exec c s = .next t) : Follows Runs s t := by
  rcases row_or_event c with ⟨service, seq, x, rfl⟩ | event
  · rw [exec_rowOf] at h
    cases h
    exact .runs (consoleRow_runs _ seq x s)
  · exact event_follows event h

end Sys2Proof.Machine

/-! PROOFS. The frame of every command of the table, and the start values that stand until load completion
(R4, R37, R95, R138, R151, R166, R202). -/

namespace Sys2Proof.Machine

-- One theorem at a time: the memory limit of the check counts the stack of every thread.
set_option Elab.async false

/-! ### The frame of every event -/

/-- What a frame row other than COMMAND and FRAME_TO_OTHER_STATION may change while no command waits. -/
theorem frameRow_frame {s t : State} {kind : BitVec 6} {h : Header} {payload : List Byte}
    (empty : s.line.fifo = []) (k : kind.toNat ≠ 18)
    (e : Host.Outcome.next (receiveKind none kind h payload s) = (.next t : Host.Outcome State Fault Refusal)) :
    Frame (deliverParts kind.toNat) s t := by
  cases e
  exact receiveKind_frame none h payload empty k

theorem startIfFree_frame (s : State) : Frame startParts s (startIfFree s) :=
  .ite (beginStart_frame s) (.refl _ s)

theorem completeLoad_frame (bytes : List Byte) (s : State) : Frame loadParts s (completeLoad bytes s) :=
  .ite (startWork_frame _ s) (.refl _ s)

/-- An event that leaves the FIFO empty takes no command. -/
theorem Effect.taken {ps : List Part} {s t : State} (h : Effect ps s t) (empty : s.line.fifo = [])
    (v : Option Bool) : Frame ps s (takeCommands v t) := by
  rw [takeCommands_of_empty (h.fifo.trans empty)]
  exact h.frame

theorem transmissionEnds_frame {s : State} (empty : s.line.fifo = []) :
    Frame startParts s (transmissionEnds s) := by
  unfold transmissionEnds
  split
  · exact .refl _ s
  · have sent : Frame startParts s (s.setLine { s.line with transmitting := none }) :=
      (setLine_frame s _).mono
    refine .ite (sent.trans ?_) sent
    refine .ite (beginStart_frame _) ?_
    rw [takeCommands_of_empty (by exact empty)]
    exact (setLine_frame _ _).mono

theorem transmissionFails_frame {s : State} (empty : s.line.fifo = []) :
    Frame sendParts s (transmissionFails s) := by
  unfold transmissionFails
  split
  · exact .refl _ s
  · next f _ =>
    have told := discardNotice_only f (s.setLine { s.line with transmitting := none })
    rw [takeCommands_of_empty (told.fifo.trans empty)]
    exact (setLine_frame s _).mono.trans told.frame

/-- The parts that an event may change while no command waits. -/
theorem event_frame {c : Instr} {s t : State} (event : Laws.commandOf c = none)
    (empty : s.line.fifo = []) (h : exec c s = .next t) : Frame (mayChange c) s t := by
  cases c
  case pgoodRise =>
    cases h
    exact .ite (.refl _ s) ((setPins_frame s _).mono.trans (startIfFree_frame _).mono)
  case pgoodFall =>
    cases h
    exact .ite ((setPins_frame s _).mono.trans (stopMain_frame _).mono) (.refl _ s)
  case rstAssert =>
    cases h
    exact .ite (.refl _ s) ((setPins_frame s _).mono.trans (stopMain_frame _).mono)
  case rstRelease =>
    cases h
    exact .ite ((setPins_frame s _).mono.trans (startIfFree_frame _).mono) (.refl _ s)
  case vbakLoss => cases h; exact setMarkerValid_frame s _
  case imageReadTimeout => cases h; exact completeLoad_frame [] s
  case loadCompletion image => cases h; exact completeLoad_frame image s
  case resetTimerExpiry => cases h; exact .ite (beginStart_frame s) (.refl _ s)
  case clockTick => cases h; exact (setClock_frame s _).mono.trans (passMinute_frame _).mono
  case minuteBoundary => cases h; exact passMinute_frame s
  case pulseChange l =>
    cases h
    have pin : Frame [.pins, .motion] s (s.setPins { s.pins with pulse := l }) :=
      (setPins_frame s _).mono
    unfold pulseLevel
    dsimp only
    split
    · exact pin
    · exact pin.trans (setMotion_frame _ _).mono
  case settledEdge => cases h; exact .ite (setMotion_frame s _) (.refl _ s)
  case intervalExpiry => cases h; exact (expireInterval_effect s).taken empty none
  case tamperChange =>
    cases h
    exact Frame.comp (rs := [.pins, .tamper]) (setPins_frame s _) (setTamperFilter_frame _ _)
  case tamperSettled => cases h; exact (settleTamper_effect s).taken empty none
  case lineIdle others => cases h; exact contend_frame others s
  case transmissionComplete => cases h; exact transmissionEnds_frame empty
  case transmissionAbandoned => cases h; exact transmissionFails_frame empty
  case frameDiscarded bytes => cases h; exact receiveBytes_frame bytes s
  case frameToOtherStation => cases h; exact receiveFrame_frame none _ s
  case command v _ _ => cases h; exact receiveFrame_frame (some v) _ s
  case talk => exact frameRow_frame empty (by decide) h
  case cardPresented => exact frameRow_frame empty (by decide) h
  case chargeResult => exact frameRow_frame empty (by decide) h
  case navReport => exact frameRow_frame empty (by decide) h
  case faultReport => exact frameRow_frame empty (by decide) h
  case heartbeat => exact frameRow_frame empty (by decide) h
  case presenceTimeout a => cases h; exact (presenceExpires_effect a.toNat s).taken empty none
  case statusTimerExpiry =>
    cases h
    exact .ite ((queueStatus_only s).effect.taken empty none) (.refl _ s)
  case chargeTimerExpiry q => cases h; exact (endWithoutResult_runs q s).effect.taken empty none
  case pressLapse k => cases h; exact (takeRelease_effect k s).taken empty none
  case guardExpiry => cases h; exact (guardExpires_effect s).taken empty none
  case talkLimitExpiry => cases h; exact (talkLimitExpires_effect s).taken empty none
  case lampPeriodBoundary sense => cases h; exact (lampBoundary_effect sense s).taken empty none
  all_goals cases event

/-- Settles O4: a command of the console and an event each change only parts on their list. -/
theorem commandChangesOnlyItsParts : Obligations.CommandChangesOnlyItsParts := by
  unfold Obligations.CommandChangesOnlyItsParts
  intro c s t empty h
  rcases row_or_event c with ⟨service, seq, x, rfl⟩ | event
  · rw [exec_rowOf] at h
    cases h
    rw [mayChange_rowOf]
    exact consoleRow_frame service seq x empty
  · exact event_frame event empty h

/-! ### The parts that stand while the main domain does not run -/

/-- The main domain's items at their start values (R4). -/
def MainAtStart (s : State) : Prop :=
  s.line = lineStart ∧ s.tariff = tariffStart ∧ s.band = bandStart ∧ s.motion = motionStart ∧
  s.payers = indexesOf none ∧ s.charges = seatsOf none ∧ s.intercom = intercomStart ∧
  s.sign = signStart ∧ s.monitor = monitorStart ∧ s.display = seatsOf none

/-- What an event may change while the main domain does not run: the input pins, the clock, and the
retained store's TAMPER filter and status. -/
def idleParts : List Part := [.pins, .clock, .tamper, .hold]

theorem MainAtStart.of_frame {s t : State} (h : MainAtStart s) (f : Frame idleParts s t) :
    MainAtStart t := by
  have line : t.line = s.line := f .line (by decide)
  have tariff : t.tariff = s.tariff := f .tariff (by decide)
  have band : t.band = s.band := f .band (by decide)
  have motion : t.motion = s.motion := f .motion (by decide)
  have payers : t.payers = s.payers := f .payers (by decide)
  have charges : t.charges = s.charges := f .charges (by decide)
  have intercom : t.intercom = s.intercom := f .intercom (by decide)
  have sign : t.sign = s.sign := f .sign (by decide)
  have monitor : t.monitor = s.monitor := f .monitor (by decide)
  have display : t.display = s.display := f .display (by decide)
  simpa only [MainAtStart, line, tariff, band, motion, payers, charges, intercom, sign, monitor,
    display] using h

/-- A change of the idle parts keeps the start values. -/
theorem StartLaw.of_idle {s t : State} (h : StartLaw s) (f : Frame idleParts s t) : StartLaw t := by
  obtain ⟨main, read, cold⟩ := h
  have start : t.start = s.start := f .start (by decide)
  have seats : t.seats = s.seats := f .seats (by decide)
  have tags : t.tags = s.tags := f .tags (by decide)
  have accounts : t.accounts = s.accounts := f .accounts (by decide)
  refine ⟨fun x => MainAtStart.of_frame (main (start ▸ x)) f, fun x => ?_, fun x k => ?_⟩
  · rw [start] at x ⊢
    exact read x
  · rw [start] at x k
    rw [seats, tags, accounts]
    exact cold x k

/-! ### Stopped timers (R4, R26, R122, R130, R131, R141, R201) -/

section Stopped

variable {s : State}

theorem completeLoad_stopped (h : s.start.imageTimer = none) (bytes : List Byte) :
    completeLoad bytes s = s := by simp [completeLoad, h]

theorem resetExpires_stopped (h : s.line.resetTimer = none) : resetExpires s = s := by
  simp [resetExpires, h]

theorem expireInterval_stopped (h : s.motion.intervalTimer = none) : expireInterval s = s := by
  simp [expireInterval, h]

theorem statusExpires_stopped (h : s.line.statusTimer = none) : statusExpires s = s := by
  simp [statusExpires, h]

theorem guardExpires_stopped (h : s.intercom.guardTimer = none) : guardExpires s = s := by
  simp [guardExpires, h]

theorem talkLimitExpires_stopped (h : s.intercom.talkTimer = none) : talkLimitExpires s = s := by
  simp [talkLimitExpires, h]

theorem takeRelease_stopped {k : PressKey} (h : pressRecord s.intercom k = none) :
    takeRelease k s = s := by simp [takeRelease, h]

theorem lampBoundary_stopped (h : s.sign.timebase = none) (sense : BitVec 8) :
    lampBoundary sense s = s.setPins { s.pins with sense := sense } := by
  simp [lampBoundary, h]

theorem receiveFrame_unloaded (h : s.start.loaded = false) (v : Option Bool) (f : RxFrame) :
    receiveFrame v f s = s := by simp [receiveFrame, h]

end Stopped

/-- Settles O59: each stopped timer's expiry is the state itself, from which no command is taken. -/
theorem stoppedTimersDoNothing : Obligations.StoppedTimersDoNothing := by
  unfold Obligations.StoppedTimersDoNothing
  intro s fifo
  have still : takeCommands none s = s := takeCommands_of_empty fifo
  refine ⟨fun h => ⟨?_, fun image => ?_⟩, fun h => ?_, fun h => ?_, fun h => ?_, fun h => ?_,
    fun h => ?_, fun k h => ?_, fun sense h => ?_⟩
  · exact congrArg Host.Outcome.next (completeLoad_stopped h [])
  · exact congrArg Host.Outcome.next (completeLoad_stopped h image)
  · exact congrArg Host.Outcome.next (resetExpires_stopped h)
  · exact congrArg Host.Outcome.next ((congrArg _ (expireInterval_stopped h)).trans still)
  · exact congrArg Host.Outcome.next (statusExpires_stopped h)
  · exact congrArg Host.Outcome.next ((congrArg _ (guardExpires_stopped h)).trans still)
  · exact congrArg Host.Outcome.next ((congrArg _ (talkLimitExpires_stopped h)).trans still)
  · exact congrArg Host.Outcome.next ((congrArg _ (takeRelease_stopped h)).trans still)
  · exact congrArg Host.Outcome.next ((congrArg _ (lampBoundary_stopped h sense)).trans
      (takeCommands_of_empty (by exact fifo)))

/-! ### Every step keeps the start values -/

/-- While the main domain does not run, no event reaches beyond the idle parts but by a supply, the marker
or the image read (R4). -/
theorem event_follows_idle {c : Instr} {s t : State} (idle : s.start.loaded = false)
    (main : MainAtStart s) (event : Laws.commandOf c = none) (h : exec c s = .next t) :
    Follows (Frame idleParts) s t := by
  obtain ⟨line, _, _, motion, _, charges, intercom, sign, _, _⟩ := main
  have still : ∀ v, takeCommands v s = s := fun v => takeCommands_of_empty (by rw [line]; rfl)
  have same : Follows (Frame idleParts) s s := .runs (.refl _ s)
  have supply := supply_follows (R := Frame idleParts) (c := c) (s := s) (t := t) (fun _ f => f.mono)
  cases c <;> cases h
  case pgoodRise | pgoodFall | rstAssert | rstRelease | vbakLoss | imageReadTimeout | loadCompletion =>
    exact supply (by simp) rfl
  case resetTimerExpiry => rw [resetExpires_stopped (by rw [line]; rfl)]; exact same
  case clockTick =>
    refine .runs ?_
    rw [passMinute, if_neg (by simp [idle])]
    exact (setClock_frame s _).mono
  case minuteBoundary => rw [passMinute, if_neg (by simp [idle])]; exact same
  case pulseChange l =>
    refine .runs ?_
    simp only [pulseLevel, State.setPins_motion, motion, motionStart]
    exact (setPins_frame s _).mono
  case settledEdge => rw [settlePulse, if_neg (by simp [motion, motionStart])]; exact same
  case intervalExpiry => rw [expireInterval_stopped (by rw [motion]; rfl), still]; exact same
  case tamperChange =>
    exact .runs ((setPins_frame s _).comp (setTamperFilter_frame _ _))
  case tamperSettled =>
    have settled : Frame idleParts s (settleTamper s) := by
      have watch := setTamperFilter_frame s { settled := s.pins.tamper, changing := false }
      refine .ite (watch.mono.trans ?_) (.refl _ s)
      unfold tamperEffect
      rw [if_neg (by simp [idle])]
      exact .ite (setHold_frame _ _).mono (.refl _ _)
    rw [takeCommands_of_empty ((settleTamper_effect s).fifo.trans (by rw [line]; rfl))]
    exact .runs settled
  case lineIdle others => simp only [contend, line, lineStart]; exact same
  case transmissionComplete => simp only [transmissionEnds, line, lineStart]; exact same
  case transmissionAbandoned => simp only [transmissionFails, line, lineStart]; exact same
  case frameDiscarded bytes =>
    unfold receiveBytes
    split
    · rw [receiveFrame_unloaded idle]
      exact same
    · exact same
  case frameToOtherStation | command | talk | cardPresented | chargeResult | navReport | faultReport
      | heartbeat => rw [receiveKind, receiveFrame_unloaded idle]; exact same
  case presenceTimeout a =>
    have none_ : presenceExpires a.toNat s = s := by
      simp [presenceExpires, stationAt, line, lineStart]
    rw [none_, still]
    exact same
  case statusTimerExpiry => rw [statusExpires_stopped (by rw [line]; rfl)]; exact same
  case chargeTimerExpiry q =>
    have none_ : endWithoutResult q s = s := by simp [endWithoutResult, charges]
    rw [none_, still]
    exact same
  case pressLapse k =>
    rw [takeRelease_stopped (by rw [intercom]; cases k <;> simp [pressRecord, intercomStart]), still]
    exact same
  case guardExpiry => rw [guardExpires_stopped (by rw [intercom]; rfl), still]; exact same
  case talkLimitExpiry => rw [talkLimitExpires_stopped (by rw [intercom]; rfl), still]; exact same
  case lampPeriodBoundary sense =>
    rw [lampBoundary_stopped (by rw [sign]; rfl), takeCommands_of_empty (by rw [State.setPins_line, line]; rfl)]
    exact .runs (setPins_frame s _).mono
  all_goals cases event

/-- Before load completion a command of the console does nothing. -/
theorem consoleRow_unloaded {s : State} (h : s.start.loaded = false) (v : Option Bool) (seq : Byte)
    (c : Command) : consoleRow v seq c s = s := by simp [consoleRow, h]

theorem startLaw_stopMain {s : State} : StartLaw (stopMain s) := by
  refine ⟨fun _ => ⟨rfl, rfl, rfl, rfl, rfl, rfl, rfl, rfl, rfl, rfl⟩, ?_, ?_⟩ <;>
  · intro h
    cases h

/-- A start leaves the start values; a cold one the initial values of the retained store (R4). -/
theorem startLaw_beginStart {s : State} : StartLaw (beginStart s) := by
  have main : MainAtStart (beginStart s) := by
    unfold beginStart readMarker
    split <;> exact ⟨rfl, rfl, rfl, rfl, rfl, rfl, rfl, rfl, rfl, rfl⟩
  refine ⟨fun _ => main, fun _ => rfl, fun _ cold => ?_⟩
  have invalid : (stopMain s).markerValid = false := by
    have : s.markerValid = false := by
      cases h : s.markerValid with
      | false => rfl
      | true =>
        change startKindOf s.markerValid = .cold at cold
        simp [h, startKindOf] at cold
    rw [stopMain_eq]
    exact this
  unfold beginStart readMarker
  rw [if_neg (by simp [invalid])]
  exact ⟨rfl, rfl, rfl⟩

/-- Load completion leaves a running main domain, with no read under way. -/
theorem startWork_start (l : Loaded) (s : State) :
    (startWork l s).start = { loaded := true, imageTimer := none, kind := s.start.kind } := by
  have work : ∀ u, (retainedWork u).start = u.start := fun u => retainedWork_frame u .start (by decide)
  have told : ∀ u, (intercomStartWork u).start = u.start := fun u =>
    (Frame.ite (send_frame _ _ _) (.refl _ _) : Frame sendParts u (intercomStartWork u)) .start
      (by decide)
  change (queueStatus _).start = _
  rw [(queueStatus_only _).start]
  change (retainedWork _).start = _
  rw [work, told]
  unfold putInForce
  have auto : ∀ u, (selectAuto u).start = u.start := fun u => selectAuto_frame u .start (by decide)
  rw [auto]
  change (if l.tariff.good then _ else _ : State).start = _
  split <;> rfl

theorem StartLaw.follows {R : State → State → Prop} {s t : State} (h : StartLaw s)
    (runs : R s t → StartLaw t) (f : Follows R s t) : StartLaw t := by
  cases f with
  | runs r => exact runs r
  | stops u _ e => subst e; exact startLaw_stopMain
  | starts u _ e => subst e; exact startLaw_beginStart
  | loads bytes _ e =>
    have start := startWork_start (loadImage bytes) s
    subst e
    refine ⟨fun x => ?_, fun x => ?_, fun x => ?_⟩ <;>
    · rw [start] at x
      cases x
  | backup e => subst e; exact h

/-- While the main domain runs, the start's record stands. -/
theorem StartLaw.of_running {s t : State} (h : StartLaw s) (running : s.start.loaded = true)
    (start : t.start = s.start) : StartLaw t := by
  have noRead : ¬ s.start.imageTimer.isSome = true := fun x => by
    have := h.2.1 x
    rw [running] at this
    cases this
  refine ⟨fun x => ?_, fun x => ?_, fun x => ?_⟩ <;> rw [start] at x
  · rw [running] at x
    cases x
  · exact absurd x noRead
  · exact absurd x noRead

theorem exec_keeps_startLaw {c : Instr} {s t : State} (h : StartLaw s) (e : exec c s = .next t) :
    StartLaw t := by
  by_cases running : s.start.loaded = true
  · exact h.follows (fun r => h.of_running running r.start) (exec_follows e)
  · have idle : s.start.loaded = false := by simpa using running
    rcases row_or_event c with ⟨service, seq, x, rfl⟩ | event
    · rw [exec_rowOf, consoleRow_unloaded idle] at e
      cases e
      exact h
    · exact h.follows h.of_idle (event_follows_idle idle (h.1 idle) event e)

/-- A law that no list of waiting commands enters, and that every command of the table keeps, is kept by
every step. -/
theorem keptByStep_of {law : State → Prop} (pending : ∀ s v, law s → law (s.setPending v))
    (kept : ∀ c s t, law s → exec c s = .next t → law t) : KeptByStep law := by
  intro s t h e
  unfold step at e
  split at e
  · cases e
    exact h
  · exact kept _ _ _ (pending s _ h) e

/-- Settles O6: a running step leaves the start's record, an idle one the start values, and a stop, a start
and a load completion set them. -/
theorem stepKeepsStartValues : Obligations.StepKeepsStartValues :=
  keptByStep_of (fun _ _ h => h) (fun _ _ _ h e => exec_keeps_startLaw h e)

end Sys2Proof.Machine

/-! PROOFS. The tariff image: the bytes that the read gives and the bytes that the checks see, each check in
terms of the bytes' numbers, and what a good image brings (R7 to R15). -/

namespace Sys2Proof.Machine

-- One theorem at a time: the memory limit of the check counts the stack of every thread.
set_option Elab.async false

/-! ### Bytes of a cut image -/

theorem u8_take {b : List Byte} {n o : Nat} (h : o < n) : u8 (b.take n) o = u8 b o := by
  simp [u8, List.getD_eq_getElem?_getD, h]

theorem u8_le (b : List Byte) (o : Nat) : u8 b o ≤ 255 :=
  Nat.le_of_lt_succ (b.getD o 0).isLt

/-- Two bytes of a table of byte values, high byte first (R8). -/
def word (u : Nat → Nat) (o : Nat) : Nat := u o * 256 + u (o + 1)

theorem u16_eq (b : List Byte) (o : Nat) : u16 b o = word (u8 b) o := rfl

theorem inRange_iff (lo hi n : Nat) : inRange lo hi n = true ↔ lo ≤ n ∧ n ≤ hi := by
  simp [inRange]

/-! ### The checks in terms of the bytes -/

/-- The image's mark, length and CRC (R7, R8). -/
def MarkOk (u : Nat → Nat) (crc : Nat) : Prop :=
  word u 0 = 0x5A3C ∧ word u 2 = 147 ∧ word u 145 = crc

/-- The fields of the whole image stand in their ranges (R9). -/
def FieldsOk (u : Nat → Nat) : Prop :=
  (1 ≤ u 4 ∧ u 4 ≤ 62) ∧ u 5 ≤ 12 ∧ (500 ≤ word u 42 ∧ word u 42 ≤ 40000) ∧ u 44 ≤ 2 ∧ u 45 ≤ 3 ∧
  (20 ≤ word u 46 ∧ word u 46 ≤ 500) ∧ (1 ≤ u 48 ∧ u 48 ≤ 4) ∧ u 93 ≤ 8 ∧ u 126 ≤ 1 ∧ u 127 ≤ 50 ∧
  (50 ≤ word u 131 ∧ word u 131 ≤ 300) ∧ (2 ≤ u 133 ∧ u 133 ≤ 20) ∧ (1 ≤ u 134 ∧ u 134 ≤ 20) ∧
  (1 ≤ u 135 ∧ u 135 ≤ 20) ∧ u 136 ≤ u 137

/-- Each roster entry stands on its own (R9). -/
def EntriesOk (u : Nat → Nat) : Prop :=
  ∀ i : Nat, i < u 5 →
    (1 ≤ u (6 + 3 * i) ∧ u (6 + 3 * i) ≤ 62) ∧ u (6 + 3 * i) ≠ u 4 ∧ u (7 + 3 * i) ≤ 5 ∧
    u (8 + 3 * i) ≤ 5 ∧
    (u (7 + 3 * i) = 2 → 1 ≤ u (8 + 3 * i) ∧ u (8 + 3 * i) ≤ 4) ∧
    (u (7 + 3 * i) = 3 → u (8 + 3 * i) ≠ 0) ∧
    (u (7 + 3 * i) ≠ 2 → u (7 + 3 * i) ≠ 3 → u (8 + 3 * i) = 0)

/-- Any two roster entries stand together (R9). -/
def EntriesApart (u : Nat → Nat) : Prop :=
  ∀ i j : Nat, i < j → j < u 5 →
    u (6 + 3 * i) ≠ u (6 + 3 * j) ∧
    (u (7 + 3 * i) = u (7 + 3 * j) → u (7 + 3 * i) = 2 ∨ u (7 + 3 * i) = 3 →
      u (8 + 3 * i) ≠ u (8 + 3 * j))

/-- How many roster entries are of a class (R9). -/
def classCount (u : Nat → Nat) (k : Nat) : Nat :=
  ((List.range (u 5)).filter (fun i => u (7 + 3 * i) = k)).length

/-- The roster holds no more of a class than it may (R9). -/
def CountsOk (u : Nat → Nat) : Prop :=
  classCount u 0 ≤ 1 ∧ classCount u 1 ≤ 1 ∧ classCount u 4 ≤ 1 ∧ classCount u 5 ≤ 4

/-- The pulse constants (R10). -/
def PulsesOk (u : Nat → Nat) : Prop :=
  250 * [1, 2, 4, 16].getD (u 45) 0 ≤ word u 42 * (if u 44 = 2 then 2 else 1) ∧
    word u 42 * (if u 44 = 2 then 2 else 1) ≤ 20000 * [1, 2, 4, 16].getD (u 45) 0

/-- Each band's fields stand in their ranges (R11). -/
def BandsOk (u : Nat → Nat) : Prop :=
  ∀ i : Nat, i < u 48 →
    word u (49 + 9 * i) ≤ 9999 ∧ u (51 + 9 * i) ≤ 99 ∧
    (1 ≤ word u (52 + 9 * i) ∧ word u (52 + 9 * i) ≤ 9999) ∧
    (10 ≤ word u (54 + 9 * i) ∧ word u (54 + 9 * i) ≤ 2000) ∧
    (1 ≤ word u (56 + 9 * i) ∧ word u (56 + 9 * i) ≤ 600)

/-- The share table (R11). -/
def SharesOk (u : Nat → Nat) : Prop :=
  word u 85 = 1000 ∧ (∀ k : Nat, k < 4 → 100 ≤ word u (85 + 2 * k) ∧ word u (85 + 2 * k) ≤ 1000) ∧
  word u 87 ≤ word u 85 ∧ word u 89 ≤ word u 87 ∧ word u 91 ≤ word u 89

/-- Each schedule entry's fields stand in their ranges (R11). -/
def ScheduleOk (u : Nat → Nat) : Prop :=
  ∀ i : Nat, i < u 93 →
    (1 ≤ u (94 + 4 * i) ∧ u (94 + 4 * i) ≤ 127) ∧ word u (95 + 4 * i) ≤ 1439 ∧
    (1 ≤ u (97 + 4 * i) ∧ u (97 + 4 * i) ≤ u 48)

/-- A timeout byte is 00 or stands for a time in its range (R12). -/
def TimeoutOk (lo hi n : Nat) : Prop :=
  n = 0 ∨ n % 64 ≠ 0 ∧ lo ≤ n % 64 * 10 ^ (n / 64 + 1) ∧ n % 64 * 10 ^ (n / 64 + 1) ≤ hi

/-- The timeouts and the cause settings (R12, R13). -/
def SettingsOk (u : Nat → Nat) : Prop :=
  TimeoutOk 10000 250000 (u 128) ∧ TimeoutOk 50 500 (u 129) ∧ TimeoutOk 5000 120000 (u 130) ∧
  ∀ k : Nat, k < 7 → u (138 + k) ≤ 4

/-- The unit of a timeout byte is ten to its scale and one more, in milliseconds (R12). -/
theorem scaleOf_eq {n : Nat} (h : n ≤ 255) : scaleOf (n / 64) = 10 ^ (n / 64 + 1) := by
  have : n / 64 = 0 ∨ n / 64 = 1 ∨ n / 64 = 2 ∨ n / 64 = 3 := by omega
  rcases this with e | e | e | e <;> rw [e] <;> rfl

theorem timeoutOf_eq {n : Nat} (h : n ≤ 255) (lo hi default : Nat) :
    timeoutOf lo hi default n =
      if n = 0 then some default
      else if n % 64 ≠ 0 ∧ lo ≤ n % 64 * 10 ^ (n / 64 + 1) ∧ n % 64 * 10 ^ (n / 64 + 1) ≤ hi
        then some (n % 64 * 10 ^ (n / 64 + 1)) else none := by
  simp only [timeoutOf, scaleOf_eq h]

theorem timeoutOf_isSome {n : Nat} (h : n ≤ 255) (lo hi default : Nat) :
    (timeoutOf lo hi default n).isSome = true ↔ TimeoutOk lo hi n := by
  rw [timeoutOf_eq h, TimeoutOk]
  split
  · next zero => simp [zero]
  · next some_ => split <;> simp_all

/-- An accepted timeout byte gives its default for 00, its time else (R12). -/
theorem timeoutOf_getD {n : Nat} (h : n ≤ 255) {lo hi : Nat} (ok : TimeoutOk lo hi n) (default : Nat) :
    (timeoutOf lo hi default n).getD 0 = if n = 0 then default else n % 64 * 10 ^ (n / 64 + 1) := by
  rw [timeoutOf_eq h]
  split
  · rfl
  · next some_ => rw [if_pos (ok.resolve_left some_)]; rfl

theorem prescaleOf_eq {n : Nat} (h : n ≤ 3) : prescaleOf n = [1, 2, 4, 16].getD n 0 := by
  have : n = 0 ∨ n = 1 ∨ n = 2 ∨ n = 3 := by omega
  rcases this with e | e | e | e <;> rw [e] <;> rfl

theorem markOk_iff (b : List Byte) :
    imagePresent b = true ∧ crcOk b = true ↔ b.length = 147 ∧ MarkOk (u8 b) (imageCrc b) := by
  simp only [imagePresent, crcOk, Bool.and_eq_true, decide_eq_true_eq, and_assoc]
  exact Iff.rfl

theorem rangesOk_iff (b : List Byte) : rangesOk b = true ↔ FieldsOk (u8 b) := by
  simp only [rangesOk, FieldsOk, Bool.and_eq_true, inRange_iff, u16_eq, decide_eq_true_eq, and_assoc,
    Nat.zero_le, true_and]

theorem entryOk_iff (own : Nat) (e : Nat × Nat × Nat) :
    entryOk own e = true ↔
      (1 ≤ e.1 ∧ e.1 ≤ 62) ∧ e.1 ≠ own ∧ e.2.1 ≤ 5 ∧ e.2.2 ≤ 5 ∧
      (e.2.1 = 2 → 1 ≤ e.2.2 ∧ e.2.2 ≤ 4) ∧ (e.2.1 = 3 → e.2.2 ≠ 0) ∧
      (e.2.1 ≠ 2 → e.2.1 ≠ 3 → e.2.2 = 0) := by
  simp only [entryOk, Bool.and_eq_true, inRange_iff, decide_eq_true_eq, Nat.zero_le, true_and, and_assoc]
  by_cases two : e.2.1 = 2
  · simp [two, inRange_iff]
  · by_cases three : e.2.1 = 3 <;> simp [two, three]

theorem entriesApart_iff (e f : Nat × Nat × Nat) :
    entriesApart e f = true ↔
      e.1 ≠ f.1 ∧ (e.2.1 = f.2.1 → e.2.1 = 2 ∨ e.2.1 = 3 → e.2.2 ≠ f.2.2) := by
  simp only [entriesApart, Bool.and_eq_true, Bool.not_eq_true', decide_eq_true_eq, Bool.and_eq_false_iff,
    Bool.or_eq_false_iff, decide_eq_false_iff_not]
  tauto

theorem atMost_iff (b : List Byte) (k most : Nat) :
    atMost (rosterEntries b) k most = true ↔ classCount (u8 b) k ≤ most := by
  have next_ : ∀ i, 6 + 3 * i + 1 = 7 + 3 * i := by omega
  simp only [atMost, rosterEntries, offsets, List.map_map, List.filter_map, List.length_map, classCount,
    decide_eq_true_eq, Function.comp_def, next_]

/-- A relation holds between any two elements of a mapped range in order. -/
theorem pairwise_map_range {α : Type} (f : Nat → α) (r : α → α → Prop) (n : Nat) :
    ((List.range n).map f).Pairwise r ↔ ∀ i j, i < j → j < n → r (f i) (f j) := by
  rw [List.pairwise_iff_getElem]
  simp only [List.length_map, List.length_range, List.getElem_map, List.getElem_range]
  exact ⟨fun h i j lt below => h i j (by omega) below lt, fun h i j _ below lt => h i j lt below⟩

theorem rosterEntries_eq (b : List Byte) :
    rosterEntries b =
      (List.range (u8 b 5)).map (fun i => (u8 b (6 + 3 * i), u8 b (7 + 3 * i), u8 b (8 + 3 * i))) := by
  simp only [rosterEntries, offsets, List.map_map]
  refine List.map_congr_left fun i _ => ?_
  have one : 6 + 3 * i + 1 = 7 + 3 * i := by omega
  have two : 6 + 3 * i + 2 = 8 + 3 * i := by omega
  simp only [Function.comp_def, one, two]

theorem rosterOk_iff (b : List Byte) :
    rosterOk b = true ↔ EntriesOk (u8 b) ∧ EntriesApart (u8 b) ∧ CountsOk (u8 b) := by
  simp only [rosterOk, Bool.and_eq_true, atMost_iff, decide_eq_true_eq, and_assoc, CountsOk]
  refine and_congr ?_ (and_congr ?_ Iff.rfl)
  · simp only [rosterEntries_eq, List.all_map, List.all_eq_true, List.mem_range, Function.comp_def,
      entryOk_iff, EntriesOk]
  · simp only [rosterEntries_eq, pairwise_map_range, entriesApart_iff, EntriesApart]

theorem pulsesOk_iff {b : List Byte} (h : u8 b 45 ≤ 3) :
    pulsesOk (u16 b 42) (imageEdge b) (imagePrescale b) = true ↔ PulsesOk (u8 b) := by
  simp only [pulsesOk, imageEdge, imagePrescale, prescaleOf_eq h, PulsesOk, Bool.and_eq_true,
    decide_eq_true_eq, u16_eq]

theorem bandOk_iff (d : Band) :
    bandOk d = true ↔
      d.flagFall ≤ 9999 ∧ d.freeSteps ≤ 99 ∧ (1 ≤ d.amount ∧ d.amount ≤ 9999) ∧
      (10 ≤ d.length ∧ d.length ≤ 2000) ∧ 1 ≤ d.timeStep ∧ d.timeStep ≤ 600 := by
  simp only [bandOk, Bool.and_eq_true, inRange_iff, Nat.zero_le, true_and, and_assoc]

theorem bandsOk_iff (b : List Byte) : (bandsOf b).all bandOk = true ↔ BandsOk (u8 b) := by
  simp only [bandsOf, offsets, List.map_map, List.all_map, List.all_eq_true, List.mem_range,
    Function.comp_def, bandOk_iff, bandFrom, deriveBand, BandsOk, u16_eq, Nat.add_right_comm _ (9 * _)]

theorem sharesOk_iff (b : List Byte) : sharesOk (sharesOf b) = true ↔ SharesOk (u8 b) := by
  have table : sharesOf b = [word (u8 b) 85, word (u8 b) 87, word (u8 b) 89, word (u8 b) 91] := rfl
  have four (p : Nat → Prop) : (∀ k, k < 4 → p k) ↔ p 0 ∧ p 1 ∧ p 2 ∧ p 3 :=
    ⟨fun h => ⟨h 0 (by omega), h 1 (by omega), h 2 (by omega), h 3 (by omega)⟩,
      fun ⟨h0, h1, h2, h3⟩ k lt => by
        match k, lt with
        | 0, _ => exact h0
        | 1, _ => exact h1
        | 2, _ => exact h2
        | 3, _ => exact h3⟩
  rw [table]
  simp only [sharesOk, SharesOk, four, Bool.and_eq_true, decide_eq_true_eq, List.head?_cons,
    Option.some.injEq, List.all_cons, List.all_nil, inRange_iff, List.pairwise_cons, List.mem_cons,
    List.not_mem_nil, or_false, forall_eq_or_imp, forall_eq, List.Pairwise.nil, and_true,
    Nat.mul_zero, Nat.mul_one, Nat.reduceMul, Nat.reduceAdd, false_imp_iff, implies_true]
  omega

theorem scheduleOk_iff (b : List Byte) :
    (scheduleOf b).all (scheduleEntryOk (u8 b 48)) = true ↔ ScheduleOk (u8 b) := by
  have days : ∀ o, (BitVec.ofNat 8 (u8 b o)).toNat = u8 b o := fun o => by
    have := u8_le b o
    rw [BitVec.toNat_ofNat, Nat.mod_eq_of_lt]
    omega
  simp only [scheduleOf, offsets, List.map_map, List.all_map, List.all_eq_true, List.mem_range,
    Function.comp_def, scheduleEntryOk, Bool.and_eq_true, inRange_iff, days, Nat.zero_le, true_and,
    ScheduleOk, u16_eq, Nat.add_right_comm _ (4 * _), and_assoc]

theorem settingsOk_iff (b : List Byte) : settingsOk b = true ↔ SettingsOk (u8 b) := by
  simp only [settingsOk, chargeTimeoutOf, guardTimeOf, talkLimitOf, timeoutOf_isSome (u8_le b _),
    Bool.and_eq_true, SettingsOk, offsets, List.all_map, List.all_eq_true, List.mem_range,
    Function.comp_def, decide_eq_true_eq, one_mul, and_assoc]

/-- Every check of R7 to R13 in terms of the bytes' values and of the computed CRC. -/
structure Checked (u : Nat → Nat) (crc : Nat) : Prop where
  mark : MarkOk u crc
  fields : FieldsOk u
  entries : EntriesOk u
  apart : EntriesApart u
  counts : CountsOk u
  pulses : PulsesOk u
  bands : BandsOk u
  shares : SharesOk u
  schedule : ScheduleOk u
  settings : SettingsOk u

theorem imageOk_iff (b : List Byte) :
    imageOk b = true ↔ b.length = 147 ∧ Checked (u8 b) (imageCrc b) := by
  simp only [imageOk, Bool.and_eq_true, markOk_iff, rangesOk_iff, rosterOk_iff, bandsOk_iff,
    sharesOk_iff, scheduleOk_iff, settingsOk_iff]
  constructor
  · rintro ⟨⟨⟨⟨⟨⟨⟨⟨length, mark⟩, fields⟩, entries, apart, counts⟩, pulses⟩, bands⟩,
      shares⟩, schedule⟩, settings⟩
    have scale : u8 b 45 ≤ 3 := fields.2.2.2.2.1
    exact ⟨length, mark, fields, entries, apart, counts, (pulsesOk_iff scale).1 pulses,
      bands, shares, schedule, settings⟩
  · rintro ⟨length, mark, fields, entries, apart, counts, pulses, bands, shares, schedule,
      settings⟩
    have scale : u8 b 45 ≤ 3 := fields.2.2.2.2.1
    exact ⟨⟨⟨⟨⟨⟨⟨⟨length, mark⟩, fields⟩, entries, apart, counts⟩,
      (pulsesOk_iff scale).2 pulses⟩, bands⟩, shares⟩, schedule⟩, settings⟩

/-! ### Bytes after the image -/

/-- Two tables of byte values agree on the image's 147 bytes. -/
def Agree (u v : Nat → Nat) : Prop := ∀ o, o < 147 → v o = u o

theorem Agree.word {u v : Nat → Nat} (h : Agree u v) {o : Nat} (lt : o < 146) :
    word v o = word u o := by
  rw [Machine.word, Machine.word, h o (by omega), h (o + 1) (by omega)]

theorem Agree.classCount {u v : Nat → Nat} (h : Agree u v) (count : u 5 ≤ 12) (k : Nat) :
    classCount v k = classCount u k := by
  rw [Machine.classCount, Machine.classCount, h 5 (by omega)]
  refine congrArg List.length (List.filter_congr fun i hi => ?_)
  have := List.mem_range.1 hi
  rw [h (7 + 3 * i) (by omega)]

/-- The checks look at no byte after the image's 147th (R7). -/
theorem Checked.of_agree {u v : Nat → Nat} {crc : Nat} (h : Agree u v) (c : Checked u crc) :
    Checked v crc := by
  obtain ⟨mark, fields, entries, apart, counts, pulses, bands, shares, schedule, settings⟩ := c
  have roster : u 5 ≤ 12 := fields.2.1
  have bandCount : u 48 ≤ 4 := fields.2.2.2.2.2.2.1.2
  have entryCount : u 93 ≤ 8 := fields.2.2.2.2.2.2.2.1
  refine ⟨?_, ?_, fun i lt => ?_, fun i j below lt => ?_, ?_, ?_, fun i lt => ?_, ?_, fun i lt => ?_, ?_⟩
  · simpa only [MarkOk, h.word (o := 0) (by omega), h.word (o := 2) (by omega),
      h.word (o := 145) (by omega)] using mark
  · simpa only [FieldsOk, h _ (show 4 < 147 by omega), h _ (show 5 < 147 by omega),
      h.word (show 42 < 146 by omega), h _ (show 44 < 147 by omega), h _ (show 45 < 147 by omega),
      h.word (show 46 < 146 by omega), h _ (show 48 < 147 by omega), h _ (show 93 < 147 by omega),
      h _ (show 126 < 147 by omega), h _ (show 127 < 147 by omega), h.word (show 131 < 146 by omega),
      h _ (show 133 < 147 by omega), h _ (show 134 < 147 by omega), h _ (show 135 < 147 by omega),
      h _ (show 136 < 147 by omega), h _ (show 137 < 147 by omega)] using fields
  · rw [h 5 (by omega)] at lt
    simpa only [h 4 (by omega), h (6 + 3 * i) (by omega), h (7 + 3 * i) (by omega),
      h (8 + 3 * i) (by omega)] using entries i lt
  · rw [h 5 (by omega)] at lt
    simpa only [h (6 + 3 * i) (by omega), h (7 + 3 * i) (by omega), h (8 + 3 * i) (by omega),
      h (6 + 3 * j) (by omega), h (7 + 3 * j) (by omega), h (8 + 3 * j) (by omega)]
      using apart i j below lt
  · simpa only [CountsOk, h.classCount roster] using counts
  · simpa only [PulsesOk, h.word (show 42 < 146 by omega), h _ (show 44 < 147 by omega),
      h _ (show 45 < 147 by omega)] using pulses
  · rw [h 48 (by omega)] at lt
    simpa only [h.word (o := 49 + 9 * i) (by omega), h (51 + 9 * i) (by omega),
      h.word (o := 52 + 9 * i) (by omega), h.word (o := 54 + 9 * i) (by omega),
      h.word (o := 56 + 9 * i) (by omega)] using bands i lt
  · obtain ⟨one, each, two, three, four⟩ := shares
    refine ⟨?_, fun k lt => ?_, ?_⟩
    · rwa [h.word (by omega)]
    · simpa only [h.word (o := 85 + 2 * k) (by omega)] using each k lt
    · simpa only [h.word (show 85 < 146 by omega), h.word (show 87 < 146 by omega),
        h.word (show 89 < 146 by omega), h.word (show 91 < 146 by omega)] using ⟨two, three, four⟩
  · rw [h 93 (by omega)] at lt
    simpa only [h 48 (by omega), h (94 + 4 * i) (by omega), h.word (o := 95 + 4 * i) (by omega),
      h (97 + 4 * i) (by omega)] using schedule i lt
  · obtain ⟨charge, guard_, talk, causes⟩ := settings
    refine ⟨?_, ?_, ?_, fun k lt => ?_⟩
    · rwa [h _ (by omega)]
    · rwa [h _ (by omega)]
    · rwa [h _ (by omega)]
    · simpa only [h (138 + k) (by omega)] using causes k lt

theorem checked_take_iff (image : List Byte) (crc : Nat) :
    Checked (u8 (image.take 147)) crc ↔ Checked (u8 image) crc :=
  ⟨.of_agree fun _ lt => (u8_take lt).symm, .of_agree fun _ lt => u8_take lt⟩

theorem imageCrc_take (image : List Byte) :
    imageCrc (image.take imageLength) = (crc16 (image.take 145)).toNat := by
  simp [imageCrc, imageLength, List.take_take]

theorem loadImage_good_iff (image : List Byte) :
    (loadImage image).tariff.good = true ↔
      147 ≤ image.length ∧ Checked (u8 image) (crc16 (image.take 145)).toNat := by
  have good : (loadImage image).tariff.good = imageOk (image.take imageLength) := by
    unfold loadImage
    dsimp only
    split
    · next ok => exact ok.symm
    · next bad => exact (Bool.eq_false_iff.2 bad).symm
  rw [good, imageOk_iff, imageCrc_take]
  refine and_congr ?_ (checked_take_iff image _)
  simp [imageLength]

/-- An image comes into force exactly if it passes every check (R7 to R13). -/
theorem image_is_checked : Claims.ImageIsChecked := by
  intro image
  dsimp only
  rw [loadImage_good_iff]
  refine and_congr_right fun _ => ⟨?_, ?_⟩
  · rintro ⟨⟨mark, size, crc⟩, ⟨own, count, rest⟩, entries, apart, ⟨c0, c1, c4, c5⟩, pulses, bands,
      ⟨first_, each, s2, s3, s4⟩, schedule, ⟨charge, guard_, talk, causes⟩⟩
    obtain ⟨kRaw, edge, scale, width, bandCount, entryCount, manual, tip, vMin, nPlaus, day, night,
      ambient⟩ := rest
    exact ⟨mark, size, crc, own, count, kRaw, edge, scale, width, bandCount, entryCount, manual, tip,
      vMin, nPlaus, day, night, ambient, entries, apart, c0, c1, c4, c5, pulses, bands, first_, each,
      s2, s3, s4, schedule, charge, guard_, talk, causes⟩
  · rintro ⟨mark, size, crc, own, count, kRaw, edge, scale, width, bandCount, entryCount, manual, tip,
      vMin, nPlaus, day, night, ambient, entries, apart, c0, c1, c4, c5, pulses, bands, first_, each,
      s2, s3, s4, schedule, charge, guard_, talk, causes⟩
    exact ⟨⟨mark, size, crc⟩, ⟨own, count, kRaw, edge, scale, width, bandCount, entryCount, manual, tip,
      vMin, nPlaus, day, night, ambient⟩, entries, apart, ⟨c0, c1, c4, c5⟩, pulses, bands,
      ⟨first_, each, s2, s3, s4⟩, schedule, ⟨charge, guard_, talk, causes⟩⟩

/-! ### What an image brings -/

theorem loadImage_rejected {image : List Byte} (bad : (loadImage image).tariff.good = false) :
    loadImage image = fallback := by
  unfold loadImage at bad ⊢
  dsimp only at bad ⊢
  split
  · next ok => rw [if_pos ok] at bad; cases bad
  · rfl

theorem loadImage_good {image : List Byte} (good : (loadImage image).tariff.good = true) :
    loadImage image =
      { tariff := tariffOf (image.take imageLength), roster := rosterOf (image.take imageLength),
        masked := masksOf (image.take imageLength), note := notesOf (image.take imageLength) } := by
  unfold loadImage at good ⊢
  dsimp only at good ⊢
  split
  · rfl
  · next bad => rw [if_neg bad] at good; cases good

/-- The bytes of a good image, as the checks see them, are the bytes that the read gave (R7). -/
theorem u8_cut (image : List Byte) {o : Nat} (h : o < 147) :
    u8 (image.take imageLength) o = u8 image o := u8_take h

theorem u16_cut (image : List Byte) {o : Nat} (h : o < 146) :
    u16 (image.take imageLength) o = u16 image o := by
  rw [u16, u16, u8_cut image (by omega), u8_cut image (by omega)]

/-- A checked image's CRC and bytes (R7 to R13). -/
theorem good_checked {image : List Byte} (good : (loadImage image).tariff.good = true) :
    Checked (u8 image) (crc16 (image.take 145)).toNat :=
  ((loadImage_good_iff image).1 good).2

theorem edgeFactor_edgeOf {n : Nat} (h : n ≤ 2) : edgeFactor (edgeOf n) = if n = 2 then 2 else 1 := by
  have : n = 0 ∨ n = 1 ∨ n = 2 := by omega
  rcases this with e | e | e <;> rw [e] <;> rfl

theorem edgeOf_eq (n : Nat) :
    edgeOf n = if n = 0 then .falling else if n = 1 then .rising else .both := by
  unfold edgeOf
  split <;> simp_all

theorem classOf_isSome {n : Nat} (h : n ≤ 5) : ∃ c, classOf n = some c ∧ classValue c = n := by
  have : n = 0 ∨ n = 1 ∨ n = 2 ∨ n = 3 ∨ n = 4 ∨ n = 5 := by omega
  rcases this with e | e | e | e | e | e <;> rw [e] <;> exact ⟨_, rfl, rfl⟩

/-- A roster entry as it comes into force (R5). -/
def stationOf (e : Nat × Nat × Nat) : Station :=
  { addr := e.1, cls := (classOf e.2.1).getD .aux, binding := e.2.2, timer := none }

/-- Every entry in use of a checked roster comes into force, in image order (R5). -/
theorem rosterOf_eq {b : List Byte} (h : EntriesOk (u8 b)) :
    rosterOf b = (List.range (u8 b 5)).map (fun i =>
      stationOf (u8 b (6 + 3 * i), u8 b (7 + 3 * i), u8 b (8 + 3 * i))) := by
  rw [rosterOf, rosterEntries_eq, List.filterMap_map, ← List.filterMap_eq_map]
  refine List.filterMap_congr fun i hi => ?_
  obtain ⟨-, -, cls, -⟩ := h i (List.mem_range.1 hi)
  obtain ⟨c, hc, -⟩ := classOf_isSome cls
  simp [stationOf, hc]

theorem settingMasked_eq {n : Nat} (h : n ≤ 4) : settingMasked n = decide (3 ≤ n) := by
  have : n = 0 ∨ n = 1 ∨ n = 2 ∨ n = 3 ∨ n = 4 := by omega
  rcases this with e | e | e | e | e <;> rw [e] <;> rfl

theorem settingNote_eq (default : Bool) (n : Nat) :
    settingNote default n = if n = 0 then default else decide (n = 2 ∨ n = 4) := by
  simp [settingNote]

theorem getElem?_map_range {α : Type} {f : Nat → α} {n i : Nat} {x : α}
    (h : ((List.range n).map f)[i]? = some x) : i < n ∧ x = f i := by
  rw [List.getElem?_map, Option.map_eq_some_iff] at h
  obtain ⟨j, hj, rfl⟩ := h
  obtain ⟨lt, rfl⟩ := List.getElem?_eq_some_iff.1 hj
  simp only [List.length_range] at lt
  simp [lt]

theorem rosterOf_length {b : List Byte} (h : EntriesOk (u8 b)) : (rosterOf b).length = u8 b 5 := by
  simp [rosterOf_eq h]

theorem bandsOf_length (b : List Byte) : (bandsOf b).length = u8 b 48 := by
  simp [bandsOf, offsets]

theorem scheduleOf_length (b : List Byte) : (scheduleOf b).length = u8 b 93 := by
  simp [scheduleOf, offsets]

theorem bandsOf_getElem? {b : List Byte} {i : Nat} {d : Band} (h : (bandsOf b)[i]? = some d) :
    i < u8 b 48 ∧ d = bandFrom b (49 + 9 * i) := by
  rw [bandsOf, offsets, List.map_map] at h
  exact getElem?_map_range h

theorem scheduleOf_getElem? {b : List Byte} {i : Nat} {e : ScheduleEntry}
    (h : (scheduleOf b)[i]? = some e) :
    i < u8 b 93 ∧ e.days.toNat = u8 b (94 + 4 * i) ∧ e.start = u16 b (95 + 4 * i) ∧
      e.band = u8 b (97 + 4 * i) := by
  rw [scheduleOf, offsets, List.map_map] at h
  obtain ⟨lt, rfl⟩ := getElem?_map_range h
  have one : 94 + 4 * i + 1 = 95 + 4 * i := by omega
  have three : 94 + 4 * i + 3 = 97 + 4 * i := by omega
  refine ⟨lt, ?_, congrArg (u16 b) one, congrArg (u8 b) three⟩
  have := u8_le b (94 + 4 * i)
  simp only [Function.comp_def, BitVec.toNat_ofNat]
  omega

theorem image_fields_are_taken : Claims.ImageFieldsAreTaken := by
  intro image
  dsimp only
  refine ⟨fun bad => ?_, fun good => ?_⟩
  · rw [loadImage_rejected bad]
    exact ⟨rfl, rfl, rfl, rfl⟩
  obtain ⟨-, fields, entries, -, -, -, -, -, -, settings⟩ := good_checked good
  obtain ⟨-, roster, -, edge, scale, -, bandCount, entryCount, -⟩ := fields
  obtain ⟨charge, guard_, talk, causes⟩ := settings
  have cut (o : Nat) (h : o < 147) : u8 (image.take imageLength) o = u8 image o := u8_cut image h
  have cut16 (o : Nat) (h : o < 146) : u16 (image.take imageLength) o = u16 image o := u16_cut image h
  have setting (k : Nat) (h : k < 7) (default : Bool) :
      settingMasked (u8 (image.take imageLength) (138 + k)) = decide (3 ≤ u8 image (138 + k)) ∧
      settingNote default (u8 (image.take imageLength) (138 + k)) =
        if u8 image (138 + k) = 0 then default
        else decide (u8 image (138 + k) = 2 ∨ u8 image (138 + k) = 4) := by
    rw [cut _ (by omega)]
    exact ⟨settingMasked_eq (causes k h), settingNote_eq default _⟩
  have listed : EntriesOk (u8 (image.take imageLength)) :=
    ((checked_take_iff image _).2 (good_checked good)).entries
  rw [loadImage_good good]
  refine ⟨imageCrc_take image, cut 4 (by omega), cut16 42 (by omega), ?_, ?_, cut16 46 (by omega), ?_,
    fun i d hd => ?_, ?_, ?_, fun i e he => ?_, ?_, cut 127 (by omega), ?_, ?_, ?_, cut16 131 (by omega),
    cut 133 (by omega), cut 134 (by omega), cut 135 (by omega), cut 136 (by omega), cut 137 (by omega),
    ?_, fun i x hx => ?_, ?_, setting 0 (by omega) false, setting 1 (by omega) false,
    setting 2 (by omega) false, setting 3 (by omega) true, setting 4 (by omega) true,
    setting 5 (by omega) true, setting 6 (by omega) true⟩
  case refine_1 => exact (congrArg edgeOf (cut 44 (by omega))).trans (edgeOf_eq _)
  case refine_2 => exact (congrArg prescaleOf (cut 45 (by omega))).trans (prescaleOf_eq scale)
  case refine_3 =>
    exact (bandsOf_length _).trans (cut 48 (by omega))
  case refine_4 =>
    obtain ⟨lt, rfl⟩ := bandsOf_getElem? hd
    rw [cut 48 (by omega)] at lt
    have lt : i < 4 := lt.trans_le bandCount.2
    exact ⟨cut16 (49 + 9 * i) (by omega),
      (cut (49 + 9 * i + 2) (by omega)).trans (congrArg (u8 image) (by omega)),
      (cut16 (49 + 9 * i + 3) (by omega)).trans (congrArg (u16 image) (by omega)),
      (cut16 (49 + 9 * i + 5) (by omega)).trans (congrArg (u16 image) (by omega)),
      (cut16 (49 + 9 * i + 7) (by omega)).trans (congrArg (u16 image) (by omega))⟩
  case refine_5 =>
    change [u16 _ 85, u16 _ 87, u16 _ 89, u16 _ 91] = _
    rw [cut16 85 (by omega), cut16 87 (by omega), cut16 89 (by omega), cut16 91 (by omega)]
    rfl
  case refine_6 =>
    exact (scheduleOf_length _).trans (cut 93 (by omega))
  case refine_7 =>
    obtain ⟨lt, days, start, band⟩ := scheduleOf_getElem? he
    rw [cut 93 (by omega)] at lt
    have lt : i < 8 := lt.trans_le entryCount
    exact ⟨days.trans (cut _ (by omega)), start.trans (cut16 _ (by omega)), band.trans (cut _ (by omega))⟩
  case refine_8 => exact congrArg (fun n => decide (n = 1)) (cut 126 (by omega))
  case refine_9 =>
    exact (congrArg (fun n => (chargeTimeoutOf n).getD 0) (cut 128 (by omega))).trans
      (timeoutOf_getD (u8_le _ _) charge _)
  case refine_10 =>
    exact (congrArg (fun n => (guardTimeOf n).getD 0) (cut 129 (by omega))).trans
      (timeoutOf_getD (u8_le _ _) guard_ _)
  case refine_11 =>
    exact (congrArg (fun n => (talkLimitOf n).getD 0) (cut 130 (by omega))).trans
      (timeoutOf_getD (u8_le _ _) talk _)
  case refine_12 =>
    exact (rosterOf_length listed).trans (cut 5 (by omega))
  case refine_13 =>
    change (rosterOf _)[i]? = some x at hx
    rw [rosterOf_eq listed] at hx
    obtain ⟨lt, rfl⟩ := getElem?_map_range hx
    rw [cut 5 (by omega)] at lt
    obtain ⟨-, -, cls, -⟩ := entries i lt
    have lt : i < 12 := lt.trans_le roster
    obtain ⟨c, hc, value⟩ := classOf_isSome cls
    refine ⟨cut _ (by omega), ?_, cut _ (by omega), rfl⟩
    simp only [stationOf, cut (7 + 3 * i) (by omega), hc, Option.getD_some]
    exact value
  case refine_14 =>
    intro c hc
    simp only [List.mem_cons, List.not_mem_nil, or_false] at hc
    rcases hc with rfl | rfl | rfl <;> exact ⟨rfl, rfl⟩

/-! ### Step sizes -/

/-- A band of a checked image lies in its ranges, and its sizes are derived from the image's pulse
constants (R10, R11, R15). -/
theorem band_of_good {image : List Byte} {d : Band} (h : d ∈ (loadImage image).tariff.bands) :
    (loadImage image).tariff.good = true ∧ bandOk d = true ∧
      d.np = deriveNp (loadImage image).tariff.kRaw (edgeFactor (loadImage image).tariff.edge)
        (loadImage image).tariff.prescale d.length ∧
      d.nt = deriveNt d.timeStep ∧ d.size = d.np * d.nt * 1000 := by
  have good : (loadImage image).tariff.good = true := by
    by_contra bad
    rw [loadImage_rejected (Bool.eq_false_iff.2 bad)] at h
    cases h
  have checked := (checked_take_iff image _).2 (good_checked good)
  have scale : u8 (image.take imageLength) 45 ≤ 3 := checked.fields.2.2.2.2.1
  have edge : u8 (image.take imageLength) 44 ≤ 2 := checked.fields.2.2.2.1
  have ok := List.all_eq_true.1 ((bandsOk_iff _).2 checked.bands)
  rw [loadImage_good good] at h ⊢
  refine ⟨rfl, ok d h, ?_⟩
  obtain ⟨o, -, rfl⟩ := List.mem_map.1 h
  refine ⟨?_, rfl, rfl⟩
  change deriveNp _ (imageEdge _) _ _ = deriveNp _ (edgeFactor (edgeOf _)) _ _
  rw [edgeFactor_edgeOf edge]
  rfl

/-- The pulse constants of a good image (R10). -/
theorem pulses_of_good {image : List Byte} (good : (loadImage image).tariff.good = true) :
    0 < (loadImage image).tariff.prescale ∧
    250 * (loadImage image).tariff.prescale ≤ pulsesPerKm (loadImage image).tariff ∧
    pulsesPerKm (loadImage image).tariff ≤ 20000 * (loadImage image).tariff.prescale := by
  have checked := (checked_take_iff image _).2 (good_checked good)
  have scale : u8 (image.take imageLength) 45 ≤ 3 := checked.fields.2.2.2.2.1
  have edge : u8 (image.take imageLength) 44 ≤ 2 := checked.fields.2.2.2.1
  rw [loadImage_good good]
  change 0 < prescaleOf (u8 (image.take imageLength) 45) ∧
    250 * prescaleOf (u8 (image.take imageLength) 45)
      ≤ u16 (image.take imageLength) 42 * edgeFactor (edgeOf (u8 (image.take imageLength) 44)) ∧
    u16 (image.take imageLength) 42 * edgeFactor (edgeOf (u8 (image.take imageLength) 44))
      ≤ 20000 * prescaleOf (u8 (image.take imageLength) 45)
  refine ⟨?_, ?_⟩
  · unfold prescaleOf
    split <;> omega
  · rw [edgeFactor_edgeOf edge, prescaleOf_eq scale]
    exact checked.pulses

/-- Np of a band in its ranges, under the pulse check, lies between 3 and 40,000 (R10, R15). -/
theorem deriveNp_bounds {kRaw e p length : Nat} (positive : 0 < p) (low : 250 * p ≤ kRaw * e)
    (high : kRaw * e ≤ 20000 * p) (short : 10 ≤ length) (long : length ≤ 2000) :
    3 ≤ deriveNp kRaw e p length ∧ deriveNp kRaw e p length ≤ 40000 := by
  have least : 250 * p * 10 ≤ kRaw * e * length := Nat.mul_le_mul low short
  have most : kRaw * e * length ≤ 20000 * p * 2000 := Nat.mul_le_mul high long
  unfold deriveNp
  refine ⟨(Nat.le_div_iff_mul_le (by omega)).2 (by omega), ?_⟩
  exact Nat.le_of_lt_succ ((Nat.div_lt_iff_lt_mul (by omega)).2 (by omega))

theorem np_bounds {image : List Byte} {d : Band} (h : d ∈ (loadImage image).tariff.bands) :
    3 ≤ d.np ∧ d.np ≤ 40000 := by
  obtain ⟨good, ok, np, -, -⟩ := band_of_good h
  obtain ⟨positive, low, high⟩ := pulses_of_good good
  obtain ⟨-, -, -, ⟨short, long⟩, -⟩ := (bandOk_iff d).1 ok
  rw [np]
  exact deriveNp_bounds positive low high short long

theorem nt_bounds {image : List Byte} {d : Band} (h : d ∈ (loadImage image).tariff.bands) :
    5 ≤ d.nt ∧ d.nt ≤ 3000 := by
  obtain ⟨-, ok, -, nt, -⟩ := band_of_good h
  obtain ⟨-, -, -, -, least, most⟩ := (bandOk_iff d).1 ok
  rw [nt, deriveNt]
  omega

theorem size_bounds {image : List Byte} {d : Band} (h : d ∈ (loadImage image).tariff.bands) :
    15000 ≤ d.size ∧ d.size ≤ 120000000000 := by
  obtain ⟨-, -, -, -, size⟩ := band_of_good h
  obtain ⟨np, npMost⟩ := np_bounds h
  obtain ⟨nt, ntMost⟩ := nt_bounds h
  have least : 3 * 5 ≤ d.np * d.nt := Nat.mul_le_mul np nt
  have most : d.np * d.nt ≤ 40000 * 3000 := Nat.mul_le_mul npMost ntMost
  omega

theorem pulse_check_bounds_step_sizes : Claims.PulseCheckBoundsStepSizes := fun _ good =>
  ⟨(pulses_of_good good).2.1, (pulses_of_good good).2.2, fun _ h => np_bounds h⟩

theorem step_sizes_are_derived : Claims.StepSizesAreDerived := by
  intro image
  refine ⟨fun d h => ?_, fun bad => ?_⟩
  · obtain ⟨-, -, np, nt, size⟩ := band_of_good h
    exact ⟨np, nt, size, (nt_bounds h).1, (nt_bounds h).2, (size_bounds h).1, (size_bounds h).2⟩
  · rw [loadImage_rejected bad]
    rfl

/-- Settles O21: the checks are read byte by byte, and a good image's bytes are the bytes read. -/
theorem stepSizesAreBoundedAndDerived : Obligations.StepSizesAreBoundedAndDerived :=
  ⟨image_is_checked, image_fields_are_taken, pulse_check_bounds_step_sizes, step_sizes_are_derived⟩

end Sys2Proof.Machine

/-! PROOFS. What a load completion leaves: the image in force, the counts and totals, the hold by CONFIG
under a rejected image, and every seat's progress (R5, R14, R57, R58, R167). -/

namespace Sys2Proof.Machine

-- One theorem at a time: the memory limit of the check counts the stack of every thread.
set_option Elab.async false

/-! ### Step 4's outcome in force -/

/-- The state that the band selector finds at a load completion: all of step 4's outcome but the band. -/
def imageTaken (l : Loaded) (s : State) : State :=
  let t := s.setTariff l.tariff
  let t := t.setStart { t.start with loaded := true, imageTimer := none }
  let t := t.setLine { t.line with roster := l.roster, statusTimer := some statusTime }
  let t :=
    if l.tariff.good then
      t.setMotion { t.motion with settled := some t.pins.pulse, intervalTimer := some intervalTime }
    else t
  let t := t.setSign { t.sign with timebase := some lampTime }
  watchTamper (takeSettings l.masked l.note t)

theorem putInForce_eq (l : Loaded) (s : State) : putInForce l s = selectAuto (imageTaken l s) := rfl

/-- What step 4's outcome leaves of the state, part by part (R5, R21, R25, R37, R151, R158, R167, R202). -/
theorem imageTaken_eq (l : Loaded) (s : State) :
    imageTaken l s = { s with
      tariff := l.tariff,
      start := { s.start with loaded := true, imageTimer := none },
      line := { s.line with roster := l.roster, statusTimer := some statusTime },
      motion :=
        if l.tariff.good then
          { s.motion with settled := some s.pins.pulse, intervalTimer := some intervalTime }
        else s.motion,
      sign := { s.sign with timebase := some lampTime },
      monitor := { s.monitor with masked := l.masked, note := l.note },
      tamperFilter := { settled := s.pins.tamper, changing := false } } := by
  unfold imageTaken
  dsimp only
  split <;> rfl

theorem putInForce_state (l : Loaded) (s : State) :
    putInForce l s = (imageTaken l s).setBand
      { mode := .auto, selected := evaluateBand l.tariff s.clock } := by
  rw [putInForce_eq, imageTaken_eq]
  rfl

section InForce

variable (l : Loaded) (s : State)

@[simp] theorem putInForce_tariff : (putInForce l s).tariff = l.tariff := by
  rw [putInForce_state, imageTaken_eq]; rfl

@[simp] theorem putInForce_monitor :
    (putInForce l s).monitor = { s.monitor with masked := l.masked, note := l.note } := by
  rw [putInForce_state, imageTaken_eq]; rfl

@[simp] theorem putInForce_motion :
    (putInForce l s).motion =
      if l.tariff.good then
        { s.motion with settled := some s.pins.pulse, intervalTimer := some intervalTime }
      else s.motion := by
  rw [putInForce_state, imageTaken_eq]; rfl

@[simp] theorem putInForce_band :
    (putInForce l s).band = { mode := .auto, selected := evaluateBand l.tariff s.clock } := by
  rw [putInForce_state]; rfl

@[simp] theorem putInForce_start :
    (putInForce l s).start = { loaded := true, imageTimer := none, kind := s.start.kind } := by
  rw [putInForce_state, imageTaken_eq]; rfl

end InForce

/-- Step 4's outcome leaves the retained items. -/
theorem putInForce_hold (l : Loaded) (s : State) : (putInForce l s).hold = s.hold :=
  putInForce_frame l s .hold (by decide)

theorem putInForce_accounts (l : Loaded) (s : State) : (putInForce l s).accounts = s.accounts :=
  putInForce_frame l s .accounts (by decide)

theorem putInForce_seats (l : Loaded) (s : State) : (putInForce l s).seats = s.seats :=
  putInForce_frame l s .seats (by decide)

/-- What the start work after step 4 does not change (R5). -/
theorem startWork_after (l : Loaded) (s : State) :
    Frame retainedParts (putInForce l s) (startWork l s) := by
  have told : Frame retainedParts (putInForce l s) (intercomStartWork (putInForce l s)) :=
    .ite (send_frame _ _ _).mono (.refl _ _)
  exact ((told.trans (retainedWork_frame _)).trans (computeSign_frame _).mono).trans
    (queueStatus_frame _).mono

theorem startWork_tariff (l : Loaded) (s : State) : (startWork l s).tariff = l.tariff :=
  (startWork_after l s .tariff (by decide)).trans (putInForce_tariff l s)

theorem startWork_motion (l : Loaded) (s : State) :
    (startWork l s).motion =
      if l.tariff.good then
        { s.motion with settled := some s.pins.pulse, intervalTimer := some intervalTime }
      else s.motion :=
  (startWork_after l s .motion (by decide)).trans (putInForce_motion l s)

theorem startWork_band (l : Loaded) (s : State) :
    (startWork l s).band = { mode := .auto, selected := evaluateBand l.tariff s.clock } :=
  (startWork_after l s .band (by decide)).trans (putInForce_band l s)

/-! ### Counts and totals -/

/-- The hold count stays within its bound, and no totalizer falls (R156, R170). -/
structure CountsKept (s t : State) : Prop where
  count : s.hold.count ≤ max24 → t.hold.count ≤ max24
  totals : AccountsGrow s.accounts t.accounts

theorem CountsKept.trans {s t u : State} (h : CountsKept s t) (k : CountsKept t u) :
    CountsKept s u := ⟨k.count ∘ h.count, h.totals.trans k.totals⟩

theorem CountsKept.refl (s : State) : CountsKept s s := ⟨id, .refl _⟩

theorem CountsKept.ite {s t u : State} {c : Prop} [Decidable c] (h : CountsKept s t)
    (k : CountsKept s u) : CountsKept s (if c then t else u) := by
  split <;> assumption

theorem Stands.counts {s t : State} (h : Stands s t) : CountsKept s t := ⟨h.count, h.totals⟩

theorem Runs.counts {s t : State} (h : Runs s t) : CountsKept s t := h.toStands.counts

theorem CountsKept.of_eq {s t : State} (hold : t.hold.count = s.hold.count)
    (accounts : t.accounts = s.accounts) : CountsKept s t :=
  ⟨fun h => hold ▸ h, accounts ▸ .refl _⟩

theorem CountsKept.countLaw {s t : State} (h : CountsKept s t) (k : CountLaw s) : CountLaw t := by
  obtain ⟨counted, count⟩ := (countLaw_iff s).1 k
  exact (countLaw_iff t).2 ⟨(h.totals counted).1, h.count count⟩

theorem closeIfPaid_counts (q : Seat) (s : State) : CountsKept s (closeIfPaid q s) :=
  (closeIfPaid_runs q s).runs.counts

theorem changeSeat_counts (q : Seat) (r : SeatRecord) (s : State) : CountsKept s (changeSeat q r s) :=
  .of_eq (by rw [(changeSeat_fare q r s).hold]) (changeSeat_accounts q r s)

theorem warmStartSeat_counts (s : State) (q : Seat) : CountsKept s (warmStartSeat s q) :=
  .ite ((changeSeat_counts q _ s).trans (closeIfPaid_counts q _)) (.of_eq rfl rfl)

theorem warmStartSeats_counts (s : State) : CountsKept s (warmStartSeats s) :=
  (((warmStartSeat_counts s .one).trans (warmStartSeat_counts _ .two)).trans
    (warmStartSeat_counts _ .three)).trans (warmStartSeat_counts _ .four)

theorem retireSlots_runs (s : State) : Runs s (retireSlots s) := (retireSlots_frame s).runs

theorem raiseBreak_runs (b : Bool) (s : State) : Runs s (raiseBreak b s) :=
  .ite (raiseCause_runs _ _ s) (.refl s)

theorem resumeTrips_counts (s : State) : CountsKept s (resumeTrips s) :=
  ((warmStartSeats_counts s).trans (raiseBreak_runs _ _).counts).trans (retireSlots_runs _).counts

theorem raiseIfPresent_runs (c : Cause) (s : State) : Runs s (raiseIfPresent c s) :=
  .ite (raiseCause_runs _ _ s) (.refl s)

theorem enterIfCalled_runs (s : State) : Runs s (enterIfCalled s) := by
  unfold enterIfCalled
  refine .ite (.refl s) ?_
  split
  · exact enterHeld_runs _ _ s
  · exact .refl s

/-- The monitor's start work before its raises (R167, steps 2 and 3). -/
def causesReported (s : State) : State :=
  let t := startConditions s
  if t.tariff.good then clearStatus .config t else t

/-- The monitor's raises of the conditions present, and its entry to HELD (R167, steps 4 and 5). -/
def causesRaised (s : State) : State :=
  enterIfCalled (raiseIfPresent .tamper (raiseIfPresent .clock (raiseIfPresent .config s)))

theorem monitorStartWork_eq (s : State) : monitorStartWork s = causesRaised (causesReported s) := rfl

theorem causesRaised_runs (s : State) : Runs s (causesRaised s) :=
  (((raiseIfPresent_runs _ s).trans (raiseIfPresent_runs _ _)).trans (raiseIfPresent_runs _ _)).trans
    (enterIfCalled_runs _)

theorem causesReported_counts (s : State) : CountsKept s (causesReported s) :=
  .ite (.of_eq rfl rfl) (.of_eq rfl rfl)

theorem monitorStartWork_counts (s : State) : CountsKept s (monitorStartWork s) :=
  (causesReported_counts s).trans (causesRaised_runs _).counts

theorem setDraws_counts (n : Nat) (s : State) : CountsKept s (s.setDraws n) := .of_eq rfl rfl

theorem retainedWork_counts (s : State) : CountsKept s (retainedWork s) := by
  unfold retainedWork warmWork
  split
  · exact monitorStartWork_counts s
  · refine .ite ?_ ((warmStartSeats_counts s).trans (monitorStartWork_counts _))
    exact .ite (((setDraws_counts _ s).trans (monitorStartWork_counts _)).trans (resumeTrips_counts _))
      (((setDraws_counts _ s).trans (resumeTrips_counts _)).trans (monitorStartWork_counts _))

theorem intercomStartWork_runs (s : State) : Runs s (intercomStartWork s) :=
  .ite (send_only _ _ _).runs (.refl s)

theorem startWork_counts (l : Loaded) (s : State) : CountsKept s (startWork l s) := by
  have taken : CountsKept s (putInForce l s) :=
    .of_eq (by rw [putInForce_hold]) (putInForce_accounts l s)
  exact (((taken.trans (intercomStartWork_runs _).counts).trans (retainedWork_counts _)).trans
    (computeSign_frame _).runs.counts).trans (queueStatus_only _).runs.counts

/-! ### The totalizers (R170, R178) -/

theorem stopMain_counts (s : State) : CountsKept s (stopMain s) :=
  .of_eq (by rw [stopMain_eq]; rfl) (by rw [stopMain_eq]; rfl)

theorem stopMain_marker (s : State) : (stopMain s).markerValid = s.markerValid := by
  rw [stopMain_eq]; rfl

theorem counted_cold : Counted accountsCold := by
  unfold Counted
  decide

/-- A warm start keeps the counts; a cold one sets them to 0 (R4). -/
theorem beginStart_countLaw {s : State} (h : CountLaw s) : CountLaw (beginStart s) := by
  unfold beginStart readMarker
  split
  · exact (stopMain_counts s).countLaw h
  · exact (countLaw_iff _).2 ⟨counted_cold, Nat.zero_le _⟩

theorem beginStart_warm {s : State} (h : s.markerValid = true) :
    (beginStart s).accounts = s.accounts := by
  unfold beginStart readMarker
  rw [if_pos (by rw [stopMain_marker]; exact h)]
  change (stopMain s).accounts = _
  rw [stopMain_eq]
  rfl

theorem CountLaw.of_frame {ps : List Part} {s u : State} (h : CountLaw s) (f : Frame ps s u)
    (sub : ps ⊆ quietParts := by decide) : CountLaw u := (f.runs sub).counts.countLaw h

theorem exec_keeps_countLaw {c : Instr} {s t : State} (h : CountLaw s) (e : exec c s = .next t) :
    CountLaw t := by
  cases exec_follows e with
  | runs r => exact r.counts.countLaw h
  | stops u f e => subst e; exact (stopMain_counts u).countLaw (h.of_frame f)
  | starts u f e => subst e; exact beginStart_countLaw (h.of_frame f)
  | loads bytes _ e => subst e; exact (startWork_counts _ s).countLaw h
  | backup e => subst e; exact h

/-- With a valid marker every start is warm, so no totalizer falls (R2, R170). -/
theorem exec_totalizers_grow {c : Instr} {s t : State} (h : CountLaw s) (valid : s.markerValid = true)
    (e : exec c s = .next t) : TotalizersGrow s.accounts.totalizers t.accounts.totalizers := by
  have counted := ((countLaw_iff s).1 h).1
  have grows : CountsKept s t → TotalizersGrow s.accounts.totalizers t.accounts.totalizers :=
    fun k => (k.totals counted).2
  cases exec_follows e with
  | runs r => exact grows r.counts
  | stops u f e => subst e; exact grows ((f.runs).counts.trans (stopMain_counts u))
  | starts u f e =>
    have marker : u.markerValid = true := (f .marker (by decide)).trans valid
    have same : u.accounts = s.accounts := f .accounts (by decide)
    rw [e, beginStart_warm marker, same]
    exact .refl _
  | loads bytes _ e => subst e; exact grows (startWork_counts _ s)
  | backup e => subst e; exact .refl _

/-- Settles O14: every change that is no cold start only adds to the totalizers, held at their bounds. -/
theorem totalizersNeverFall : Obligations.TotalizersNeverFall := by
  refine ⟨keptByStep_of (fun _ _ h => h) fun _ _ _ => exec_keeps_countLaw, fun s t h valid e => ?_⟩
  unfold step at e
  split at e
  · cases e
    exact .refl _
  · next _ rest _ => exact exec_totalizers_grow (s := s.setPending rest) h valid e

/-! ### The image and the band in force (R14, R19) -/

/-- The image that a read brings has the bands that its schedule names, and the evaluation selects one of
them; a rejected one has none (R11, R14, R19). -/
theorem loadImage_bandInForce (image : List Byte) (c : Clock) :
    BandInForce (loadImage image).tariff
      { mode := .auto, selected := evaluateBand (loadImage image).tariff c } := by
  cases good : (loadImage image).tariff.good with
  | true =>
    have checked := (checked_take_iff image _).2 (good_checked good)
    obtain ⟨-, -, -, -, -, -, ⟨some_, -⟩, -⟩ := checked.fields
    have count : (loadImage image).tariff.bands.length = u8 (image.take imageLength) 48 := by
      rw [loadImage_good good]
      exact bandsOf_length _
    have least : 1 ≤ (loadImage image).tariff.bands.length := by
      rw [count]
      exact some_
    have schedule : ∀ e ∈ (loadImage image).tariff.schedule,
        1 ≤ e.band ∧ e.band ≤ (loadImage image).tariff.bands.length := by
      intro e he
      rw [count]
      rw [loadImage_good good] at he
      have ok := List.all_eq_true.1 ((scheduleOk_iff _).2 checked.schedule) e he
      simp only [scheduleEntryOk, Bool.and_eq_true, inRange_iff] at ok
      exact ok.2
    refine evaluateBand_inForce (b := { mode := .auto, selected := 1 }) c ⟨fun _ => ?_, fun bad => ?_⟩
    · exact ⟨least, schedule, le_rfl, least⟩
    · rw [good] at bad
      cases bad
  | false =>
    rw [loadImage_rejected good]
    exact ⟨fun bad => absurd bad (by decide), fun _ => ⟨rfl, rfl, rfl⟩⟩

/-! ### The hold by CONFIG under a rejected image (R14, R167) -/

/-- CONFIG's setting neither masks it nor makes it a NOTE. -/
def ConfigCalls (m : Monitor) : Prop := m.masked.config = false ∧ m.note.config = false

/-- The raise of CONFIG enters HELD or finds the part so (R155). -/
theorem raiseCause_config_holds {src : Nat} {s : State} (h : ConfigCalls s.monitor) :
    ConfigHolds (raiseCause .config src s) := by
  obtain ⟨masked, note⟩ := h
  have masked : s.monitor.masked.get .config = false := masked
  have note : s.monitor.note.get .config = false := note
  constructor
  · simp [raiseCause_held, masked, note]
  · simp [holdsNow, raiseCause_status, raiseCause_monitor, masked, note]

/-- The monitor's start work under a rejected image ends HELD by CONFIG (R14, R167). -/
theorem monitorStartWork_config_holds {s : State} (bad : s.tariff.good = false)
    (h : ConfigCalls s.monitor) : ConfigHolds (monitorStartWork s) := by
  have reported : causesReported s = startConditions s := by
    unfold causesReported
    exact if_neg (by rw [show (startConditions s).tariff = s.tariff from rfl, bad]; decide)
  have raised : ConfigHolds (raiseIfPresent .config (startConditions s)) := by
    have present : (startConditions s).monitor.condition.get .config = true := by
      change (!s.tariff.good) = true
      rw [bad]
      rfl
    unfold raiseIfPresent
    rw [if_pos present]
    exact raiseCause_config_holds h
  rw [monitorStartWork_eq, reported]
  exact (((raiseIfPresent_runs .clock _).trans (raiseIfPresent_runs .tamper _)).trans
    (enterIfCalled_runs _)).held raised

/-- The trips' start work changes of the hold monitor what a raise of BREAK does (R58). -/
theorem warmStartSeats_fare (s : State) : FareOnly s (warmStartSeats s) := by
  have one : ∀ u q, FareOnly u (warmStartSeat u q) := fun u q => by
    unfold warmStartSeat
    dsimp only
    split
    · exact (changeSeat_fare q _ u).trans (closeIfPaid_fare q _)
    · exact setSeat_fare u q _
  exact (((one s .one).trans (one _ .two)).trans (one _ .three)).trans (one _ .four)

theorem retireSlots_monitor (s : State) : (retireSlots s).monitor = s.monitor :=
  retireSlots_frame s .monitor (by decide)

theorem raiseBreak_settings (b : Bool) (s : State) :
    (raiseBreak b s).monitor.masked = s.monitor.masked ∧
      (raiseBreak b s).monitor.note = s.monitor.note := by
  unfold raiseBreak
  split
  · rw [raiseCause_monitor]
    exact ⟨rfl, rfl⟩
  · exact ⟨rfl, rfl⟩

theorem resumeTrips_settings (s : State) :
    (resumeTrips s).monitor.masked = s.monitor.masked ∧
      (resumeTrips s).monitor.note = s.monitor.note := by
  unfold resumeTrips
  rw [retireSlots_monitor]
  obtain ⟨masked, note⟩ := raiseBreak_settings (s.seats.any openFare) (warmStartSeats s)
  rw [masked, note, (warmStartSeats_fare s).monitor]
  exact ⟨rfl, rfl⟩

theorem ConfigHolds.resumeTrips {s : State} (h : ConfigHolds s) : ConfigHolds (resumeTrips s) := by
  have turned : ConfigHolds (warmStartSeats s) :=
    .of_eq (warmStartSeats_fare s).hold (warmStartSeats_fare s).monitor h
  exact ((raiseBreak_runs _ _).trans (retireSlots_runs _)).held turned

theorem resumeTrips_tariff (s : State) : (resumeTrips s).tariff = s.tariff :=
  resumeTrips_frame s .tariff (by decide)

theorem retainedWork_config_holds {s : State} (bad : s.tariff.good = false)
    (h : ConfigCalls s.monitor) : ConfigHolds (retainedWork s) := by
  unfold retainedWork warmWork
  split
  · exact monitorStartWork_config_holds bad h
  · split
    · dsimp only
      split
      · exact .resumeTrips (monitorStartWork_config_holds bad h)
      · obtain ⟨masked, note⟩ := resumeTrips_settings (s.setDraws (s.draws + 1))
        refine monitorStartWork_config_holds ?_ ⟨?_, ?_⟩
        · rw [resumeTrips_tariff]
          exact bad
        · rw [masked]
          exact h.1
        · rw [note]
          exact h.2
    · have fare := warmStartSeats_fare s
      exact monitorStartWork_config_holds (fare.tariff ▸ bad) (fare.monitor ▸ h)

theorem startWork_config_holds {l : Loaded} (s : State) (bad : l.tariff.good = false)
    (masked : l.masked.config = false) (note : l.note.config = false) :
    ConfigHolds (startWork l s) := by
  have told : intercomStartWork (putInForce l s) = putInForce l s := by
    unfold intercomStartWork
    rw [if_neg (by simp [bad])]
  have retained : ConfigHolds (retainedWork (intercomStartWork (putInForce l s))) := by
    rw [told]
    refine retainedWork_config_holds (by simp [bad]) ?_
    rw [putInForce_monitor]
    exact ⟨masked, note⟩
  exact ((computeSign_frame _).runs.trans (queueStatus_only _).runs).held retained

theorem startWork_imageLaw (image : List Byte) (s : State) :
    ImageLaw (startWork (loadImage image) s) := by
  rw [imageLaw_iff]
  intro _
  rw [startWork_tariff, startWork_band]
  refine ⟨loadImage_bandInForce image s.clock, fun bad => ?_⟩
  have rejected := loadImage_rejected bad
  exact startWork_config_holds s bad (by rw [rejected]; rfl) (by rw [rejected]; rfl)

theorem imageLaw_of_idle {s : State} (h : s.start.loaded = false) : ImageLaw s := fun running => by
  rw [h] at running
  cases running

theorem exec_keeps_imageLaw {c : Instr} {s t : State} (h : ImageLaw s) (e : exec c s = .next t) :
    ImageLaw t := by
  cases exec_follows e with
  | runs r =>
    rw [imageLaw_iff] at h ⊢
    rw [r.start, r.tariff]
    intro running
    obtain ⟨band, config⟩ := h running
    exact ⟨r.band band, fun bad => r.held (config bad)⟩
  | stops u _ e => subst e; exact imageLaw_of_idle rfl
  | starts u _ e => subst e; exact imageLaw_of_idle rfl
  | loads bytes _ e => subst e; exact startWork_imageLaw bytes s
  | backup e => subst e; exact h

/-- Settles O12: load completion puts an image with its band, or the hold by CONFIG, in force, and every
change of the running part keeps them. -/
theorem stepKeepsImageInForce : Obligations.StepKeepsImageInForce :=
  keptByStep_of (fun _ _ h => h) fun _ _ _ => exec_keeps_imageLaw

/-! ### The seats' progress (R57, R66) -/

/-- A seat that has no progress to pass on: VACANT, or at the beginning of a step. -/
def AtRest (r : SeatRecord) : Prop := r.state = .vacant ∨ r.progress = 0

theorem AtRest.inStep {t : Tariff} {r : SeatRecord} (h : AtRest r)
    (sized : ∀ b ∈ t.bands, bandSized b) : SeatInStep t r := by
  rcases h with vacant | zero
  · exact fun occupied => absurd vacant occupied
  · exact seatInStep_of_zero sized zero

theorem MeterKept.atRest {r r' : SeatRecord} (h : MeterKept r r') (k : AtRest r) : AtRest r' := by
  rcases h with vacant | ⟨open_, progress, -⟩
  · exact .inl vacant
  · exact k.elim (fun vacant => absurd vacant open_) (fun zero => .inr (progress.trans zero))

theorem warmSeat_atRest (time : DayTime) (r : SeatRecord) : AtRest (warmSeat time r) := by
  unfold warmSeat
  split
  · next vacant => exact .inl vacant
  all_goals exact .inr rfl

/-- The start work on a seat puts it at rest, and leaves the others (R57, R58). -/
theorem warmStartSeat_atRest (s : State) (q p : Seat) (h : p = q ∨ AtRest (s.seat p)) :
    AtRest ((warmStartSeat s q).seat p) := by
  have turned : AtRest ((s.setSeat q (warmSeat s.clock.time (s.seat q))).seat p) := by
    by_cases e : p = q
    · subst e
      rw [State.setSeat_seat_self]
      exact warmSeat_atRest _ _
    · rw [State.setSeat_seat_of_ne s _ e]
      exact h.resolve_left e
  unfold warmStartSeat
  dsimp only
  split
  · refine ((closeIfPaid_runs q _).meter p).atRest ?_
    rw [State.seat, changeSeat_seats]
    exact turned
  · exact turned

theorem warmStartSeats_atRest (s : State) (p : Seat) : AtRest ((warmStartSeats s).seat p) := by
  have one := warmStartSeat_atRest s .one p
  have two := warmStartSeat_atRest (warmStartSeat s .one) .two p
  have three := warmStartSeat_atRest (warmStartSeat (warmStartSeat s .one) .two) .three p
  refine warmStartSeat_atRest _ .four p ?_
  cases p with
  | one => exact .inr (three (.inr (two (.inr (one (.inl rfl))))))
  | two => exact .inr (three (.inr (two (.inl rfl))))
  | three => exact .inr (three (.inl rfl))
  | four => exact .inl rfl

theorem monitorStartWork_seats (s : State) : (monitorStartWork s).seats = s.seats :=
  monitorStartWork_frame s .seats (by decide)

theorem raiseBreak_seats (b : Bool) (s : State) : (raiseBreak b s).seats = s.seats := by
  unfold raiseBreak
  split
  · exact (raiseCause_raise _ _ s).seats
  · rfl

theorem resumeTrips_seats (s : State) : (resumeTrips s).seats = (warmStartSeats s).seats := by
  unfold resumeTrips
  rw [retireSlots_frame _ .seats (by decide), raiseBreak_seats]

/-- The start work of a warm start puts every seat at rest, whatever order it takes (R57). -/
theorem retainedWork_atRest {s : State} (warm : s.start.kind = .warm) (p : Seat) :
    AtRest ((retainedWork s).seat p) := by
  unfold retainedWork warmWork
  rw [warm]
  dsimp only
  split
  · split
    · rw [State.seat, resumeTrips_seats]
      exact warmStartSeats_atRest _ p
    · rw [State.seat, monitorStartWork_seats, resumeTrips_seats]
      exact warmStartSeats_atRest _ p
  · rw [State.seat, monitorStartWork_seats]
    exact warmStartSeats_atRest s p

theorem retainedWork_cold {s : State} (cold : s.start.kind = .cold) :
    retainedWork s = monitorStartWork s := by
  unfold retainedWork
  rw [cold]

theorem intercomStartWork_frame (s : State) : Frame sendParts s (intercomStartWork s) :=
  .ite (send_frame _ _ _) (.refl _ s)

/-- The retained work's start is the one that the read belongs to. -/
theorem told_start (l : Loaded) (s : State) :
    (intercomStartWork (putInForce l s)).start =
      { loaded := true, imageTimer := none, kind := s.start.kind } :=
  (intercomStartWork_frame _ .start (by decide)).trans (putInForce_start l s)

theorem startWork_seats (l : Loaded) (s : State) :
    (startWork l s).seats = (retainedWork (intercomStartWork (putInForce l s))).seats := by
  change (queueStatus _).seats = _
  rw [(queueStatus_only _).seats]
  rfl

theorem startWork_atRest {l : Loaded} {s : State}
    (cold : s.start.kind = .cold → s.seats = seatsOf vacantSeat) (p : Seat) :
    AtRest ((startWork l s).seat p) := by
  rw [State.seat, startWork_seats]
  have start := told_start l s
  cases kind : s.start.kind with
  | warm => exact retainedWork_atRest (by rw [start, kind]) p
  | cold =>
    rw [retainedWork_cold (by rw [start, kind]), monitorStartWork_seats,
      intercomStartWork_frame _ .seats (by decide), putInForce_seats, cold kind]
    exact .inl (by cases p <;> rfl)

theorem loadImage_sized (image : List Byte) :
    (∀ b ∈ (loadImage image).tariff.bands, bandSized b) ∧
      ∀ x ∈ (loadImage image).tariff.shares, x ≤ 1000 := by
  refine ⟨fun b h => ?_, fun x h => ?_⟩
  · obtain ⟨-, -, -, -, size⟩ := band_of_good h
    exact ⟨(np_bounds h).1, by have := (nt_bounds h).1; omega, size⟩
  · cases good : (loadImage image).tariff.good with
    | true =>
      have checked := (checked_take_iff image _).2 (good_checked good)
      have ok := (sharesOk_iff _).2 checked.shares
      simp only [sharesOk, Bool.and_eq_true, List.all_eq_true, inRange_iff] at ok
      rw [loadImage_good good] at h
      exact (ok.1.2 x h).2
    | false =>
      rw [loadImage_rejected good] at h
      cases h

theorem startWork_sizeLaw {image : List Byte} {s : State} (h : SizeLaw s) :
    SizeLaw (startWork (loadImage image) s) := by
  obtain ⟨-, -, counter⟩ := h
  obtain ⟨bands, shares⟩ := loadImage_sized image
  refine ⟨?_, ?_, ?_⟩
  · rw [startWork_tariff]
    exact bands
  · rw [startWork_tariff]
    exact shares
  · rw [startWork_motion]
    split <;> exact counter

theorem sizeLaw_of_start {s : State} (tariff : s.tariff = tariffStart) (motion : s.motion = motionStart) :
    SizeLaw s := by
  unfold SizeLaw
  rw [tariff, motion]
  exact ⟨fun _ h => (nomatch h), fun _ h => (nomatch h), Nat.zero_le _⟩

theorem beginStart_main (s : State) :
    (beginStart s).tariff = tariffStart ∧ (beginStart s).motion = motionStart := by
  unfold beginStart readMarker
  split <;> exact ⟨rfl, rfl⟩

theorem exec_keeps_progressLaw {c : Instr} {s t : State} (h : ProgressLaw s)
    (e : exec c s = .next t) : ProgressLaw t := by
  rw [progressLaw_iff] at h ⊢
  obtain ⟨size, start, steps⟩ := h
  have started := exec_keeps_startLaw start e
  cases exec_follows e with
  | runs r =>
    refine ⟨r.size size, started, fun running => r.progress size (steps ?_)⟩
    rwa [r.start] at running
  | stops u _ e =>
    subst e
    exact ⟨sizeLaw_of_start rfl rfl, started, fun running => by cases running⟩
  | starts u _ e =>
    obtain ⟨tariff, motion⟩ := beginStart_main u
    subst e
    exact ⟨sizeLaw_of_start tariff motion, started, fun running => by cases running⟩
  | loads bytes reading e =>
    subst e
    have sized := startWork_sizeLaw (image := bytes) size
    exact ⟨sized, started, fun _ p =>
      (startWork_atRest (fun cold => (start.2.2 reading cold).1) p).inStep sized.1⟩
  | backup e => subst e; exact ⟨size, started, steps⟩

/-- Settles O13: a load completion leaves every seat at rest, and accrual passes on at each step what
reaches it, so that the progress stays below S′. -/
theorem stepKeepsProgressBelowStep : Obligations.StepKeepsProgressBelowStep :=
  keptByStep_of (fun _ _ h => h) fun _ _ _ => exec_keeps_progressLaw

end Sys2Proof.Machine

/-! PROOFS. The supplies, starts and the reset state: a stop and a start as one state each, and the laws at
reset (R1 to R6). -/

namespace Sys2Proof.Machine

-- One theorem at a time: the memory limit of the check counts the stack of every thread.
set_option Elab.async false

/-! ### A start as one state (R4) -/

/-- With a valid marker a start keeps every retained item (R4). -/
theorem beginStart_of_valid {s : State} (h : s.markerValid = true) :
    beginStart s = { mainLost s with
      start := { loaded := false, imageTimer := some 500, kind := .warm } } := by
  unfold beginStart readMarker
  rw [if_pos (by rw [stopMain_marker]; exact h), stopMain_eq, h]
  rfl

/-- With a failed marker a start sets every retained item to its initial value (R4). -/
theorem beginStart_of_failed {s : State} (h : s.markerValid = false) :
    beginStart s = { State.reset with
      pins := s.pins, tamperFilter := handedOver s, draws := s.draws, pending := s.pending } := by
  unfold beginStart readMarker
  rw [if_neg (by rw [stopMain_marker, h]; decide), stopMain_eq, h]
  rfl

/-- Whatever event begins a start, it begins from the state with the event's pins (R3, R6). -/
theorem exec_of_startsNow {c : Instr} {s : State} (h : StartsNow s c) :
    ∃ l : Line, exec c s = .next (beginStart ((s.setPins (startPins s.pins c)).setLine l)) := by
  cases c with
  | pgoodRise =>
    obtain ⟨pgood, rst⟩ := h
    refine ⟨s.line, congrArg Host.Outcome.next ?_⟩
    simp [pgoodRises, startIfFree, pgood, rst, startPins, State.setPins, State.setLine]
  | rstRelease =>
    obtain ⟨rst, pgood⟩ := h
    refine ⟨s.line, congrArg Host.Outcome.next ?_⟩
    simp [rstRises, startIfFree, pgood, rst, startPins, State.setPins, State.setLine]
  | resetTimerExpiry =>
    refine ⟨s.line, congrArg Host.Outcome.next ?_⟩
    exact if_pos h
  | transmissionComplete =>
    obtain ⟨timer, f, sending, answer⟩ := h
    refine ⟨{ s.line with transmitting := none }, congrArg Host.Outcome.next ?_⟩
    simp [transmissionEnds, sending, answer, answerSent, timer, startPins, State.setLine]
  | _ => exact h.elim

theorem handedOver_of_event (s : State) (c : Instr) (l : Line) :
    handedOver ((s.setPins (startPins s.pins c)).setLine l) = handedOver s := by
  have tamper : (startPins s.pins c).tamper = s.pins.tamper := by
    unfold startPins
    split <;> rfl
  change (if s.start.loaded = true then { settled := (startPins s.pins c).tamper, changing := false }
    else s.tamperFilter) = _
  rw [tamper]
  rfl

theorem start_is_warm_or_cold : Claims.StartIsWarmOrCold := by
  intro c s h
  obtain ⟨l, e⟩ := exec_of_startsNow h
  have filter := handedOver_of_event s c l
  refine ⟨fun valid => ?_, fun failed => ?_⟩
  · have valid : ((s.setPins (startPins s.pins c)).setLine l).markerValid = true := valid
    rw [e, beginStart_of_valid valid, mainLost, filter]
    rfl
  · have failed : ((s.setPins (startPins s.pins c)).setLine l).markerValid = false := failed
    rw [e, beginStart_of_failed failed, filter]
    rfl

/-- The load completion of a cold start raises no BREAK, and leaves the seats, the tags and the charges
(R56, R119, R167). -/
theorem startWork_of_cold {l : Loaded} {s : State} (cold : s.start.kind = .cold) :
    (startWork l s).hold.status.brk = s.hold.status.brk ∧ (startWork l s).seats = s.seats ∧
      (startWork l s).tags = s.tags ∧ (startWork l s).charges = s.charges := by
  have start := told_start l s
  have work := retainedWork_cold (s := intercomStartWork (putInForce l s)) (by rw [start, cold])
  have told := intercomStartWork_frame (putInForce l s)
  have after : Frame ([.sign] ++ sendParts) (retainedWork (intercomStartWork (putInForce l s)))
      (startWork l s) := (computeSign_frame _).comp (queueStatus_frame _)
  have before : Frame loadParts s (intercomStartWork (putInForce l s)) :=
    (putInForce_frame l s).comp told
  have monitor := monitorStartWork_frame (intercomStartWork (putInForce l s))
  rw [work] at after
  have raised : ∀ c u, c ≠ .brk →
      (raiseIfPresent c u).hold.status.brk = u.hold.status.brk := fun c u other => by
    unfold raiseIfPresent
    split
    · rw [raiseCause_status]
      cases c <;> first | rfl | exact absurd rfl other
    · rfl
  have entered : ∀ u, (enterIfCalled u).hold.status.brk = u.hold.status.brk := fun u => by
    unfold enterIfCalled
    split
    · rfl
    · split
      · rw [enterHeld_hold]
      · rfl
  have reported : ∀ u, (causesReported u).hold.status.brk = u.hold.status.brk := fun u => by
    unfold causesReported
    dsimp only
    split <;> rfl
  refine ⟨?_, ?_, ?_, ?_⟩
  · rw [after .hold (by decide), monitorStartWork_eq, causesRaised, entered,
      raised _ _ (by decide), raised _ _ (by decide), raised _ _ (by decide), reported,
      told .hold (by decide), putInForce_hold]
  · rw [after .seats (by decide), monitor .seats (by decide), told .seats (by decide),
      putInForce_seats]
  · rw [after .tags (by decide), monitor .tags (by decide), told .tags (by decide),
      putInForce_frame l s .tags (by decide)]
  · rw [after .charges (by decide), monitor .charges (by decide), told .charges (by decide),
      putInForce_frame l s .charges (by decide)]

theorem exec_loadCompletion {s : State} (reading : s.start.imageTimer.isSome = true)
    (image : List Byte) : exec (.loadCompletion image) s = .next (startWork (loadImage image) s) :=
  congrArg Host.Outcome.next (if_pos reading)

/-- The first tag of a cold start (R118). -/
theorem newTag_cold : newTag tagsCold = 1 := by decide

theorem cold_start_clears_seats_and_tags : Claims.ColdStartClearsSeatsAndTags := by
  refine ⟨fun c s starts failed => ?_, fun image s reading cold => ?_⟩
  · refine ⟨_, (start_is_warm_or_cold c s starts).2 failed, rfl, rfl, newTag_cold, fun q => ?_⟩
    cases q <;> exact ⟨rfl, rfl, rfl, nofun, rfl⟩
  · exact ⟨_, exec_loadCompletion reading image, startWork_of_cold cold⟩

/-- Settles O17: a start is one state for each value of the marker, and a cold load completion only does
the monitor's work. -/
theorem startClearsOrKeepsRetainedStore : Obligations.StartClearsOrKeepsRetainedStore :=
  ⟨cold_start_clears_seats_and_tags, start_is_warm_or_cold⟩

/-! ### The supplies (R1 to R3) -/

theorem handedOver_of_pins (s : State) (p : Pins) (tamper : p.tamper = s.pins.tamper) :
    handedOver (s.setPins p) = handedOver s := by
  unfold handedOver
  rw [State.setPins_pins, State.setPins_start, State.setPins_tamperFilter, tamper]

/-- The main domain's loss at a change of the pins (R1, R3). -/
theorem stopMain_setPins (s : State) (p : Pins) (tamper : p.tamper = s.pins.tamper) :
    stopMain (s.setPins p) = { mainLost s with pins := p } := by
  rw [stopMain_eq, mainLost, handedOver_of_pins s p tamper]
  rfl

/-- Settles O18, by the levels of the two supply pins. -/
theorem suppliesStopMainDomain : Obligations.SuppliesStopMainDomain := by
  intro s
  refine ⟨fun on => ?_, fun off => ?_, fun free => ?_, fun low => ?_, fun on => ?_, fun off low => ?_,
    fun free => ?_, fun low off => ?_, rfl⟩ <;> refine congrArg Host.Outcome.next ?_
  case refine_1 =>
    rw [pgoodFalls, if_pos on]
    exact stopMain_setPins s { s.pins with pgood := false } rfl
  case refine_2 => simp [pgoodFalls, off]
  case refine_3 =>
    rw [rstFalls, if_neg (by simp [free])]
    exact stopMain_setPins s { s.pins with rst := true } rfl
  case refine_4 => simp [rstFalls, low]
  case refine_5 => simp [pgoodRises, on]
  case refine_6 => simp [pgoodRises, startIfFree, off, low, State.setPins]
  case refine_7 => simp [rstRises, free]
  case refine_8 => simp [rstRises, startIfFree, low, off, State.setPins]

/-! ### The laws at reset (R4) -/

theorem startLaw_reset : StartLaw State.reset :=
  ⟨fun _ => ⟨rfl, rfl, rfl, rfl, rfl, rfl, rfl, rfl, rfl, rfl⟩, fun _ => rfl, fun _ _ => ⟨rfl, rfl, rfl⟩⟩

theorem seat_reset (q : Seat) : State.reset.seat q = vacantSeat := by cases q <;> rfl

theorem payer_reset (i : Fin 8) : State.reset.payers.get i = none := by fin_cases i <;> rfl

theorem charge_reset (q : Seat) : State.reset.charges.get q = none := by cases q <;> rfl

theorem queueLaw_reset : QueueLaw State.reset := ⟨by decide, .nil, .nil⟩

theorem boundsLaw_reset : BoundsLaw State.reset :=
  ⟨startLaw_reset, by decide, by decide, by decide, by decide, by decide, by decide, by decide,
    fun c => by cases c <;> decide⟩

theorem pointerLaw_reset : PointerLaw State.reset := fun _ h => by cases h

theorem gateTableLaw_reset : GateTableLaw State.reset := by
  refine ⟨fun _ => ⟨rfl, rfl, fun n => ?_⟩, fun h => ?_, fun q h => ?_⟩
  · cases n <;> exact ⟨rfl, rfl⟩
  · cases h
  · cases h

theorem microphone_closed_reset (q : Seat) : State.reset.intercom.gates.smic.get q = false := by
  cases q <;> rfl

theorem microphoneLaw_reset : MicrophoneLaw State.reset := by
  have closed : ∀ q, State.reset.intercom.gates.smic.get q ≠ true := fun q h => by
    rw [microphone_closed_reset] at h
    cases h
  exact ⟨fun q h => absurd h (closed q), fun q _ h => absurd h (closed q)⟩

theorem talkTimerLaw_reset : TalkTimerLaw State.reset := by
  refine ⟨⟨fun h => ?_, fun h => ?_⟩, ⟨fun h => ?_, fun ⟨q, h⟩ => ?_⟩, fun h => ?_⟩ <;> cases h

theorem callLaw_reset : CallLaw State.reset := by
  refine ⟨.nil, fun q h => ?_, fun q h => ?_, fun _ => rfl⟩ <;> cases h

theorem vacantLaw_reset : VacantLaw State.reset := fun q _ => seat_reset q

theorem booksLaw_reset : BooksLaw State.reset := by
  refine ⟨⟨startLaw_reset, fun q => ⟨?_, fun c h => ?_⟩, fun b h => ?_⟩, vacantLaw_reset, rfl⟩
  · rw [seat_reset]
    refine ⟨?_, ?_, rfl, rfl, ?_, ?_, rfl, fun _ => rfl⟩ <;> decide
  · rw [charge_reset] at h
    cases h
  · cases h

/-- Nothing that holds from load completion on is asked of the reset state. -/
theorem idle_reset {p : Prop} (h : State.reset.start.loaded = true) : p := by cases h

theorem chargeLaw_reset : ChargeLaw State.reset := ⟨startLaw_reset, fun h => idle_reset h⟩

theorem payerLaw_reset : PayerLaw State.reset := fun i p h => by
  rw [payer_reset] at h
  cases h

theorem countLaw_reset : CountLaw State.reset :=
  (countLaw_iff _).2 ⟨counted_cold, Nat.zero_le _⟩

/-- Settles O3, law by law. -/
theorem resetStateIsInOrder : Obligations.ResetStateIsInOrder := by
  have vacant : ∀ q, (State.reset.seat q).state = .vacant := fun q => by rw [seat_reset]; rfl
  refine ⟨queueLaw_reset, ?_, boundsLaw_reset, startLaw_reset, pointerLaw_reset, vacantLaw_reset,
    fun _ => vacant, fun _ p _ _ _ => vacant p, fun h => idle_reset h, rfl, talkTimerLaw_reset,
    callLaw_reset, gateTableLaw_reset, microphoneLaw_reset, fun q owes => ?_, booksLaw_reset,
    ⟨chargeLaw_reset, fun h => idle_reset h⟩, payerLaw_reset, fun h => idle_reset h,
    ⟨sizeLaw_of_start rfl rfl, startLaw_reset, fun h => idle_reset h⟩, countLaw_reset⟩
  · exact Nat.zero_le _
  · rw [vacant] at owes
    rcases owes with h | h <;> cases h

/-! ### The bytes of a frame on the line (R187) -/

theorem fromBigEndian_two {n : Nat} (h : n < 65536) : fromBigEndian (bigEndian n 2) = n := by
  simp only [bigEndian, fromBigEndian, List.foldl_cons, List.foldl_nil, BitVec.toNat_ofNat]
  omega

theorem bigEndian_two_length (n : Nat) : (bigEndian n 2).length = 2 := rfl

/-- A six-bit number in a byte: its own bits, and two bits 0 above. -/
theorem extract_zeroExtend (a : BitVec 6) :
    (a.zeroExtend 8).extractLsb' 0 6 = a ∧ (a.zeroExtend 8).extractLsb' 6 2 = 0 := by
  revert a
  decide

theorem extract_append (c : BitVec 2) (k : BitVec 6) :
    (c ++ k : BitVec 8).extractLsb' 6 2 = c ∧ (c ++ k : BitVec 8).extractLsb' 0 6 = k := by
  revert c k
  decide

/-- Settles O16: the header's bits stand in place, and the length byte splits the payload from the check. -/
theorem lineBytesSpellTheirFrame : Obligations.LineBytesSpellTheirFrame := by
  intro f ok
  have short : f.payload.length ≤ 16 := by
    simp only [headerOk, Bool.and_eq_true, decide_eq_true_eq] at ok
    exact ok.1.1.1
  have length : (BitVec.ofNat 8 f.payload.length).toNat = f.payload.length := by
    rw [BitVec.toNat_ofNat, Nat.mod_eq_of_lt]
    omega
  obtain ⟨cls, kind⟩ := extract_append f.cls f.kind
  obtain ⟨source, sourceHigh⟩ := extract_zeroExtend f.source
  obtain ⟨dest, destHigh⟩ := extract_zeroExtend f.dest
  have check : ∀ body, fromBigEndian (bigEndian (crc16 body).toNat 2) = (crc16 body).toNat :=
    fun body => fromBigEndian_two (crc16 body).isLt
  simp only [frameBytes, parseFrame, List.cons_append, length, List.take_left', List.drop_left',
    List.length_append, bigEndian_two_length, cls, kind, source, sourceHigh, dest, destHigh, check]
  exact if_pos ⟨trivial, trivial, trivial, trivial, ok⟩

end Sys2Proof.Machine

/-! PROOFS. The band schedule, the clock, and the rows of a ready console (R16 to R20, R196, R197). -/

namespace Sys2Proof.Machine

-- One theorem at a time: the memory limit of the check counts the stack of every thread.
set_option Elab.async false

/-! ### The latest entry of a day (R19) -/

/-- The entry with the latest start of those seen so far and one more, the later in image order of two
that start together. -/
def laterEntry (best : Option ScheduleEntry) (e : ScheduleEntry) : Option ScheduleEntry :=
  match best with
  | none => some e
  | some b => if b.start ≤ e.start then some e else some b

theorem latestEntry_eq (es : List ScheduleEntry) : latestEntry es = es.foldl laterEntry none := rfl

/-- Entries that start before the best one do not replace it. -/
theorem foldl_laterEntry_of_lt {e : ScheduleEntry} {es : List ScheduleEntry}
    (h : ∀ x ∈ es, x.start < e.start) : es.foldl laterEntry (some e) = some e := by
  induction es with
  | nil => rfl
  | cons x xs ih =>
    have lt := h x List.mem_cons_self
    rw [List.foldl_cons, laterEntry, if_neg (by omega)]
    exact ih fun y hy => h y (List.mem_cons_of_mem _ hy)

/-- An entry replaces whatever starts no later. -/
theorem laterEntry_of_le {best : Option ScheduleEntry} {e : ScheduleEntry}
    (h : ∀ b, best = some b → b.start ≤ e.start) : laterEntry best e = some e := by
  cases best with
  | none => rfl
  | some b => exact if_pos (h b rfl)

/-- The last entry of those with the latest start. -/
theorem latestEntry_of_last {before after : List ScheduleEntry} {e : ScheduleEntry}
    (earlier : ∀ x ∈ before, x.start ≤ e.start) (later : ∀ x ∈ after, x.start < e.start) :
    latestEntry (before ++ e :: after) = some e := by
  rw [latestEntry_eq, List.foldl_append, List.foldl_cons, laterEntry_of_le]
  · exact foldl_laterEntry_of_lt later
  · intro b hb
    exact earlier b (latestEntry_mem hb)

/-- The same among the entries that a test admits. -/
theorem latestEntry_filter_of_last {p : ScheduleEntry → Bool} {before after : List ScheduleEntry}
    {e : ScheduleEntry} (admitted : p e = true)
    (earlier : ∀ x ∈ before, p x = true → x.start ≤ e.start)
    (later : ∀ x ∈ after, p x = true → x.start < e.start) :
    latestEntry ((before ++ e :: after).filter p) = some e := by
  rw [List.filter_append, List.filter_cons_of_pos admitted]
  refine latestEntry_of_last (fun x hx => ?_) (fun x hx => ?_)
  · obtain ⟨mem, ok⟩ := List.mem_filter.1 hx
    exact earlier x mem ok
  · obtain ⟨mem, ok⟩ := List.mem_filter.1 hx
    exact later x mem ok

/-- Whether a schedule entry of the clock's day has started (R19). -/
def startedToday (c : Clock) (e : ScheduleEntry) : Bool :=
  coversDay e c.time.day && e.start ≤ c.time.seconds / 60

/-- Whether a schedule entry covers the day before the clock's (R19). -/
def coversYesterday (c : Clock) (e : ScheduleEntry) : Bool :=
  coversDay e (if c.time.day = 1 then 7 else c.time.day - 1)

theorem evaluateBand_today {t : Tariff} {c : Clock} {e : ScheduleEntry} (good : t.good = true)
    (valid : c.valid = true) (h : latestEntry (t.schedule.filter (startedToday c)) = some e) :
    evaluateBand t c = e.band := by
  have some_ : t.schedule.isEmpty = false := by
    cases list : t.schedule with
    | nil => rw [list] at h; cases h
    | cons => rfl
  unfold evaluateBand
  change latestEntry (t.schedule.filter fun e => coversDay e c.time.day && e.start ≤ c.time.seconds / 60)
    = some e at h
  simp [good, valid, some_, h]

theorem evaluateBand_fallback {t : Tariff} {c : Clock} (good : t.good = true) (valid : c.valid = true)
    (none_ : t.schedule.filter (startedToday c) = []) :
    evaluateBand t c =
      match latestEntry (t.schedule.filter (coversYesterday c)) with
      | some e => e.band
      | none => 1 := by
  change t.schedule.filter (fun e => coversDay e c.time.day && e.start ≤ c.time.seconds / 60) = []
    at none_
  cases list : t.schedule with
  | nil => simp [evaluateBand, good, list, latestEntry]
  | cons x xs =>
    rw [← list]
    have some_ : t.schedule.isEmpty = false := by rw [list]; rfl
    unfold evaluateBand
    dsimp only
    rw [none_]
    simp only [good, valid, some_]
    rfl

/-- Settles O22: the fold over the schedule keeps the last of the latest starts. -/
theorem scheduleSelectsBand : Obligations.ScheduleSelectsBand := by
  intro t c
  refine ⟨fun bad => by simp [evaluateBand, bad], fun good unset => ?_, fun good valid => ⟨?_, ?_⟩⟩
  · rcases unset with invalid | empty
    · simp [evaluateBand, good, invalid]
    · simp [evaluateBand, good, empty]
  · intro before after e list day start earlier later
    refine evaluateBand_today good valid ?_
    rw [list]
    refine latestEntry_filter_of_last (by simp [startedToday, day, start]) (fun x hx ok => ?_)
      (fun x hx ok => ?_) <;> simp only [startedToday, Bool.and_eq_true, decide_eq_true_eq] at ok
    · exact earlier x hx ok.1 ok.2
    · exact later x hx ok.1 ok.2
  · intro notYet
    have none_ : t.schedule.filter (startedToday c) = [] := by
      refine List.filter_eq_nil_iff.2 fun x hx ok => ?_
      simp only [startedToday, Bool.and_eq_true, decide_eq_true_eq] at ok
      have := notYet x hx ok.1
      omega
    rw [evaluateBand_fallback good valid none_]
    refine ⟨fun before after e list day earlier later => ?_, fun uncovered => ?_⟩
    · rw [list, latestEntry_filter_of_last (p := coversYesterday c) day earlier later]
    · have nothing : t.schedule.filter (coversYesterday c) = [] :=
        List.filter_eq_nil_iff.2 fun x hx ok => by
          rw [coversYesterday, uncovered x hx] at ok
          cases ok
      rw [nothing]
      rfl

/-! ### The clock (R16) -/

theorem nextSecond_eq {t : DayTime} (h : t.seconds ≤ 86399) :
    nextSecond t =
      if t.seconds = 86399 then ⟨if t.day = 7 then 1 else t.day + 1, 0⟩
      else ⟨t.day, t.seconds + 1⟩ := by
  unfold nextSecond daySeconds
  by_cases last : t.seconds = 86399
  · rw [if_neg (by omega), if_pos last]
  · rw [if_pos (by omega), if_neg last]

/-- A value that is no minute boundary, or that finds the main domain stopped or in MANUAL, is not
evaluated (R16, R19). -/
theorem passMinute_idle {s : State}
    (h : s.clock.time.seconds % 60 ≠ 0 ∨ s.start.loaded = false ∨ s.band.mode = .manual) :
    passMinute s = s := by
  rw [passMinute_eq, if_neg]
  rintro ⟨loaded, boundary, auto⟩
  rcases h with other | stopped | manual
  · exact other boundary
  · rw [loaded] at stopped
    cases stopped
  · rw [auto] at manual
    cases manual

/-- A minute boundary is evaluated in AUTO while the main domain runs (R16, R19). -/
theorem passMinute_auto {s : State} (boundary : s.clock.time.seconds % 60 = 0)
    (loaded : s.start.loaded = true) (auto : s.band.mode = .auto) :
    passMinute s = { s with band := { s.band with selected := evaluateBand s.tariff s.clock } } := by
  rw [passMinute_eq, if_pos ⟨loaded, boundary, auto⟩]

theorem clock_ticks_and_minutes : Claims.ClockTicksAndMinutes := by
  intro s
  dsimp only
  refine ⟨fun inDay => ⟨fun idle => ?_, fun boundary loaded auto => ?_⟩,
    fun boundary loaded auto => ?_, fun idle => ?_⟩ <;> refine congrArg Host.Outcome.next ?_
  · rw [← nextSecond_eq inDay] at idle ⊢
    exact passMinute_idle (s := s.setClock { s.clock with time := nextSecond s.clock.time }) idle
  · rw [← nextSecond_eq inDay] at boundary ⊢
    exact passMinute_auto (s := s.setClock { s.clock with time := nextSecond s.clock.time }) boundary
      loaded auto
  · exact passMinute_auto boundary loaded auto
  · exact passMinute_idle idle

/-! ### The rows of a ready console (R196, R197) -/

/-- A ready console's row is performed at once and answered. -/
theorem exec_rowOf_ready {service : Bool} {s : State} {a : Nat} {seq : Byte} {c : Command}
    (h : ConsoleReady s a) :
    exec (rowOf service seq c) s =
      .next (answered a seq c (perform a c (withService (rowLevel service c) c s)).2.code
        (perform a c (withService (rowLevel service c) c s)).2.data
        (perform a c (withService (rowLevel service c) c s)).1) := by
  rw [exec_rowOf, consoleRow_ready h (decodeCommand_commandPayload seq c)]

/-- The row of a command that does not read SERVICE, by what its block answers. -/
theorem exec_row_of_perform {service : Bool} {s t : State} {a : Nat} {seq : Byte} {c : Command}
    {code : ResultCode} {data : List Byte} (h : ConsoleReady s a) (unread : readsService c = false)
    (e : perform a c s = (t, ⟨code, data⟩)) :
    exec (rowOf service seq c) s = .next (answered a seq c code data t) := by
  rw [exec_rowOf_ready h, withService_unread unread, e]

theorem setClock_range {s : State} {day : Byte} {seconds : Word24}
    (h : day.toNat < 1 ∨ 7 < day.toNat ∨ 86399 < seconds.toNat) :
    setClockCommand day seconds s = (s, ⟨.range, []⟩) := by
  unfold setClockCommand
  rw [if_pos]
  · rfl
  · simp only [inRange, Bool.or_eq_true, Bool.not_eq_true', Bool.and_eq_false_iff, decide_eq_false_iff_not]
    omega

theorem setClock_inRange {s : State} {day : Byte} {seconds : Word24} (lo : 1 ≤ day.toNat)
    (hi : day.toNat ≤ 7) (most : seconds.toNat ≤ 86399) :
    setClockCommand day seconds s =
      if !allVacant s.seats then refuse s .state
      else done (evaluateAuto (reportCondition .clock false
        (s.setClock { time := { day := day.toNat, seconds := seconds.toNat }, valid := true }))) [] := by
  unfold setClockCommand
  rw [if_neg]
  simp only [inRange, Bool.or_eq_true, Bool.not_eq_true', Bool.and_eq_false_iff, decide_eq_false_iff_not]
  omega

theorem evaluateAuto_eq (s : State) :
    evaluateAuto s = { s with band := { s.band with
      selected := if s.band.mode = .auto then evaluateBand s.tariff s.clock else s.band.selected } } := by
  unfold evaluateAuto
  split
  · next auto => rw [if_pos auto]; rfl
  · next manual => rw [if_neg (by rw [manual]; decide)]

theorem set_clock_and_set_band : Claims.SetClockAndSetBand := by
  intro s a seq day n seconds ready
  have clockRow : ∀ {t : State} {code : ResultCode},
      setClockCommand day seconds s = (t, ⟨code, []⟩) →
      exec (.setClock seq day seconds) s = .next (answered a seq (.setClock day seconds) code [] t) :=
    fun e => exec_row_of_perform (service := false) (c := .setClock day seconds) ready rfl e
  have bandRow : ∀ {t : State} {code : ResultCode}, setBandCommand n s = (t, ⟨code, []⟩) →
      exec (.setBand seq n) s = .next (answered a seq (.setBand n) code [] t) :=
    fun e => exec_row_of_perform (service := false) (c := .setBand n) ready rfl e
  refine ⟨fun out => clockRow (setClock_range out), fun lo hi most => ⟨fun open_ => clockRow ?_,
    fun vacant => clockRow ?_⟩, fun beyond => bandRow ?_, fun zero => bandRow ?_,
    fun lo hi => ⟨fun fixed => bandRow ?_, fun allowed none_ => bandRow ?_,
      fun allowed some_ => bandRow ?_⟩⟩
  · rw [setClock_inRange lo hi most, if_pos]
    · rfl
    · obtain ⟨q, occupied⟩ := open_
      rw [Bool.not_eq_true', ← Bool.not_eq_true, allVacant_iff]
      exact fun all => occupied (all q)
  · rw [setClock_inRange lo hi most, if_neg, evaluateAuto_eq]
    · rfl
    · rw [(allVacant_iff s.seats).2 vacant]
      decide
  · rw [setBandCommand, if_pos beyond]
    rfl
  · rw [setBandCommand, if_neg (by omega), if_pos zero]
    rfl
  · rw [setBandCommand, if_neg (by omega), if_neg (by omega), if_pos (by rw [fixed]; rfl)]
    rfl
  · rw [setBandCommand, if_neg (by omega), if_neg (by omega), if_neg (by rw [allowed]; decide),
      if_pos none_]
    rfl
  · rw [setBandCommand, if_neg (by omega), if_neg (by omega), if_neg (by rw [allowed]; decide),
      if_neg (by omega)]
    rfl

/-- Settles O23: a tick is a second and perhaps a passed minute, and the two commands are performed at
once by a ready console's row. -/
theorem clockAndBandAreSet : Obligations.ClockAndBandAreSet :=
  ⟨clock_ticks_and_minutes, set_clock_and_set_band⟩

end Sys2Proof.Machine

/-! PROOFS. Received frames: the bytes that spell one, source validation, and a COMMAND frame as its row
(R187, R189, R192, R193, R196). -/

namespace Sys2Proof.Machine

-- One theorem at a time: the memory limit of the check counts the stack of every thread.
set_option Elab.async false

/-! ### Bytes that spell a frame (R187) -/

/-- What the bytes of a received frame give: the announced length, the check, and the header's bits. -/
structure Spelled (a b c n : Byte) (rest : List Byte) : Prop where
  length : rest.length = n.toNat + 2
  check : fromBigEndian (rest.drop n.toNat) = (crc16 (a :: b :: c :: n :: rest.take n.toNat)).toNat
  sourceHigh : b.extractLsb' 6 2 = 0
  destHigh : c.extractLsb' 6 2 = 0
  short : n.toNat ≤ 16
  source : b.extractLsb' 0 6 ≠ 0 ∧ b.extractLsb' 0 6 ≠ 63
  dest : c.extractLsb' 0 6 ≠ 0

theorem spelled_of_parse {a b c n : Byte} {rest : List Byte} {f : RxFrame}
    (h : parseFrame (a :: b :: c :: n :: rest) = some f) : Spelled a b c n rest := by
  unfold parseFrame at h
  dsimp only at h
  split at h
  · next ok =>
    obtain ⟨length, check, sourceHigh, destHigh, header⟩ := ok
    simp only [headerOk, Bool.and_eq_true, decide_eq_true_eq, List.length_take] at header
    obtain ⟨⟨⟨short, zero⟩, all⟩, dest⟩ := header
    exact ⟨length, check, sourceHigh, destHigh, by omega, ⟨zero, all⟩, dest⟩
  · cases h

/-- Four bytes at least stand before the check of a frame. -/
theorem parseFrame_short {bytes : List Byte} (h : bytes.length < 4) : parseFrame bytes = none := by
  match bytes, h with
  | [], _ => rfl
  | [_], _ => rfl
  | [_, _], _ => rfl
  | [_, _, _], _ => rfl
  | _ :: _ :: _ :: _ :: _, h => simp at h; omega

/-- Bytes whose last two are not the CRC of the rest spell no frame (R187). -/
theorem parseFrame_of_check {body : List Byte} {high low : Byte}
    (wrong : high.toNat * 256 + low.toNat ≠ (crc16 body).toNat) :
    parseFrame (body ++ [high, low]) = none := by
  cases parsed : parseFrame (body ++ [high, low]) with
  | none => rfl
  | some f =>
    exfalso
    match list : body ++ [high, low] with
    | [] | [_] | [_, _] | [_, _, _] =>
      rw [list, parseFrame_short (by simp)] at parsed
      cases parsed
    | a :: b :: c :: n :: rest =>
      rw [list] at parsed
      obtain ⟨length, check, -, -, -, -, -⟩ := spelled_of_parse parsed
      have apart : (a :: b :: c :: n :: rest.take n.toNat) ++ rest.drop n.toNat = body ++ [high, low] := by
        rw [list]
        simp
      have two : (rest.drop n.toNat).length = [high, low].length := by
        simp [length]
      obtain ⟨front, last⟩ := List.append_inj' apart two
      rw [front, last] at check
      exact wrong (by simpa [fromBigEndian] using check)

/-- A six-bit address in a byte whose high bits are 0 is the byte's number. -/
theorem toNat_of_high {b : Byte} (h : b.extractLsb' 6 2 = 0) : b.toNat < 64 := by
  revert b
  decide

theorem low_of_toNat {b : Byte} :
    (b.toNat = 0 → b.extractLsb' 0 6 = 0) ∧ (b.toNat = 63 → b.extractLsb' 0 6 = 63) := by
  revert b
  decide

/-- A header out of range, or an announced length that is too great or not the rest's, spells no frame
(R187). -/
theorem parseFrame_of_header {a b c n : Byte} {rest : List Byte}
    (h : 16 < n.toNat ∨ 64 ≤ b.toNat ∨ 64 ≤ c.toNat ∨ b.toNat = 0 ∨ b.toNat = 63 ∨ c.toNat = 0
      ∨ rest.length ≠ n.toNat + 2) :
    parseFrame (a :: b :: c :: n :: rest) = none := by
  cases parsed : parseFrame (a :: b :: c :: n :: rest) with
  | none => rfl
  | some f =>
    exfalso
    obtain ⟨length, -, sourceHigh, destHigh, short, ⟨source, all⟩, dest⟩ := spelled_of_parse parsed
    have sourceLow := toNat_of_high sourceHigh
    have destLow := toNat_of_high destHigh
    rcases h with long | high | high | zero | top | zero | wrong
    · omega
    · omega
    · omega
    · exact source (low_of_toNat.1 zero)
    · exact all (low_of_toNat.2 top)
    · exact dest (low_of_toNat.1 zero)
    · exact wrong length

theorem receiveBytes_of_none {bytes : List Byte} (h : parseFrame bytes = none) (s : State) :
    receiveBytes bytes s = s := by
  unfold receiveBytes
  rw [h]

theorem headerOk_frameOf (kind : BitVec 6) (h : Header) (p : List Byte) :
    headerOk (frameOf kind h p) = (decide (p.length ≤ 16) && h.wf) := by
  simp only [headerOk, frameOf, Header.wf, Bool.and_assoc]
  rfl

/-- A frame that R187 discards, or that comes before load completion, leaves no trace (R4, R202). -/
theorem receiveKind_discarded {s : State} {h : Header} {p : List Byte}
    (out : s.start.loaded = false ∨ h.wf = false ∨ 16 < p.length) (v : Option Bool) (kind : BitVec 6) :
    receiveKind v kind h p s = s := by
  unfold receiveKind receiveFrame
  rw [if_neg]
  rw [headerOk_frameOf]
  rcases out with idle | bad | long
  · simp [idle]
  · simp [bad]
  · have : ¬ p.length ≤ 16 := by omega
    simp [this]

theorem discarded_frames_leave_no_trace : Claims.DiscardedFramesLeaveNoTrace := by
  intro s bytes kind h payload service
  have none_ : ∀ {bytes}, parseFrame bytes = none → exec (.frameDiscarded bytes) s = .next s :=
    fun e => congrArg Host.Outcome.next (receiveBytes_of_none e s)
  refine ⟨none_, fun body high low e wrong => ?_, fun out => ?_, fun a b c n rest e bad => ?_⟩
  · rw [e]
    exact none_ (parseFrame_of_check wrong)
  · have same : ∀ v k, Host.Outcome.next (receiveKind v k h payload s)
        = (.next s : Host.Outcome State Fault Refusal) :=
      fun v k => congrArg Host.Outcome.next (receiveKind_discarded out v k)
    exact ⟨same _ _, same _ _, same _ _, same _ _, same _ _, same _ _, same _ _, same _ _⟩
  · rw [e]
    exact none_ (parseFrame_of_header bad)

/-! ### Source validation (R192) -/

theorem kindClass_iff (kind cls : Nat) :
    kindClass kind = some cls ↔
      (kind, cls) ∈ [(8, 0), (16, 1), (18, 1), (20, 1), (22, 1), (32, 2), (49, 3)] := by
  unfold kindClass
  split <;> simp_all [eq_comm]

theorem kindAllowed_iff (c : StationClass) (kind : Nat) :
    kindAllowed c kind = true ↔
      kind = 16 ∨ kind = 49 ∨ c = .console ∧ kind = 18 ∨
      (c = .driverPanel ∨ c = .seatPanel) ∧ kind = 20 ∨
      c = .reader ∧ (kind = 8 ∨ kind = 22) ∨ c = .nav ∧ kind = 32 := by
  unfold kindAllowed
  split <;> simp_all

/-- The source, kind, class field and HEARTBEAT class that source validation asks for. -/
theorem validate_eq_some {roster : List Station} {f : RxFrame} {e : Station}
    (listed : stationAt roster f.source.toNat = some e) (allowed : kindAllowed e.cls f.kind.toNat = true)
    (cls : kindClass f.kind.toNat = some f.cls.toNat) (beat : heartbeatOk e.cls f = true) :
    validate roster f = some e := by
  simp [validate, listed, Option.filter, allowed, cls, beat]

theorem validate_eq_none {roster : List Station} {f : RxFrame}
    (bad : ∀ e, stationAt roster f.source.toNat = some e →
      kindAllowed e.cls f.kind.toNat = false ∨ kindClass f.kind.toNat ≠ some f.cls.toNat ∨
        heartbeatOk e.cls f = false) : validate roster f = none := by
  unfold validate
  cases listed : stationAt roster f.source.toNat with
  | none => rfl
  | some e =>
    rcases bad e listed with other | cls | beat
    · simp [Option.filter, other]
    · simp [Option.filter, cls]
    · simp [Option.filter, beat]

/-- A frame to the CF-14 is on the line: load completion is past, and R187 does not discard it. -/
structure Arrives (s : State) (h : Header) (p : List Byte) : Prop where
  loaded : s.start.loaded = true
  header : h.wf = true
  short : p.length ≤ 16
  dest : h.dest.toNat = s.tariff.own ∨ h.dest.toNat = broadcast

theorem receiveKind_of_arrives {s : State} {h : Header} {p : List Byte} (k : Arrives s h p)
    (v : Option Bool) (kind : BitVec 6) :
    receiveKind v kind h p s = takeCommands v (takeFrame (frameOf kind h p) s) := by
  have ok : headerOk (frameOf kind h p) = true := by
    rw [headerOk_frameOf, k.header]
    simp [k.short]
  have ours : forUs s.tariff.own (frameOf kind h p) = true := by
    simp only [forUs, Bool.or_eq_true, decide_eq_true_eq]
    exact k.dest
  simp [receiveKind, receiveFrame, k.loaded, ok, ours]

/-- A frame that fails source validation is dropped with SOURCE raised (R192). -/
theorem receiveKind_invalid {s : State} {h : Header} {p : List Byte} (k : Arrives s h p)
    (quiet : s.line.fifo = []) (v : Option Bool) {kind : BitVec 6}
    (bad : validate s.line.roster (frameOf kind h p) = none) :
    receiveKind v kind h p s = raiseCause .source h.source.toNat s := by
  have dropped : takeFrame (frameOf kind h p) s = raiseCause .source h.source.toNat s := by
    unfold takeFrame
    rw [bad]
    rfl
  rw [receiveKind_of_arrives k, dropped]
  exact takeCommands_of_empty ((raiseCause_raise _ _ s).fifo.trans quiet)

/-- A frame that passes source validation is delivered after its station is heard (R192 to R194). -/
theorem takeFrame_valid {s : State} {f : RxFrame} {e : Station}
    (valid : validate s.line.roster f = some e) :
    takeFrame f s = deliver e f.kind.toNat f.payload (hear e s) := by
  unfold takeFrame
  rw [valid]

theorem takeFault_status (src : Nat) (code : Byte) (s : State) :
    (takeFault src code s).hold.status.peer = true ∧
      (takeFault src code s).monitor.lastSource.peer = src ∧
      (takeFault src code s).monitor.lastCode = code.toNat := by
  refine ⟨?_, ?_, rfl⟩
  · change (raiseCause .peer src s).hold.status.peer = true
    rw [raiseCause_status]
    rfl
  · change (raiseCause .peer src s).monitor.lastSource.peer = src
    rw [raiseCause_monitor]
    rfl

theorem hear_present {e : Station} (h : e.timer ≠ none) (s : State) : hear e s = heardAgain e s := by
  have present : e.present = true := Option.isSome_iff_ne_none.2 h
  simp [hear, present, heardAgain, setTimer, presenceTime]

theorem classValue_byte (c : StationClass) (b : Byte) :
    b.toNat = classValue c ↔ b = byte (classValue c) := by
  rw [← BitVec.toNat_inj]
  cases c <;> rfl

theorem heartbeatOk_iff (c : StationClass) (h : Header) (p : List Byte) :
    heartbeatOk c (frameOf 49 h p) = true ↔ p.head? = some (byte (classValue c)) := by
  have only : heartbeatOk c (frameOf 49 h p) = p.head?.any (fun b => b.toNat = classValue c) := rfl
  rw [only]
  cases p <;> simp [classValue_byte]

theorem frames_are_validated_by_source : Claims.FramesAreValidatedBySource := by
  intro s h loaded quiet header dest
  have arrives : ∀ {p : List Byte}, p.length ≤ 16 → Arrives s h p :=
    fun short => ⟨loaded, header, short, dest⟩
  have invalid : ∀ {p : List Byte} (v : Option Bool) (kind : BitVec 6), p.length ≤ 16 →
      validate s.line.roster (frameOf kind h p) = none →
      receiveKind v kind h p s = raiseCause .source h.source.toNat s :=
    fun v _ short bad => receiveKind_invalid (arrives short) quiet v bad
  refine ⟨fun v kind payload short bad => ?_, fun e p listed short other => ?_,
    fun unlisted p service short => ?_, fun e code listed cls => ?_,
    fun e health listed cls present => ?_⟩
  · refine invalid v kind short (validate_eq_none fun e listed => ?_)
    rcases bad with unlisted | cls | forbidden
    · rw [show stationAt s.line.roster (frameOf kind h payload).source.toNat = none from unlisted] at listed
      cases listed
    · exact .inr (.inl cls)
    · exact .inl (forbidden e listed)
  · refine congrArg Host.Outcome.next (invalid none 49 short (validate_eq_none fun x hx => ?_))
    rw [show stationAt s.line.roster (frameOf 49 h p).source.toNat = some e from listed] at hx
    cases hx
    refine .inr (.inr (Bool.eq_false_iff.2 fun ok => other ((heartbeatOk_iff _ h p).1 ok)))
  · have dropped : ∀ v kind, Host.Outcome.next (receiveKind v kind h p s)
        = (.next (raiseCause .source h.source.toNat s) : Host.Outcome State Fault Refusal) :=
      fun v kind => congrArg Host.Outcome.next (invalid v kind short (validate_eq_none fun x hx => by
        rw [show stationAt s.line.roster (frameOf kind h p).source.toNat = none from unlisted] at hx
        cases hx))
    exact ⟨dropped _ _, dropped _ _, dropped _ _, dropped _ _, dropped _ _, dropped _ _, dropped _ _⟩
  · have valid : validate s.line.roster (frameOf 16 h [code]) = some e :=
      validate_eq_some listed rfl (by change some 1 = some h.cls.toNat; rw [cls]) rfl
    have taken : takeFrame (frameOf 16 h [code]) s = takeFault e.addr code (hear e s) :=
      takeFrame_valid valid
    refine ⟨_, rfl, ?_⟩
    rw [receiveKind_of_arrives (arrives (by simp)), taken, takeCommands_of_empty]
    · exact takeFault_status e.addr code _
    · rw [(takeFault_effect e.addr code _).fifo, (hear_effect e s).fifo]
      exact quiet
  · have valid : validate s.line.roster (frameOf 49 h [byte (classValue e.cls), health]) = some e :=
      validate_eq_some listed rfl (by change some 3 = some h.cls.toNat; rw [cls])
        ((heartbeatOk_iff _ h _).2 rfl)
    have taken : takeFrame (frameOf 49 h [byte (classValue e.cls), health]) s = heardAgain e s := by
      rw [takeFrame_valid valid, ← hear_present present]
      rfl
    refine congrArg Host.Outcome.next ?_
    rw [receiveKind_of_arrives (arrives (by simp)), taken]
    exact takeCommands_of_empty quiet

/-- Settles O55: a frame's header, source, kind, class and HEARTBEAT byte are checked in turn, and what
fails a check is dropped before any block sees it. -/
theorem framesAreValidatedOrDiscarded : Obligations.FramesAreValidatedOrDiscarded :=
  ⟨frames_are_validated_by_source, fun c kind cls => ⟨kindClass_iff kind cls, kindAllowed_iff c kind⟩,
    discarded_frames_leave_no_trace⟩

/-! ### A COMMAND frame (R196, R197) -/

/-- A station whose presence timer is at its full length is heard without effect. -/
theorem setPresence_same {roster : List Station} {addr : Nat} {t : Timer}
    (h : ∀ x ∈ roster, x.addr = addr → x.timer = t) : setPresence roster addr t = roster := by
  refine (List.map_congr_left fun x hx => ?_).trans (List.map_id roster)
  by_cases same : x.addr = addr
  · rw [if_pos same, ← h x hx same]
    rfl
  · exact if_neg same

/-- The intake takes a command that finds it free with the level of SERVICE that the command reads, and else
lets it wait (R161, R163, R197). -/
theorem takeCommands_rowLevel {s : State} (quiet : s.line.fifo = []) (a : Nat) (service : Bool)
    (seq : Byte) (c : Command) :
    takeCommands (some service) (arrive { source := a, payload := commandPayload seq c } s)
      = takeCommands (rowLevel service c) (arrive { source := a, payload := commandPayload seq c } s) := by
  by_cases free : canTake s = true
  · have level : withService (some service) c s = withService (rowLevel service c) c s := by
      cases reads : readsService c <;> simp [rowLevel, reads]
    rw [takeCommands_arrive quiet free, takeCommands_arrive quiet free, takeEntry, takeEntry,
      decodeCommand_commandPayload]
    exact congrArg (fun u => answerCommand _ (perform a c u)) level
  · have blocked : canTake (arrive { source := a, payload := commandPayload seq c } s) = false := by
      rw [arrive_of_empty _ quiet]
      exact Bool.eq_false_iff.2 free
    rw [takeCommands_of_blocked blocked, takeCommands_of_blocked blocked]

theorem command_frame_is_its_row : Claims.CommandFrameIsItsRow := by
  intro s e h seq c service sent console listed full
  have short : (commandPayload seq c).length ≤ 16 := by
    have := (commandPayload_length seq c).2
    omega
  have arrives : Arrives s h (commandPayload seq c) := ⟨sent.loaded, sent.header, short, sent.dest⟩
  have valid : validate s.line.roster (frameOf 18 h (commandPayload seq c)) = some e :=
    validate_eq_some sent.listed (by rw [console]; rfl) (by change some 1 = some h.cls.toNat; rw [sent.cls])
      rfl
  have timer : e.timer = some 2000 := full e (List.mem_of_find?_eq_some sent.listed) rfl
  have heard : hear e s = s := by
    rw [hear_present (by rw [timer]; nofun), heardAgain, setPresence_same full]
    rfl
  have taken : takeFrame (frameOf 18 h (commandPayload seq c)) s
      = arrive { source := e.addr, payload := commandPayload seq c } s := by
    rw [takeFrame_valid valid, heard]
    rfl
  rw [exec_rowOf]
  refine congrArg Host.Outcome.next ?_
  rw [receiveKind_of_arrives arrives, taken, takeCommands_rowLevel sent.quiet, consoleRow,
    if_pos sent.loaded, listed]

theorem intake_takes_command_at_once : Claims.IntakeTakesCommandAtOnce := by
  intro s a seq c service ready
  refine ⟨?_, ?_⟩
  · dsimp only
    have level : withService (rowLevel service c) c s
        = if readsService c = true then s.setPins { s.pins with service := service } else s := by
      cases reads : readsService c
      · exact withService_unread reads s
      · simp [rowLevel, reads]
    rw [exec_rowOf_ready ready, level]
  · exact exec_row_of_perform (service := service) (c := .reset) ready rfl rfl

theorem refusals_change_nothing : Claims.RefusalsChangeNothing := by
  intro a c s
  rcases perform_replies (src := a) (s := s) c with ⟨code, _, e⟩ | ⟨t, d, _, room, e⟩
  · rw [e]
    exact ⟨fun _ => ⟨rfl, rfl⟩, Nat.zero_le _⟩
  · rw [e]
    exact ⟨fun other => absurd rfl other, room⟩

/-- Settles O56: frame and row are one arrival at the intake, which performs a decoded command at once. -/
theorem commandsReachTheirBlock : Obligations.CommandsReachTheirBlock :=
  ⟨command_frame_is_its_row, intake_takes_command_at_once, refusals_change_nothing⟩

end Sys2Proof.Machine

/-! PROOFS. The frames that the start work queues: the transmit queue as a fold over the frames sent, the
places that a start leaves free in it, and what each part of the start work sends (R5, R198 to R201). -/

namespace Sys2Proof.Machine

-- One theorem at a time: the memory limit of the check counts the stack of every thread.
set_option Elab.async false

/-! ### The transmit queue as a list (R198 to R200) -/

/-- The transmit queue after a frame arrives. -/
def queued (q : List TxFrame) (f : TxFrame) : List TxFrame :=
  if f.body.key.isSome && q.any (fun g => g.body.key = f.body.key) then replaceKey f q
  else if q.length < queuePlaces then insertByClass f q
  else
    match q.getLast? with
    | some g => if f.body.cls < g.body.cls then insertByClass f q.dropLast else q
    | none => q

theorem discardNotice_queue (f : TxFrame) (s : State) :
    (discardNotice f s).line.queue = s.line.queue := by
  unfold discardNotice
  split
  · rfl
  · split <;> rfl
  · rfl

theorem enqueue_queue (f : TxFrame) (s : State) :
    (enqueue f s).line.queue = queued s.line.queue f := by
  unfold enqueue queued joinQueue
  split
  · rfl
  · split
    · rfl
    · cases last : s.line.queue.getLast? with
      | none => exact discardNotice_queue _ _
      | some g =>
        dsimp only
        split
        · exact discardNotice_queue _ _
        · exact discardNotice_queue _ _

/-- The frames of the highest class have no coalescing key. -/
theorem key_of_top {b : TxBody} (h : b.cls = 0) : b.key = none := by
  cases b <;> first | rfl | cases h

theorem queued_top {q : List TxFrame} {f : TxFrame} (h : f.body.cls = 0) :
    queued q f =
      if q.length < queuePlaces then insertByClass f q
      else
        match q.getLast? with
        | some g => if f.body.cls < g.body.cls then insertByClass f q.dropLast else q
        | none => q := by
  unfold queued
  rw [key_of_top h]
  rfl

theorem mem_queued {q : List TxFrame} {f g : TxFrame} (h : g ∈ queued q f) : g = f ∨ g ∈ q := by
  unfold queued at h
  split at h
  · obtain ⟨x, hx, rfl⟩ := List.mem_map.1 h
    split
    · exact .inl rfl
    · exact .inr hx
  · split at h
    · exact mem_insertByClass.1 h
    · split at h
      · split at h
        · exact (mem_insertByClass.1 h).imp_right List.mem_of_mem_dropLast
        · exact .inr h
      · exact .inr h

/-- A frame of a less urgent class stands behind the frames that are as urgent or more. -/
theorem insertByClass_append {f : TxFrame} {a b : List TxFrame} (h : ∀ g ∈ a, g.body.cls ≤ f.body.cls) :
    insertByClass f (a ++ b) = a ++ insertByClass f b := by
  induction a with
  | nil => rfl
  | cons g gs ih =>
    rw [List.cons_append, insertByClass, if_pos (h g List.mem_cons_self),
      ih fun x hx => h x (List.mem_cons_of_mem _ hx)]
    rfl

theorem insertByClass_before {f : TxFrame} {b : List TxFrame} (h : ∀ g ∈ b, f.body.cls < g.body.cls) :
    insertByClass f b = f :: b := by
  cases b with
  | nil => rfl
  | cons g gs =>
    have := h g List.mem_cons_self
    rw [insertByClass, if_neg (by omega)]

/-! ### Urgent frames in front, the first other frame behind them -/

/-- The queue holds at most `k` frames of the highest class, in front; behind them no answer; and the first
of those is `first`, where one is named. -/
structure Placed (k : Nat) (first : Option TxFrame) (q a b : List TxFrame) : Prop where
  parts : q = a ++ b
  few : a.length ≤ k
  front : ∀ f ∈ a, f.body.cls = 0
  back : ∀ f ∈ b, 2 ≤ f.body.cls
  head : ∀ x, first = some x → b.head? = some x

/-- A frame that may follow: an urgent one, or one that does not replace the first of the others. -/
def Follower (first : Option TxFrame) (f : TxFrame) : Prop :=
  f.body.cls = 0 ∨
    2 ≤ f.body.cls ∧ ∀ x, first = some x → x.body.cls ≤ 2 ∧ f.body.key ≠ x.body.key

/-- An urgent frame takes a place in front. -/
theorem Placed.urgent {k : Nat} {first : Option TxFrame} {q a b : List TxFrame} {f : TxFrame}
    (h : Placed k first q a b) (room : k < 15) (top : f.body.cls = 0) :
    ∃ b', Placed (k + 1) first (queued q f) (a ++ [f]) b' := by
  obtain ⟨rfl, few, front, back, head⟩ := h
  have behind : ∀ c : List TxFrame, (∀ g ∈ c, 2 ≤ g.body.cls) →
      insertByClass f (a ++ c) = (a ++ [f]) ++ c := fun c hc => by
    rw [insertByClass_append (fun g hg => by rw [front g hg]; exact Nat.zero_le _),
      insertByClass_before (fun g hg => by have := hc g hg; omega)]
    simp
  have front' : ∀ g ∈ a ++ [f], g.body.cls = 0 := fun g hg => by
    rcases List.mem_append.1 hg with old | new
    · exact front g old
    · rw [List.mem_singleton.1 new]
      exact top
  have few' : (a ++ [f]).length ≤ k + 1 := by simp [few]
  rw [queued_top top]
  split
  · exact ⟨b, behind b back, few', front', back, head⟩
  · next full =>
    have many : 2 ≤ b.length := by
      simp only [queuePlaces, List.length_append] at full
      omega
    have some_ : b ≠ [] := by
      rintro rfl
      simp at many
    have last : (a ++ b).getLast? = some (b.getLast some_) := by
      rw [List.getLast?_append, List.getLast?_eq_getLast_of_ne_nil some_]
      rfl
    have less : f.body.cls < (b.getLast some_).body.cls := by
      have := back _ (List.getLast_mem some_)
      omega
    rw [last]
    dsimp only
    rw [if_pos less, List.dropLast_append_of_ne_nil some_]
    refine ⟨b.dropLast, behind _ fun g hg => back g (List.mem_of_mem_dropLast hg), few', front',
      fun g hg => back g (List.mem_of_mem_dropLast hg), fun x hx => ?_⟩
    have := head x hx
    match b, many with
    | y :: z :: rest, _ => exact this

/-- Another frame takes a place behind, in its predecessor's place, or none. -/
theorem Placed.other {k : Nat} {first : Option TxFrame} {q a b : List TxFrame} {f : TxFrame}
    (h : Placed k first q a b) (room : k < 15) (low : 2 ≤ f.body.cls)
    (apart : ∀ x, first = some x → x.body.cls ≤ 2 ∧ f.body.key ≠ x.body.key) :
    ∃ b', Placed k first (queued q f) a b' := by
  obtain ⟨rfl, few, front, back, head⟩ := h
  have behind : ∀ c : List TxFrame, insertByClass f (a ++ c) = a ++ insertByClass f c := fun c =>
    insertByClass_append fun g hg => by rw [front g hg]; exact Nat.zero_le _
  have placed : ∀ c : List TxFrame, (∀ g ∈ c, 2 ≤ g.body.cls) →
      (∀ x, first = some x → c.head? = some x) →
      Placed k first (a ++ insertByClass f c) a (insertByClass f c) := fun c hc hh => by
    refine ⟨rfl, few, front, fun g hg => ?_, fun x hx => ?_⟩
    · rcases mem_insertByClass.1 hg with rfl | old
      · exact low
      · exact hc g old
    · have front_ := hh x hx
      match c, front_ with
      | y :: rest, front_ =>
        cases front_
        rw [insertByClass, if_pos (by have := (apart x hx).1; omega)]
        rfl
  unfold queued
  split
  · next same =>
    simp only [Bool.and_eq_true] at same
    have keyed : f.body.key ≠ none := fun none_ => by simp [none_] at same
    have stays : replaceKey f a = a := by
      refine (List.map_congr_left fun g hg => ?_).trans (List.map_id a)
      rw [key_of_top (front g hg), if_neg keyed.symm]
      rfl
    refine ⟨replaceKey f b, ?_, few, front, fun g hg => ?_, fun x hx => ?_⟩
    · conv_rhs => rw [← stays]
      exact List.map_append
    · obtain ⟨y, hy, rfl⟩ := List.mem_map.1 hg
      split
      · exact low
      · exact back y hy
    · have front_ := head x hx
      match b, front_ with
      | y :: rest, front_ =>
        cases front_
        change some (if x.body.key = f.body.key then f else x) = some x
        rw [if_neg (apart x hx).2.symm]
  · split
    · rw [behind]
      exact ⟨_, placed b back head⟩
    · next full =>
      have many : 2 ≤ b.length := by
        simp only [queuePlaces, List.length_append] at full
        omega
      have some_ : b ≠ [] := by
        rintro rfl
        simp at many
      split
      · split
        · rw [List.dropLast_append_of_ne_nil some_, behind]
          refine ⟨_, placed _ (fun g hg => back g (List.mem_of_mem_dropLast hg)) fun x hx => ?_⟩
          have := head x hx
          match b, many with
          | y :: z :: rest, _ => exact this
        · exact ⟨b, rfl, few, front, back, head⟩
      · exact ⟨b, rfl, few, front, back, head⟩

/-- The queue has so few urgent frames, in some order of its parts. -/
def HasPlaced (k : Nat) (first : Option TxFrame) (q : List TxFrame) : Prop :=
  ∃ a b, Placed k first q a b

/-- How many of some frames are urgent. -/
def urgentCount (fs : List TxFrame) : Nat := fs.countP (fun f => f.body.cls = 0)

/-- Frames that arrive one after another. -/
theorem HasPlaced.foldl {k : Nat} {first : Option TxFrame} {q fs : List TxFrame}
    (h : HasPlaced k first q) (room : k + urgentCount fs < 15) (ok : ∀ f ∈ fs, Follower first f) :
    HasPlaced (k + urgentCount fs) first (fs.foldl queued q) := by
  induction fs generalizing k q with
  | nil => exact h
  | cons f fs ih =>
    obtain ⟨a, b, placed⟩ := h
    have rest : ∀ g ∈ fs, Follower first g := fun g hg => ok g (List.mem_cons_of_mem _ hg)
    have count : urgentCount (f :: fs) = urgentCount fs + if f.body.cls = 0 then 1 else 0 := by
      simp [urgentCount, List.countP_cons]
    by_cases top : f.body.cls = 0
    · rw [count, if_pos top] at room ⊢
      obtain ⟨b', placed'⟩ := placed.urgent (by omega) top
      have := ih (k := k + 1) ⟨_, _, placed'⟩ (by omega) rest
      rwa [show k + 1 + urgentCount fs = k + (urgentCount fs + 1) by omega] at this
    · rw [count, if_neg top] at room ⊢
      obtain ⟨low, apart⟩ := (ok f List.mem_cons_self).resolve_left top
      obtain ⟨b', placed'⟩ := placed.other (by omega) low apart
      exact ih ⟨_, _, placed'⟩ (by omega) rest

/-- The named frame stands in the queue. -/
theorem HasPlaced.mem {k : Nat} {x : TxFrame} {q : List TxFrame} (h : HasPlaced k (some x) q) :
    x ∈ q := by
  obtain ⟨a, b, rfl, -, -, -, head⟩ := h
  exact List.mem_append_right _ (List.mem_of_mem_head? (head x rfl))

/-- An urgent frame finds a place. -/
theorem HasPlaced.mem_queued {k : Nat} {first : Option TxFrame} {q : List TxFrame} {f : TxFrame}
    (h : HasPlaced k first q) (room : k < 15) (top : f.body.cls = 0) : f ∈ queued q f := by
  obtain ⟨a, b, placed⟩ := h
  obtain ⟨b', placed'⟩ := placed.urgent room top
  rw [placed'.parts]
  simp

theorem hasPlaced_nil (k : Nat) : HasPlaced k none [] :=
  ⟨[], [], rfl, Nat.zero_le _, fun _ h => absurd h List.not_mem_nil,
    fun _ h => absurd h List.not_mem_nil, fun _ h => by cases h⟩

/-! ### A queue of few frames -/

/-- So few frames but for a STATUS. -/
def FewFrames (n : Nat) (q : List TxFrame) : Prop :=
  q.length ≤ n ∨ q.length ≤ n + 1 ∧ ∃ g ∈ q, g.body.key = some .status

theorem FewFrames.length_le {n : Nat} {q : List TxFrame} (h : FewFrames n q) : q.length ≤ n + 1 := by
  rcases h with h | ⟨h, -⟩ <;> omega

theorem FewFrames.status {n : Nat} {q : List TxFrame} {f : TxFrame} (h : FewFrames n q) (room : n < 15)
    (key : f.body.key = some .status) : FewFrames n (queued q f) := by
  unfold queued
  split
  · next same =>
    simp only [key, Option.isSome_some, Bool.true_and, List.any_eq_true, decide_eq_true_eq] at same
    obtain ⟨g, hg, hk⟩ := same
    refine .inr ⟨?_, f, List.mem_map.2 ⟨g, hg, by rw [if_pos (hk.trans key.symm)]⟩, key⟩
    rw [replaceKey, List.length_map]
    exact h.length_le
  · next other =>
    have short : q.length ≤ n := by
      rcases h with h | ⟨-, g, hg, hk⟩
      · exact h
      · exfalso
        refine other ?_
        simp only [key, Option.isSome_some, Bool.true_and, List.any_eq_true, decide_eq_true_eq]
        exact ⟨g, hg, hk⟩
    rw [if_pos (by unfold queuePlaces; omega)]
    exact .inr ⟨by simp [short], f, mem_insertByClass.2 (.inl rfl), key⟩

theorem FewFrames.urgent {n : Nat} {q : List TxFrame} {f : TxFrame} (h : FewFrames n q) (room : n < 15)
    (top : f.body.cls = 0) : FewFrames (n + 1) (queued q f) := by
  have short := h.length_le
  rw [queued_top top, if_pos (by unfold queuePlaces; omega)]
  rcases h with h | ⟨h, g, hg, key⟩
  · exact .inl (by simp [h])
  · exact .inr ⟨by simp [h], g, mem_insertByClass.2 (.inr hg), key⟩

theorem FewFrames.foldl {n : Nat} {q fs : List TxFrame} (h : FewFrames n q)
    (room : n + urgentCount fs < 15) (ok : ∀ f ∈ fs, f.body.cls = 0 ∨ f.body.key = some .status) :
    FewFrames (n + urgentCount fs) (fs.foldl queued q) := by
  induction fs generalizing n q with
  | nil => exact h
  | cons f fs ih =>
    have rest : ∀ g ∈ fs, g.body.cls = 0 ∨ g.body.key = some .status :=
      fun g hg => ok g (List.mem_cons_of_mem _ hg)
    have count : urgentCount (f :: fs) = urgentCount fs + if f.body.cls = 0 then 1 else 0 := by
      simp [urgentCount, List.countP_cons]
    by_cases top : f.body.cls = 0
    · rw [count, if_pos top] at room ⊢
      have := ih (h.urgent (by omega) top) (by omega) rest
      rwa [show n + 1 + urgentCount fs = n + (urgentCount fs + 1) by omega] at this
    · rw [count, if_neg top] at room ⊢
      exact ih (h.status (by omega) ((ok f List.mem_cons_self).resolve_left top)) (by omega) rest

/-! ### What a change sends -/

/-- A change sends frames of one sort, at most so many of them urgent. -/
def Sends (ok : TxBody → Prop) (k : Nat) (s t : State) : Prop :=
  ∃ fs : List TxFrame, t.line.queue = fs.foldl queued s.line.queue ∧ (∀ f ∈ fs, ok f.body) ∧
    urgentCount fs ≤ k

/-- The intercom switch may send its state, or it stands idle at its start values, where nothing that a
start does moves it (R138). -/
def SwitchAllowed (ok : TxBody → Prop) (s : State) : Prop :=
  (∀ r, ok (.intercomState r)) ∨ s.intercom = intercomStart

/-- The lamp timebase, the roster and the STATUS timer stand. -/
structure Timed (s t : State) : Prop where
  timebase : t.sign.timebase = s.sign.timebase
  roster : t.line.roster = s.line.roster
  statusTimer : t.line.statusTimer = s.line.statusTimer

theorem Timed.trans {s t u : State} (h : Timed s t) (k : Timed t u) : Timed s u :=
  ⟨k.timebase.trans h.timebase, k.roster.trans h.roster, k.statusTimer.trans h.statusTimer⟩

theorem QueueOnly.timed {s t : State} (h : QueueOnly s t) : Timed s t :=
  ⟨by rw [h.sign], h.roster, h.statusTimer⟩

/-- A change keeps what runs, and sends frames of one sort, at most so many of them urgent. -/
structure Tells (ok : TxBody → Prop) (k : Nat) (s t : State) : Prop where
  timed : Timed s t
  sends : SwitchAllowed ok s → SwitchAllowed ok t ∧ Sends ok k s t

section Tells

variable {ok : TxBody → Prop} {k n : Nat} {s t u : State}

theorem Sends.of_eq (queue : t.line.queue = s.line.queue) : Sends ok 0 s t :=
  ⟨[], queue, fun _ h => absurd h List.not_mem_nil, Nat.zero_le _⟩

theorem Sends.trans (h : Sends ok k s t) (j : Sends ok n t u) : Sends ok (k + n) s u := by
  obtain ⟨fs, queue, all, count⟩ := h
  obtain ⟨gs, queue', all', count'⟩ := j
  refine ⟨fs ++ gs, by rw [queue', queue, List.foldl_append], fun f hf => ?_, ?_⟩
  · exact (List.mem_append.1 hf).elim (all f) (all' f)
  · simp only [urgentCount, List.countP_append] at *
    omega

theorem Tells.trans (h : Tells ok k s t) (j : Tells ok n t u) : Tells ok (k + n) s u where
  timed := h.timed.trans j.timed
  sends x := by
    obtain ⟨allowed, sent⟩ := h.sends x
    obtain ⟨allowed', sent'⟩ := j.sends allowed
    exact ⟨allowed', sent.trans sent'⟩

theorem Tells.mono (h : Tells ok k s t) (le : k ≤ n) : Tells ok n s t where
  timed := h.timed
  sends x := by
    obtain ⟨allowed, fs, queue, all, count⟩ := h.sends x
    exact ⟨allowed, fs, queue, all, count.trans le⟩

theorem Tells.ite {c : Prop} [Decidable c] (h : Tells ok k s t) (j : Tells ok k s u) :
    Tells ok k s (if c then t else u) := by
  split <;> assumption

/-- A change that sends nothing and leaves the switch. -/
theorem Tells.of_eq (timebase : t.sign.timebase = s.sign.timebase) (intercom : t.intercom = s.intercom)
    (line : t.line = s.line) : Tells ok 0 s t where
  timed := ⟨timebase, by rw [line], by rw [line]⟩
  sends x := ⟨x.imp_right intercom.trans, .of_eq (by rw [line])⟩

theorem Tells.refl (s : State) : Tells ok 0 s s := .of_eq rfl rfl rfl

theorem setHold_tells (v : Hold) : Tells ok 0 s (s.setHold v) := .of_eq rfl rfl rfl

theorem setAccounts_tells (v : Accounts) : Tells ok 0 s (s.setAccounts v) := .of_eq rfl rfl rfl

theorem setTags_tells (v : Tags) : Tells ok 0 s (s.setTags v) := .of_eq rfl rfl rfl

theorem setSeat_tells (q : Seat) (r : SeatRecord) : Tells ok 0 s (s.setSeat q r) := .of_eq rfl rfl rfl

theorem setDisplay_tells (v : PerSeat (Option Display)) : Tells ok 0 s (s.setDisplay v) :=
  .of_eq rfl rfl rfl

/-- One frame sent. -/
theorem send_tells {dest : Nat} {body : TxBody} (h : ok body) :
    Tells ok (if body.cls = 0 then 1 else 0) s (send dest body s) where
  timed := (send_only dest body s).timed
  sends x := by
    refine ⟨x.imp_right (send_only dest body s).intercom.trans,
      [{ dest := dest, body := body, answer := false }], enqueue_queue _ s, fun f hf => ?_, ?_⟩
    · rw [List.mem_singleton.1 hf]
      exact h
    · simp only [urgentCount, List.countP_cons, List.countP_nil]
      split <;> simp_all

theorem queueStatus_tells (status : ∀ r, ok (.status r)) : Tells ok 0 s (queueStatus s) :=
  send_tells (status _)

theorem computeSign_tells : Tells ok 0 s (computeSign s) := .of_eq rfl rfl rfl

/-- A frame that is not urgent, sent. -/
theorem send_tells_low {dest : Nat} {body : TxBody} (h : ok body) (low : body.cls ≠ 0) :
    Tells ok 0 s (send dest body s) := by
  have := send_tells (s := s) (dest := dest) h
  rwa [if_neg low] at this

/-! ### A seat's change and a close -/

/-- A switch whose carried items stand sends nothing; one at its start values stays there. -/
theorem changeIntercom_tells {f : Intercom → Intercom}
    (idle : s.intercom = intercomStart → f intercomStart = intercomStart) :
    Tells ok 0 s (changeIntercom f s) := by
  refine ⟨?_, fun allowed => ?_⟩
  · have write : ∀ i, Timed s (s.setIntercom i) := fun _ => ⟨rfl, rfl, rfl⟩
    unfold changeIntercom
    dsimp only
    split
    · exact write _
    · exact (write _).trans (send_only _ _ _).timed
  · rcases allowed with may | start
    · refine ⟨.inl may, ?_⟩
      unfold changeIntercom
      dsimp only
      split
      · exact .of_eq rfl
      · obtain ⟨-, fs, queue, all, count⟩ := (send_tells_low (ok := ok)
          (s := s.setIntercom { f s.intercom with
            gates := gatesOf (f s.intercom).state (f s.intercom).target s.seats })
          (dest := broadcast) (may (intercomReport (f s.intercom))) (by simp [TxBody.cls])).sends
          (.inl may)
        exact ⟨fs, queue, all, count⟩
    · have same : changeIntercom f s = s := by
        unfold changeIntercom
        rw [start, idle start, if_pos rfl]
        change s.setIntercom intercomStart = s
        rw [← start]
        rfl
      rw [same]
      exact ⟨.inr start, .of_eq rfl⟩

theorem occupancyNotice_tells (q : Seat) (was : Bool) : Tells ok 0 s (occupancyNotice q was s) := by
  refine .ite (.refl s) (.ite (changeIntercom_tells fun _ => ?_) (changeIntercom_tells fun _ => rfl))
  cases q <;> rfl

theorem changeSeat_tells (status : ∀ r, ok (.status r)) (q : Seat) (r : SeatRecord) :
    Tells ok 0 s (changeSeat q r s) :=
  (((setSeat_tells q r).trans computeSign_tells).trans
    (occupancyNotice_tells q _)).trans (queueStatus_tells status)

/-- The sorts of frames that a close may send (R40, R54, R169, R176). -/
structure AllowsClose (ok : TxBody → Prop) : Prop where
  status : ∀ r, ok (.status r)
  display : ∀ q d, ok (.seatDisplay q d)
  report : ∀ n p items, ok (.report n p items)

theorem changeShift_tells (status : ∀ r, ok (.status r)) (sh : Shift) : Tells ok 0 s (changeShift sh s) :=
  ((setAccounts_tells { s.accounts with shift := sh }).trans computeSign_tells).trans
    (queueStatus_tells status)

theorem foldl_tells {α : Type} {f : State → α → State} (h : ∀ u a, Tells ok 0 u (f u a)) (l : List α)
    (s : State) : Tells ok 0 s (l.foldl f s) := by
  induction l generalizing s with
  | nil => exact .refl s
  | cons a l ih => exact (h s a).trans (ih _)

theorem queueReport_tells (close : AllowsClose ok) : Tells ok 0 s (queueReport s) := by
  unfold queueReport
  split
  · exact .refl s
  · exact foldl_tells (fun u p => send_tells_low (close.report _ _ _) (by simp [TxBody.cls])) _ s

theorem closeShift_tells (close : AllowsClose ok) : Tells ok 0 s (closeShift s) :=
  (changeShift_tells close.status _).trans (queueReport_tells close)

theorem afterTrip_tells (close : AllowsClose ok) (others : Bool) : Tells ok 0 s (afterTrip others s) := by
  unfold afterTrip
  dsimp only
  split
  · exact .refl s
  · exact .ite (.refl s) (closeShift_tells close)
  · exact .ite (.ite (changeShift_tells close.status _)
      ((changeShift_tells close.status _).trans (closeShift_tells close))) (.refl s)

theorem removeScope_tells (sc : Scope) : Tells ok 0 s (removeScope sc s) := by
  unfold removeScope
  split
  · exact .of_eq rfl rfl rfl
  · exact .refl s

theorem payersAtClose_tells (q : Seat) (others : Bool) : Tells ok 0 s (payersAtClose q others s) :=
  .ite (removeScope_tells _) ((removeScope_tells _).trans (removeScope_tells _))

theorem compareDisplay_tells (close : AllowsClose ok) (q : Seat) : Tells ok 0 s (compareDisplay s q) := by
  unfold compareDisplay
  dsimp only
  split
  · exact .refl s
  · exact .ite (.refl s) ((setDisplay_tells _).trans
      (send_tells_low (close.display _ _) (by simp [TxBody.cls])))

theorem closeSeat_tells (close : AllowsClose ok) (q : Seat) (e : TripEnd) :
    Tells ok 0 s (closeSeat q e s) := by
  exact ((((setAccounts_tells _).trans (afterTrip_tells close _)).trans (payersAtClose_tells q _)).trans
    (changeSeat_tells close.status q _)).trans (compareDisplay_tells close q)

theorem closeIfPaid_tells (close : AllowsClose ok) (q : Seat) : Tells ok 0 s (closeIfPaid q s) :=
  .ite (closeSeat_tells close q _) (.refl s)

theorem warmStartSeat_tells (close : AllowsClose ok) (q : Seat) : Tells ok 0 s (warmStartSeat s q) :=
  .ite ((changeSeat_tells close.status q _).trans (closeIfPaid_tells close q)) (setSeat_tells q _)

theorem warmStartSeats_tells (close : AllowsClose ok) : Tells ok 0 s (warmStartSeats s) :=
  foldl_tells (fun _ q => warmStartSeat_tells close q) allSeats s

/-! ### The hold monitor and the slots -/

theorem countHold_tells : Tells ok 0 s (countHold s) := .ite (.refl s) (setAccounts_tells _)

theorem enterHeld_tells (status : ∀ r, ok (.status r)) (event : ∀ x c p n, ok (.holdEvent x c p n))
    (c : Cause) (src : Nat) : Tells ok 1 s (enterHeld c src s) := by
  exact ((((setHold_tells _).trans (send_tells (event _ _ _ _))).trans (queueStatus_tells status)).trans
    computeSign_tells).trans countHold_tells

theorem markRaised_tells (c : Cause) (src : Nat) : Tells ok 0 s (markRaised c src s) := .of_eq rfl rfl rfl

theorem raiseCause_tells (status : ∀ r, ok (.status r)) (event : ∀ x c p n, ok (.holdEvent x c p n))
    (c : Cause) (src : Nat) : Tells ok 1 s (raiseCause c src s) := by
  have marked := markRaised_tells (ok := ok) (s := s) c src
  exact .ite (marked.mono (by omega)) (.ite ((marked.trans (enterHeld_tells status event _ _)).mono (by omega))
    (.ite ((marked.trans (setHold_tells _)).mono (Nat.zero_le 1)) (marked.mono (by omega))))

/-- A part that is HELD sends nothing at a raise (R155). -/
theorem raiseCause_tells_held (held : s.hold.held = true) (c : Cause) (src : Nat) :
    Tells ok 0 s (raiseCause c src s) := by
  have marked := markRaised_tells (ok := ok) (s := s) c src
  unfold raiseCause
  dsimp only
  refine .ite marked ?_
  rw [if_neg (by simp [markRaised, held])]
  exact .ite (marked.trans (setHold_tells _)) marked

theorem retireSlot_tells (cancel : ∀ n, ok (.chargeCancel n)) (q : Seat) :
    Tells ok 1 s (retireSlot s q) := by
  unfold retireSlot
  split
  · exact (Tells.refl s).mono (by omega)
  · exact .ite ((setTags_tells _).trans (send_tells (cancel _))) ((setTags_tells _).mono (by omega))

theorem retireSlots_tells (cancel : ∀ n, ok (.chargeCancel n)) : Tells ok 4 s (retireSlots s) :=
  (((retireSlot_tells cancel .one).trans (retireSlot_tells cancel .two)).trans
    (retireSlot_tells cancel .three)).trans (retireSlot_tells cancel .four)

end Tells

/-! ### The sorts of frames a start sends -/

/-- Every frame that a start sends is of the highest class, or no answer. -/
def Behaved (b : TxBody) : Prop := b.cls = 0 ∨ 2 ≤ b.cls

/-- Every frame that a start sends but the switch's own. -/
def BehavedButSwitch (b : TxBody) : Prop := Behaved b ∧ b.key ≠ some .intercomState

theorem behaved_talk (r : IntercomReport) : Behaved (.intercomState r) := .inr le_rfl

/-- The sorts of frames that a start may send. -/
structure AllowsStart (ok : TxBody → Prop) : Prop extends AllowsClose ok where
  event : ∀ x c p n, ok (.holdEvent x c p n)
  cancel : ∀ n, ok (.chargeCancel n)

theorem behaved_allows : AllowsStart Behaved where
  status _ := .inr (by simp [TxBody.cls])
  display _ _ := .inr le_rfl
  report _ _ _ := .inr le_rfl
  event _ _ _ _ := .inl rfl
  cancel _ := .inl rfl

theorem behavedButSwitch_allows : AllowsStart BehavedButSwitch where
  status r := ⟨behaved_allows.status r, by simp [TxBody.key]⟩
  display q d := ⟨behaved_allows.display q d, by simp [TxBody.key]⟩
  report n p x := ⟨behaved_allows.report n p x, by simp [TxBody.key]⟩
  event x c p n := ⟨behaved_allows.event x c p n, by simp [TxBody.key]⟩
  cancel n := ⟨behaved_allows.cancel n, by simp [TxBody.key]⟩

theorem HasPlaced.mono {k n : Nat} {first : Option TxFrame} {q : List TxFrame} (h : HasPlaced k first q)
    (le : k ≤ n) : HasPlaced n first q := by
  obtain ⟨a, b, parts, few, front, back, head⟩ := h
  exact ⟨a, b, parts, few.trans le, front, back, head⟩

/-- A change that sends few urgent frames leaves the queue's front short. -/
theorem Sends.hasPlaced {ok : TxBody → Prop} {k n : Nat} {first : Option TxFrame} {s t : State}
    (h : Sends ok n s t) (placed : HasPlaced k first s.line.queue) (room : k + n < 15)
    (follow : ∀ f : TxFrame, ok f.body → Follower first f) : HasPlaced (k + n) first t.line.queue := by
  obtain ⟨fs, queue, all, count⟩ := h
  rw [queue]
  exact (placed.foldl (by omega) fun f hf => follow f (all f hf)).mono (by omega)

theorem Tells.hasPlaced {k n : Nat} {s t : State} (h : Tells Behaved n s t)
    (placed : HasPlaced k none s.line.queue) (room : k + n < 15) :
    HasPlaced (k + n) none t.line.queue :=
  (h.sends (.inl behaved_talk)).2.hasPlaced placed room fun _ ok =>
    ok.imp_right fun low => ⟨low, fun _ e => by cases e⟩

/-- Every frame of the queue was there before or has been sent. -/
theorem Sends.mem {ok : TxBody → Prop} {n : Nat} {s t : State} (h : Sends ok n s t) {f : TxFrame}
    (mem : f ∈ t.line.queue) : f ∈ s.line.queue ∨ ok f.body := by
  obtain ⟨fs, queue, all, -⟩ := h
  have fold : ∀ (gs : List TxFrame) (q : List TxFrame), f ∈ gs.foldl queued q → f ∈ q ∨ f ∈ gs := by
    intro gs
    induction gs with
    | nil => exact fun q h => .inl h
    | cons g gs ih =>
      intro q h
      rcases ih _ h with old | sent
      · rcases mem_queued old with rfl | old
        · exact .inr List.mem_cons_self
        · exact .inl old
      · exact .inr (List.mem_cons_of_mem _ sent)
  rw [queue] at mem
  exact (fold fs _ mem).imp_right (all f)

end Sys2Proof.Machine

/-! PROOFS. The hold monitor at a load completion: what the raises of the start work leave of the causes, of
HELD and of the trigger record, whatever order they take with the trips' start work (R58, R155, R156, R167). -/

namespace Sys2Proof.Machine

-- One theorem at a time: the memory limit of the check counts the stack of every thread.
set_option Elab.async false

/-! ### A raise in its two forms (R155) -/

/-- A cause's setting is unmasked and of HOLD severity. -/
def Calls (m : Monitor) (c : Cause) : Prop := m.masked.get c = false ∧ m.note.get c = false

theorem holdsNow_iff (s : State) (c : Cause) :
    holdsNow s c = true ↔ s.hold.status.get c = true ∧ Calls s.monitor c := by
  simp [holdsNow, Calls, and_assoc]

/-- HELD once entered stays, with its trigger record and its number; and a part that is not HELD has never
entered. -/
structure HoldKept (s t : State) : Prop where
  held : s.hold.held = true → t.hold.held = true ∧ t.hold.trigger = s.hold.trigger ∧
    t.hold.count = s.hold.count
  running : t.hold.held = false → s.hold.held = false ∧ t.hold.trigger = s.hold.trigger ∧
    t.hold.count = s.hold.count

/-- HELD, the trigger record and its number stand. -/
theorem HoldKept.of_same {s t : State} (held : t.hold.held = s.hold.held)
    (trigger : t.hold.trigger = s.hold.trigger) (count : t.hold.count = s.hold.count) : HoldKept s t :=
  ⟨fun h => ⟨held.trans h, trigger, count⟩, fun h => ⟨held.symm.trans h, trigger, count⟩⟩

theorem HoldKept.of_eq {s t : State} (h : t.hold = s.hold) : HoldKept s t :=
  .of_same (by rw [h]) (by rw [h]) (by rw [h])

theorem HoldKept.trans {s t u : State} (h : HoldKept s t) (k : HoldKept t u) : HoldKept s u where
  held x := by
    obtain ⟨held, trigger, count⟩ := h.held x
    obtain ⟨held', trigger', count'⟩ := k.held held
    exact ⟨held', trigger'.trans trigger, count'.trans count⟩
  running x := by
    obtain ⟨running, trigger, count⟩ := k.running x
    obtain ⟨running', trigger', count'⟩ := h.running running
    exact ⟨running', trigger.trans trigger', count.trans count'⟩

theorem HoldKept.ite {s t u : State} {c : Prop} [Decidable c] (h : HoldKept s t) (k : HoldKept s u) :
    HoldKept s (if c then t else u) := by
  split <;> assumption

/-- A raise that enters HELD. -/
theorem raiseCause_enters {c : Cause} {src : Nat} {s : State} (calls : Calls s.monitor c)
    (running : s.hold.held = false) : raiseCause c src s = enterHeld c src (markRaised c src s) := by
  unfold raiseCause
  dsimp only
  rw [if_neg (by simp [markRaised, calls.1]), if_pos (by simp [markRaised, calls.2, running])]

/-- A raise that enters nothing: it sets the status, and may set a pointer that names no cause. -/
theorem raiseCause_quiet {c : Cause} {src : Nat} {s : State}
    (h : ¬(Calls s.monitor c ∧ s.hold.held = false)) :
    ∃ p, (raiseCause c src s).hold
        = { s.hold with status := s.hold.status.set c true, pointer := p } ∧
      (∀ d, s.hold.pointer = some d → p = some d) ∧
      (raiseCause c src s).line.queue = s.line.queue := by
  unfold raiseCause
  dsimp only
  split
  · exact ⟨s.hold.pointer, rfl, fun _ p => p, rfl⟩
  · next unmasked =>
    split
    · next enters =>
      refine absurd ?_ h
      simpa [markRaised, Calls, and_assoc] using And.intro unmasked enters
    · split
      · next none_ =>
        have none_ : s.hold.pointer = none := none_
        refine ⟨some c, rfl, fun d p => ?_, rfl⟩
        rw [none_] at p
        cases p
      · exact ⟨s.hold.pointer, rfl, fun _ p => p, rfl⟩

theorem enterHeld_kept {c : Cause} {src : Nat} {s : State} (running : s.hold.held = false) :
    HoldKept s (enterHeld c src s) := by
  constructor
  · intro held
    rw [running] at held
    cases held
  · intro left
    rw [enterHeld_hold] at left
    cases left

theorem raiseCause_kept (c : Cause) (src : Nat) (s : State) : HoldKept s (raiseCause c src s) := by
  by_cases h : Calls s.monitor c ∧ s.hold.held = false
  · rw [raiseCause_enters h.1 h.2]
    have marked : HoldKept s (markRaised c src s) := .of_same rfl rfl rfl
    exact marked.trans (enterHeld_kept h.2)
  · obtain ⟨p, hold, -, -⟩ := raiseCause_quiet (src := src) h
    exact .of_same (by rw [hold]) (by rw [hold]) (by rw [hold])

theorem raiseIfPresent_kept (c : Cause) (s : State) : HoldKept s (raiseIfPresent c s) :=
  .ite (raiseCause_kept _ _ s) (.of_eq rfl)

theorem enterIfCalled_kept (s : State) : HoldKept s (enterIfCalled s) := by
  unfold enterIfCalled
  split
  · exact .of_eq rfl
  · next running =>
    split
    · exact enterHeld_kept (by simpa using running)
    · exact .of_eq rfl

theorem causesRaised_kept (s : State) : HoldKept s (causesRaised s) :=
  (((raiseIfPresent_kept _ s).trans (raiseIfPresent_kept _ _)).trans (raiseIfPresent_kept _ _)).trans
    (enterIfCalled_kept _)

theorem causesReported_kept (s : State) : HoldKept s (causesReported s) :=
  .ite (.of_same rfl rfl rfl) (.of_same rfl rfl rfl)

theorem monitorStartWork_kept (s : State) : HoldKept s (monitorStartWork s) :=
  (causesReported_kept s).trans (causesRaised_kept _)

/-! ### The causes (R154, R155, R167) -/

/-- The causes that a start work raises: CONFIG with a rejected image, CLOCK while the clock is invalid,
TAMPER while its input is asserted (R167, step 4). -/
def Present (s : State) (c : Cause) : Prop :=
  c = .config ∧ s.tariff.good = false ∨ c = .clock ∧ s.clock.valid = false ∨
    c = .tamper ∧ s.pins.tamper = true

/-- The conditions as a start work finds them (R167, step 2). -/
def conditionsOf (s : State) : PerCause Bool :=
  { causesOf false with config := !s.tariff.good, clock := !s.clock.valid, tamper := s.pins.tamper }

theorem causesReported_monitor (s : State) :
    (causesReported s).monitor = { s.monitor with condition := conditionsOf s } := by
  unfold causesReported
  dsimp only
  split <;> rfl

theorem causesReported_status (s : State) :
    (causesReported s).hold.status =
      if s.tariff.good then s.hold.status.set .config false else s.hold.status := by
  unfold causesReported
  dsimp only
  change (if s.tariff.good then clearStatus .config (startConditions s) else startConditions s).hold.status
    = _
  split <;> rfl

/-- A raise where the condition is present, in the monitor's own terms. -/
theorem raiseIfPresent_monitor (c : Cause) (s : State) :
    (raiseIfPresent c s).monitor.condition = s.monitor.condition ∧
      (raiseIfPresent c s).monitor.masked = s.monitor.masked ∧
      (raiseIfPresent c s).monitor.note = s.monitor.note ∧
      (raiseIfPresent c s).monitor.lastSource =
        if s.monitor.condition.get c then s.monitor.lastSource.set c s.tariff.own
        else s.monitor.lastSource := by
  unfold raiseIfPresent
  split
  · rw [raiseCause_monitor]
    exact ⟨rfl, rfl, rfl, rfl⟩
  · exact ⟨rfl, rfl, rfl, rfl⟩

theorem raiseIfPresent_status (c : Cause) (s : State) :
    (raiseIfPresent c s).hold.status =
      if s.monitor.condition.get c then s.hold.status.set c true else s.hold.status := by
  unfold raiseIfPresent
  split
  · exact raiseCause_status _ _ s
  · rfl

theorem raiseIfPresent_held (c : Cause) (s : State) :
    (raiseIfPresent c s).hold.held = true ↔
      s.hold.held = true ∨ s.monitor.condition.get c = true ∧ Calls s.monitor c := by
  unfold raiseIfPresent
  split
  · next present => simp [raiseCause_held, Calls, present]
  · next absent => simp [absent]

/-- The three raises of the start work, in their order (R167, step 4). -/
def threeRaised (s : State) : State :=
  raiseIfPresent .tamper (raiseIfPresent .clock (raiseIfPresent .config s))

theorem causesRaised_eq (s : State) : causesRaised s = enterIfCalled (threeRaised s) := rfl

theorem threeRaised_monitor (s : State) :
    (threeRaised s).monitor.condition = s.monitor.condition ∧
      (threeRaised s).monitor.masked = s.monitor.masked ∧
      (threeRaised s).monitor.note = s.monitor.note := by
  obtain ⟨c1, m1, n1, -⟩ := raiseIfPresent_monitor .config s
  obtain ⟨c2, m2, n2, -⟩ := raiseIfPresent_monitor .clock (raiseIfPresent .config s)
  obtain ⟨c3, m3, n3, -⟩ := raiseIfPresent_monitor .tamper (raiseIfPresent .clock (raiseIfPresent .config s))
  exact ⟨c3.trans (c2.trans c1), m3.trans (m2.trans m1), n3.trans (n2.trans n1)⟩

theorem raiseIfPresent_tariff (c : Cause) (s : State) : (raiseIfPresent c s).tariff = s.tariff :=
  raiseIfPresent_frame c s .tariff (by decide)

/-- A condition that is none of the three is absent. -/
def OnlyThree (m : Monitor) : Prop :=
  ∀ c, m.condition.get c = true → c = .config ∨ c = .clock ∨ c = .tamper

theorem threeRaised_status {s : State} (three : OnlyThree s.monitor) (c : Cause) :
    (threeRaised s).hold.status.get c = true ↔
      s.monitor.condition.get c = true ∨ s.hold.status.get c = true := by
  have c1 := (raiseIfPresent_monitor .config s).1
  have c2 := (raiseIfPresent_monitor .clock (raiseIfPresent .config s)).1.trans c1
  have set : ∀ (d : Cause) (v : PerCause Bool),
      (if s.monitor.condition.get d then v.set d true else v).get c = true ↔
        (c = d ∧ s.monitor.condition.get d = true) ∨ v.get c = true := fun d v => by
    split
    · next present =>
      rw [PerCause.get_set]
      split <;> simp_all
    · next absent => simp [absent]
  unfold threeRaised
  rw [raiseIfPresent_status, c2, set, raiseIfPresent_status, c1, set, raiseIfPresent_status, set]
  constructor
  · rintro (⟨rfl, h⟩ | ⟨rfl, h⟩ | ⟨rfl, h⟩ | h)
    · exact .inl h
    · exact .inl h
    · exact .inl h
    · exact .inr h
  · rintro (h | h)
    · rcases three c h with rfl | rfl | rfl
      · exact .inr (.inr (.inl ⟨rfl, h⟩))
      · exact .inr (.inl ⟨rfl, h⟩)
      · exact .inl ⟨rfl, h⟩
    · exact .inr (.inr (.inr h))

theorem calls_congr {m n : Monitor} (masked : n.masked = m.masked) (note : n.note = m.note) (c : Cause) :
    Calls n c ↔ Calls m c := by
  rw [Calls, Calls, masked, note]

theorem threeRaised_held {s : State} (three : OnlyThree s.monitor) :
    (threeRaised s).hold.held = true ↔
      s.hold.held = true ∨ ∃ c, s.monitor.condition.get c = true ∧ Calls s.monitor c := by
  obtain ⟨c1, m1, n1, -⟩ := raiseIfPresent_monitor .config s
  obtain ⟨c2, m2, n2, -⟩ := raiseIfPresent_monitor .clock (raiseIfPresent .config s)
  unfold threeRaised
  rw [raiseIfPresent_held, raiseIfPresent_held, raiseIfPresent_held, c2, c1,
    calls_congr (m2.trans m1) (n2.trans n1), calls_congr m1 n1]
  constructor
  · rintro (((h | h) | h) | h)
    · exact .inl h
    · exact .inr ⟨_, h⟩
    · exact .inr ⟨_, h⟩
    · exact .inr ⟨_, h⟩
  · rintro (h | ⟨c, h, calls⟩)
    · exact .inl (.inl (.inl h))
    · rcases three c h with rfl | rfl | rfl
      · exact .inl (.inl (.inr ⟨h, calls⟩))
      · exact .inl (.inr ⟨h, calls⟩)
      · exact .inr ⟨h, calls⟩

/-- A raise of a condition present leaves the CF-14's own address as its cause's last source, and another
raise leaves it there. -/
theorem raiseIfPresent_source {c d : Cause} {s : State}
    (h : c = d ∧ s.monitor.condition.get c = true ∨ s.monitor.lastSource.get c = s.tariff.own) :
    (raiseIfPresent d s).monitor.lastSource.get c = s.tariff.own := by
  rw [(raiseIfPresent_monitor d s).2.2.2]
  split
  · rw [PerCause.get_set]
    split
    · rfl
    · next other => exact h.resolve_left fun same => other same.1
  · next absent =>
    refine h.resolve_left fun ⟨same, present⟩ => absent ?_
    rwa [← same]

theorem threeRaised_source {s : State} (three : OnlyThree s.monitor) {c : Cause}
    (present : s.monitor.condition.get c = true) :
    (threeRaised s).monitor.lastSource.get c = s.tariff.own := by
  have conditions1 := (raiseIfPresent_monitor .config s).1
  have conditions2 := (raiseIfPresent_monitor .clock (raiseIfPresent .config s)).1.trans conditions1
  have tariff1 := raiseIfPresent_tariff .config s
  have tariff2 := (raiseIfPresent_tariff .clock (raiseIfPresent .config s)).trans tariff1
  rw [← tariff2]
  refine raiseIfPresent_source ?_
  rw [tariff2, conditions2]
  refine (three c present).elim (fun config => .inr ?_) fun later => later.elim (fun clock => .inr ?_)
    fun tamper => .inl ⟨tamper, present⟩
  · rw [← tariff1]
    refine raiseIfPresent_source (.inr ?_)
    rw [tariff1]
    exact raiseIfPresent_source (.inl ⟨config, present⟩)
  · rw [← tariff1]
    refine raiseIfPresent_source (.inl ⟨clock, ?_⟩)
    rwa [conditions1]

theorem enterIfCalled_status (s : State) : (enterIfCalled s).hold.status = s.hold.status := by
  unfold enterIfCalled
  split
  · rfl
  · split
    · rw [enterHeld_hold]
    · rfl

theorem enterIfCalled_monitor (s : State) : (enterIfCalled s).monitor = s.monitor := by
  unfold enterIfCalled
  split
  · rfl
  · split
    · exact enterHeld_monitor _ _ s
    · rfl

theorem mem_allCauses (c : Cause) : c ∈ allCauses := by cases c <;> decide

theorem enterIfCalled_held (s : State) :
    (enterIfCalled s).hold.held = true ↔ s.hold.held = true ∨ ∃ c, holdsNow s c = true := by
  unfold enterIfCalled
  split
  · next held => simp [held]
  · next running =>
    split
    · next c found =>
      have := List.find?_some found
      rw [enterHeld_hold]
      simp only [true_iff]
      exact .inr ⟨c, this⟩
    · next none_ =>
      rw [List.find?_eq_none] at none_
      constructor
      · exact fun h => .inl h
      · rintro (h | ⟨c, h⟩)
        · exact h
        · exact absurd h (none_ c (mem_allCauses c))

/-! ### The monitor's start work in one statement -/

theorem conditionsOf_iff (s : State) (c : Cause) : (conditionsOf s).get c = true ↔ Present s c := by
  cases c <;> simp [conditionsOf, Present, PerCause.get, causesOf]

/-- The statuses that a start work leaves: those of the conditions present, and every other but CONFIG's
(R167, steps 3 and 4). -/
def StandsAfter (s : State) (c : Cause) : Prop :=
  Present s c ∨ c ≠ .config ∧ s.hold.status.get c = true

theorem onlyThree_reported (s : State) : OnlyThree (causesReported s).monitor := by
  intro c h
  rw [causesReported_monitor, conditionsOf_iff] at h
  exact h.imp And.left (Or.imp And.left And.left)

theorem monitorStartWork_status (s : State) (c : Cause) :
    (monitorStartWork s).hold.status.get c = true ↔ StandsAfter s c := by
  rw [monitorStartWork_eq, causesRaised_eq, enterIfCalled_status,
    threeRaised_status (onlyThree_reported s), causesReported_monitor, conditionsOf_iff,
    causesReported_status, StandsAfter]
  refine or_congr_right' fun absent => ?_
  cases good : s.tariff.good with
  | true =>
    rw [if_pos rfl, PerCause.get_set]
    split <;> simp_all
  | false =>
    rw [if_neg (by decide)]
    have other : c ≠ .config := fun e => absent (.inl ⟨e, good⟩)
    simp [other]

theorem monitorStartWork_monitor (s : State) :
    (monitorStartWork s).monitor.condition = conditionsOf s ∧
      (monitorStartWork s).monitor.masked = s.monitor.masked ∧
      (monitorStartWork s).monitor.note = s.monitor.note := by
  rw [monitorStartWork_eq, causesRaised_eq, enterIfCalled_monitor]
  obtain ⟨condition, masked, note⟩ := threeRaised_monitor (causesReported s)
  rw [condition, masked, note, causesReported_monitor]
  exact ⟨rfl, rfl, rfl⟩

theorem causesReported_tariff (s : State) : (causesReported s).tariff = s.tariff := by
  unfold causesReported
  dsimp only
  split <;> rfl

theorem monitorStartWork_source {s : State} {c : Cause} (present : Present s c) :
    (monitorStartWork s).monitor.lastSource.get c = s.tariff.own := by
  rw [monitorStartWork_eq, causesRaised_eq, enterIfCalled_monitor,
    threeRaised_source (onlyThree_reported s), causesReported_tariff]
  rw [causesReported_monitor]
  exact (conditionsOf_iff s c).2 present

/-- The part is HELD after the monitor's start work exactly if it was, or a cause that then stands calls
(R155, R167). -/
theorem monitorStartWork_held (s : State) :
    (monitorStartWork s).hold.held = true ↔
      s.hold.held = true ∨ ∃ c, StandsAfter s c ∧ Calls s.monitor c := by
  have three := onlyThree_reported s
  obtain ⟨-, masked, note⟩ := threeRaised_monitor (causesReported s)
  have monitor := causesReported_monitor s
  have kept : (causesReported s).hold.held = s.hold.held := by
    unfold causesReported
    dsimp only
    split <;> rfl
  have status : ∀ c, (threeRaised (causesReported s)).hold.status.get c = true ↔ StandsAfter s c :=
    fun c => by rw [← monitorStartWork_status, monitorStartWork_eq, causesRaised_eq, enterIfCalled_status]
  have calls : ∀ c, Calls (causesReported s).monitor c ↔ Calls s.monitor c :=
    fun c => by rw [monitor]; exact Iff.rfl
  rw [monitorStartWork_eq, causesRaised_eq, enterIfCalled_held, threeRaised_held three, kept]
  simp only [holdsNow_iff, status, calls_congr masked note, calls]
  constructor
  · rintro ((held | ⟨c, present, hc⟩) | called)
    · exact .inl held
    · rw [monitor, conditionsOf_iff] at present
      exact .inr ⟨c, .inl present, hc⟩
    · exact .inr called
  · rintro (held | called)
    · exact .inl (.inl held)
    · exact .inr called

/-! ### The entry to HELD (R156) -/

/-- The frame of an entry to HELD. -/
def entryFrame (c : Cause) (src : Nat) : TxFrame :=
  { dest := broadcast, answer := false, body := .holdEvent false (some c) (some c) src }

/-- The part entered HELD by a cause at a clock, the hold after so many, and its HOLD_EVENT is queued if it
found room. -/
structure Tripped (room : Prop) (c : Cause) (src n : Nat) (clock : Clock) (t : State) : Prop where
  held : t.hold.held = true
  pointer : t.hold.pointer = some c
  count : t.hold.count = min max24 (n + 1)
  trigger : t.hold.trigger = { cause := some c, source := src, time := clock.time,
                               valid := clock.valid, number := min max24 (n + 1) }
  event : room → entryFrame c src ∈ t.line.queue

theorem mem_queued_of_top {q : List TxFrame} {f g : TxFrame} (h : g ∈ q) (top : g.body.cls = 0) :
    g ∈ queued q f := by
  have := mem_enqueue_of_top (f := f) (s := setQueue State.reset q) h top (key_of_top top)
  rwa [enqueue_queue] at this

theorem mem_foldl_queued_of_top {q fs : List TxFrame} {g : TxFrame} (h : g ∈ q) (top : g.body.cls = 0) :
    g ∈ fs.foldl queued q := by
  induction fs generalizing q with
  | nil => exact h
  | cons f fs ih => exact ih (mem_queued_of_top h top)

theorem Tells.mem_of_top {k : Nat} {s t : State} {g : TxFrame} (h : Tells Behaved k s t)
    (mem : g ∈ s.line.queue) (top : g.body.cls = 0) : g ∈ t.line.queue := by
  obtain ⟨-, fs, queue, -, -⟩ := h.sends (.inl behaved_talk)
  rw [queue]
  exact mem_foldl_queued_of_top mem top

/-- What leaves the hold state keeps the entry, whatever it sends. -/
theorem Tripped.of_tells {room : Prop} {c : Cause} {src n k : Nat} {clock : Clock} {s t : State}
    (h : Tripped room c src n clock s) (hold : t.hold = s.hold) (tells : Tells Behaved k s t) :
    Tripped room c src n clock t :=
  ⟨hold ▸ h.held, hold ▸ h.pointer, hold ▸ h.count, hold ▸ h.trigger, fun free => tells.mem_of_top (h.event free) rfl⟩

/-- A later raise finds the part HELD. -/
theorem Tripped.raise {room : Prop} {c d : Cause} {src src' n : Nat} {clock : Clock} {s : State}
    (h : Tripped room c src n clock s) : Tripped room c src n clock (raiseCause d src' s) := by
  obtain ⟨p, hold, pointer, queue⟩ := raiseCause_quiet (c := d) (src := src') (s := s)
    (fun x => by rw [h.held] at x; cases x.2)
  refine ⟨?_, ?_, ?_, ?_, fun free => queue ▸ h.event free⟩ <;> rw [hold]
  · exact h.held
  · exact pointer c h.pointer
  · exact h.count
  · exact h.trigger

theorem Tripped.raiseIfPresent {room : Prop} {c d : Cause} {src n : Nat} {clock : Clock} {s : State}
    (h : Tripped room c src n clock s) : Tripped room c src n clock (raiseIfPresent d s) := by
  unfold Machine.raiseIfPresent
  split
  · exact h.raise
  · exact h

theorem Tripped.enterIfCalled {room : Prop} {c : Cause} {src n : Nat} {clock : Clock} {s : State}
    (h : Tripped room c src n clock s) : Tripped room c src n clock (enterIfCalled s) := by
  unfold Machine.enterIfCalled
  rw [if_pos h.held]
  exact h

/-- An entry to HELD that finds few urgent frames queued. -/
theorem enterHeld_trips {room : Prop} {c : Cause} {src k : Nat} {s : State} (few : k < 15)
    (placed : room → HasPlaced k none s.line.queue) :
    Tripped room c src s.hold.count s.clock (enterHeld c src s) := by
  refine ⟨?_, ?_, ?_, ?_, ?_⟩
  · rw [enterHeld_hold]
  · rw [enterHeld_hold]
  · rw [enterHeld_hold]
  · rw [enterHeld_hold]
  · intro free
    have after : ∀ u, Tells Behaved 0 u (countHold (computeSign (queueStatus u))) := fun u =>
      ((queueStatus_tells behaved_allows.status).trans computeSign_tells).trans countHold_tells
    refine (after (send broadcast (.holdEvent false (some c) (some c) src) _)).mem_of_top ?_ rfl
    rw [send, enqueue_queue]
    exact (placed free).mem_queued few rfl

/-- What a raise that enters nothing leaves, so far as a later entry depends on it. -/
structure Waits (s t : State) : Prop where
  held : t.hold.held = s.hold.held
  count : t.hold.count = s.hold.count
  clock : t.clock = s.clock
  tariff : t.tariff = s.tariff
  condition : t.monitor.condition = s.monitor.condition
  masked : t.monitor.masked = s.monitor.masked
  note : t.monitor.note = s.monitor.note
  queue : t.line.queue = s.line.queue

theorem Waits.refl (s : State) : Waits s s := by constructor <;> rfl

theorem Waits.trans {s t u : State} (h : Waits s t) (k : Waits t u) : Waits s u where
  held := k.held.trans h.held
  count := k.count.trans h.count
  clock := k.clock.trans h.clock
  tariff := k.tariff.trans h.tariff
  condition := k.condition.trans h.condition
  masked := k.masked.trans h.masked
  note := k.note.trans h.note
  queue := k.queue.trans h.queue

theorem raiseCause_waits {c : Cause} {src : Nat} {s : State}
    (h : ¬(Calls s.monitor c ∧ s.hold.held = false)) : Waits s (raiseCause c src s) := by
  obtain ⟨p, hold, -, queue⟩ := raiseCause_quiet (src := src) h
  have raise := raiseCause_raise c src s
  refine ⟨?_, ?_, raise.clock, raise.tariff, ?_, ?_, ?_, queue⟩
  · rw [hold]
  · rw [hold]
  all_goals rw [raiseCause_monitor]

/-- A condition of a cause that calls is present: its raise enters HELD (R155). -/
def Trips (s : State) (c : Cause) : Prop := s.monitor.condition.get c = true ∧ Calls s.monitor c

theorem Waits.trips {s t : State} (h : Waits s t) (c : Cause) : Trips t c ↔ Trips s c := by
  rw [Trips, Trips, h.condition, calls_congr h.masked h.note]

theorem raiseIfPresent_waits {c : Cause} {s : State} (h : ¬Trips s c) : Waits s (raiseIfPresent c s) := by
  unfold raiseIfPresent
  split
  · next present => exact raiseCause_waits fun x => h ⟨present, x.1⟩
  · exact .refl s

theorem raiseIfPresent_trips {room : Prop} {c : Cause} {k : Nat} {s : State} (h : Trips s c)
    (running : s.hold.held = false) (few : k < 15) (placed : room → HasPlaced k none s.line.queue) :
    Tripped room c s.tariff.own s.hold.count s.clock (raiseIfPresent c s) := by
  unfold raiseIfPresent
  rw [if_pos h.1, raiseCause_enters h.2 running]
  exact enterHeld_trips (s := markRaised c s.tariff.own s) few placed

/-- The lowest-numbered cause with a property. -/
theorem find_lowest {p : Cause → Bool} {c : Cause} (h : p c = true)
    (lower : ∀ d, d.number < c.number → p d = false) : allCauses.find? p = some c := by
  have parts : allCauses = allCauses.take c.number ++ c :: allCauses.drop (c.number + 1) := by
    cases c <;> rfl
  have below : ∀ d ∈ allCauses.take c.number, d.number < c.number := by
    cases c <;> decide
  rw [parts, List.find?_append, List.find?_eq_none.2, Option.none_or, List.find?_cons_of_pos h]
  intro d hd
  rw [lower d (below d hd)]
  decide

/-- The cause by which the monitor's start work enters HELD (R155, R167): the first of CONFIG, CLOCK and
TAMPER whose raise enters, else the lowest-numbered one that stands and calls. -/
def EntersBy (s : State) (c : Cause) : Prop :=
  Trips s c ∧ (c = .config ∨ c = .clock ∧ ¬Trips s .config ∨
    c = .tamper ∧ ¬Trips s .config ∧ ¬Trips s .clock) ∨
  (∀ d, ¬Trips s d) ∧ holdsNow s c = true ∧ ∀ d, d.number < c.number → holdsNow s d = false

theorem causesRaised_trips {room : Prop} {c : Cause} {k : Nat} {s : State} (three : OnlyThree s.monitor)
    (h : EntersBy s c) (running : s.hold.held = false) (few : k < 15)
    (placed : room → HasPlaced k none s.line.queue) :
    Tripped room c s.tariff.own s.hold.count s.clock (causesRaised s) := by
  unfold causesRaised
  rcases h with ⟨trips, rfl | ⟨rfl, noConfig⟩ | ⟨rfl, noConfig, noClock⟩⟩ | ⟨none_, now, lower⟩
  · exact (raiseIfPresent_trips trips running few placed).raiseIfPresent.raiseIfPresent.enterIfCalled
  · have one := raiseIfPresent_waits noConfig
    have := raiseIfPresent_trips ((one.trips _).2 trips) (one.held.trans running) few
      (fun free => one.queue ▸ placed free)
    rw [one.tariff, one.count, one.clock] at this
    exact this.raiseIfPresent.enterIfCalled
  · have one := raiseIfPresent_waits noConfig
    have two := one.trans (raiseIfPresent_waits (fun x => noClock ((one.trips _).1 x)))
    have := raiseIfPresent_trips ((two.trips _).2 trips) (two.held.trans running) few
      (fun free => two.queue ▸ placed free)
    rw [two.tariff, two.count, two.clock] at this
    exact this.enterIfCalled
  · have one := raiseIfPresent_waits (none_ .config)
    have two := one.trans (raiseIfPresent_waits (c := .clock) (fun x => none_ _ ((one.trips _).1 x)))
    have waits : Waits s (threeRaised s) :=
      two.trans (raiseIfPresent_waits (c := .tamper) (fun x => none_ _ ((two.trips _).1 x)))
    have same : holdsNow (threeRaised s) = holdsNow s := by
      funext d
      rw [Bool.eq_iff_iff, holdsNow_iff, holdsNow_iff, calls_congr waits.masked waits.note,
        threeRaised_status three]
      refine and_congr_left fun calls => ?_
      have : ¬ s.monitor.condition.get d = true := fun present => none_ d ⟨present, calls⟩
      simp [this]
    have found : allCauses.find? (holdsNow (threeRaised s)) = some c := by
      rw [same]
      exact find_lowest now lower
    change Tripped room c _ _ _ (enterIfCalled (threeRaised s))
    unfold enterIfCalled
    rw [if_neg (by rw [waits.held, running]; decide), found]
    dsimp only
    have := enterHeld_trips (c := c) (src := s.tariff.own) (s := threeRaised s) few
      (fun free : room => waits.queue ▸ placed free)
    rw [waits.count, waits.clock] at this
    rw [waits.tariff]
    exact this

/-- The cause by which the monitor's start work enters HELD, in terms of the state that it finds. -/
def EntersAfter (s : State) (c : Cause) : Prop :=
  Calls s.monitor c ∧
    (c = .config ∧ Present s .config ∨
      c = .clock ∧ Present s .clock ∧ ¬(Present s .config ∧ Calls s.monitor .config) ∨
      c = .tamper ∧ Present s .tamper ∧ ¬(Present s .config ∧ Calls s.monitor .config) ∧
        ¬(Present s .clock ∧ Calls s.monitor .clock) ∨
      (∀ d, ¬(Present s d ∧ Calls s.monitor d)) ∧ StandsAfter s c ∧
        ∀ d, d.number < c.number → ¬(StandsAfter s d ∧ Calls s.monitor d))

/-- The entry depends on the conditions present, on the settings, and on what stands and calls. -/
theorem EntersAfter.congr {s t : State} {c : Cause} (present : ∀ d, Present t d ↔ Present s d)
    (calls : ∀ d, Calls t.monitor d ↔ Calls s.monitor d)
    (stands : ∀ d, StandsAfter t d ∧ Calls t.monitor d ↔ StandsAfter s d ∧ Calls s.monitor d)
    (h : EntersAfter s c) : EntersAfter t c := by
  obtain ⟨called, config | clock | tamper | ⟨none_, standing, lower⟩⟩ := h
  · exact ⟨(calls c).2 called, .inl (by simpa only [present] using config)⟩
  · exact ⟨(calls c).2 called, .inr (.inl (by simpa only [present, calls] using clock))⟩
  · exact ⟨(calls c).2 called, .inr (.inr (.inl (by simpa only [present, calls] using tamper)))⟩
  · refine ⟨(calls c).2 called, .inr (.inr (.inr ⟨fun d => ?_, ((stands c).2 ⟨standing, called⟩).1,
      fun d lt => ?_⟩))⟩
    · rw [present, calls]
      exact none_ d
    · rw [stands]
      exact lower d lt

theorem reported_trips_iff (s : State) (c : Cause) :
    Trips (causesReported s) c ↔ Present s c ∧ Calls s.monitor c := by
  rw [Trips, causesReported_monitor, conditionsOf_iff]
  exact Iff.rfl

/-- While no condition present calls, what calls of the statuses stands after the raises as before them. -/
theorem reported_holdsNow_iff {s : State} (none_ : ∀ d, ¬(Present s d ∧ Calls s.monitor d)) (c : Cause) :
    holdsNow (causesReported s) c = true ↔ StandsAfter s c ∧ Calls s.monitor c := by
  have three := onlyThree_reported s
  have calls : Calls (causesReported s).monitor c ↔ Calls s.monitor c := by
    rw [causesReported_monitor]
    exact Iff.rfl
  rw [holdsNow_iff, calls]
  refine and_congr_left fun called => ?_
  rw [← monitorStartWork_status, monitorStartWork_eq, causesRaised_eq, enterIfCalled_status,
    threeRaised_status three, causesReported_monitor, conditionsOf_iff]
  have absent : ¬ Present s c := fun present => none_ c ⟨present, called⟩
  simp [absent]

theorem EntersAfter.reported {s : State} {c : Cause} (h : EntersAfter s c) :
    EntersBy (causesReported s) c := by
  obtain ⟨calls, ⟨rfl, present⟩ | ⟨rfl, present, noConfig⟩ | ⟨rfl, present, noConfig, noClock⟩ |
    ⟨none_, stands, lower⟩⟩ := h
  · exact .inl ⟨(reported_trips_iff s _).2 ⟨present, calls⟩, .inl rfl⟩
  · exact .inl ⟨(reported_trips_iff s _).2 ⟨present, calls⟩,
      .inr (.inl ⟨rfl, fun x => noConfig ((reported_trips_iff s _).1 x)⟩)⟩
  · exact .inl ⟨(reported_trips_iff s _).2 ⟨present, calls⟩,
      .inr (.inr ⟨rfl, fun x => noConfig ((reported_trips_iff s _).1 x),
        fun x => noClock ((reported_trips_iff s _).1 x)⟩)⟩
  · refine .inr ⟨fun d x => none_ d ((reported_trips_iff s d).1 x),
      (reported_holdsNow_iff none_ c).2 ⟨stands, calls⟩, fun d lt => Bool.eq_false_iff.2 fun x => ?_⟩
    exact lower d lt ((reported_holdsNow_iff none_ d).1 x)

theorem causesReported_waits (s : State) :
    (causesReported s).hold.held = s.hold.held ∧ (causesReported s).hold.count = s.hold.count ∧
      (causesReported s).clock = s.clock ∧ (causesReported s).line = s.line := by
  unfold causesReported
  dsimp only
  split <;> exact ⟨rfl, rfl, rfl, rfl⟩

theorem monitorStartWork_trips {room : Prop} {c : Cause} {k : Nat} {s : State} (h : EntersAfter s c)
    (running : s.hold.held = false) (few : k < 15) (placed : room → HasPlaced k none s.line.queue) :
    Tripped room c s.tariff.own s.hold.count s.clock (monitorStartWork s) := by
  obtain ⟨held, count, clock, line⟩ := causesReported_waits s
  have := causesRaised_trips (onlyThree_reported s) h.reported (held.trans running) few
    (fun free : room => line ▸ placed free)
  rwa [causesReported_tariff, count, clock] at this

end Sys2Proof.Machine

/-! PROOFS. The start work on retained items as a whole: the monitor's part and the trips' part in either
order, with what they leave of the causes, of HELD and of the queue (R57, R58, R119, R167). -/

namespace Sys2Proof.Machine

-- One theorem at a time: the memory limit of the check counts the stack of every thread.
set_option Elab.async false

/-! ### The trips' part -/

/-- What the trips' start work may change beside its raise of BREAK. -/
def turnParts : List Part := .draws :: passParts

/-- A change within those parts that sends a start's frames, so many of them urgent. -/
structure Turned (k : Nat) (s t : State) : Prop where
  frame : Frame turnParts s t
  tells : Tells Behaved k s t

/-- The trips' start work: the seats turned, BREAK raised if a fare was open, the slots emptied (R57, R58,
R119). -/
def TripWork (b : Bool) (s t : State) : Prop := ∃ v, Turned 0 s v ∧ Turned 4 (raiseBreak b v) t

theorem Turned.refl (k : Nat) (s : State) : Turned k s s :=
  ⟨.refl _ s, (Tells.refl s).mono (Nat.zero_le k)⟩

theorem Turned.trans {k n : Nat} {s t u : State} (h : Turned k s t) (j : Turned n t u) :
    Turned (k + n) s u := ⟨h.frame.trans j.frame, h.tells.trans j.tells⟩

theorem TripWork.of_turned {s t : State} (h : Turned 0 s t) : TripWork false s t := ⟨t, h, .refl 4 t⟩

theorem warmStartSeats_turned (s : State) : Turned 0 s (warmStartSeats s) :=
  ⟨(warmStartSeats_frame s).mono, warmStartSeats_tells behaved_allows.toAllowsClose⟩

theorem resumeTrips_work (s : State) : TripWork (s.seats.any openFare) s (resumeTrips s) :=
  ⟨warmStartSeats s, warmStartSeats_turned s,
    ⟨(retireSlots_frame _).mono, retireSlots_tells behaved_allows.cancel⟩⟩

section Turned

variable {k : Nat} {s t : State}

theorem Turned.hold (h : Turned k s t) : t.hold = s.hold := h.frame .hold (by decide)

theorem Turned.monitor (h : Turned k s t) : t.monitor = s.monitor := h.frame .monitor (by decide)

theorem Turned.clock (h : Turned k s t) : t.clock = s.clock := h.frame .clock (by decide)

theorem Turned.tariff (h : Turned k s t) : t.tariff = s.tariff := h.frame .tariff (by decide)

theorem Turned.pins (h : Turned k s t) : t.pins = s.pins := h.frame .pins (by decide)

end Turned

theorem raiseBreak_raise (b : Bool) (s : State) : RaiseOnly s (raiseBreak b s) := by
  unfold raiseBreak
  split
  · exact raiseCause_raise _ _ s
  · exact .refl s

section TripWork

variable {b : Bool} {s t : State}

theorem TripWork.clock (h : TripWork b s t) : t.clock = s.clock := by
  obtain ⟨v, before, after⟩ := h
  exact after.clock.trans ((raiseBreak_raise b v).clock.trans before.clock)

theorem TripWork.tariff (h : TripWork b s t) : t.tariff = s.tariff := by
  obtain ⟨v, before, after⟩ := h
  exact after.tariff.trans ((raiseBreak_raise b v).tariff.trans before.tariff)

theorem TripWork.pins (h : TripWork b s t) : t.pins = s.pins := by
  obtain ⟨v, before, after⟩ := h
  exact after.pins.trans ((raiseBreak_raise b v).pins.trans before.pins)

theorem TripWork.status (h : TripWork b s t) (c : Cause) :
    t.hold.status.get c = true ↔ s.hold.status.get c = true ∨ c = .brk ∧ b = true := by
  obtain ⟨v, before, after⟩ := h
  rw [after.hold, ← before.hold]
  unfold raiseBreak
  split
  · next broken =>
    rw [raiseCause_status, PerCause.get_set]
    split <;> simp_all
  · next whole => simp [whole]

theorem TripWork.kept (h : TripWork b s t) : HoldKept s t := by
  obtain ⟨v, before, after⟩ := h
  refine (HoldKept.of_eq before.hold).trans (HoldKept.trans ?_ (.of_eq after.hold))
  exact .ite (raiseCause_kept _ _ v) (.of_eq rfl)

theorem TripWork.held (h : TripWork b s t) :
    t.hold.held = true ↔ s.hold.held = true ∨ b = true ∧ Calls s.monitor .brk := by
  obtain ⟨v, before, after⟩ := h
  rw [after.hold, ← before.hold, ← before.monitor]
  unfold raiseBreak
  split
  · next broken => simp [raiseCause_held, Calls, broken]
  · next whole => simp [whole]

/-- The trips' work changes of the monitor's main-domain items BREAK's last source alone. -/
theorem TripWork.monitor (h : TripWork b s t) :
    t.monitor.condition = s.monitor.condition ∧ t.monitor.masked = s.monitor.masked ∧
      t.monitor.note = s.monitor.note ∧
      ∀ c, c ≠ .brk → t.monitor.lastSource.get c = s.monitor.lastSource.get c := by
  obtain ⟨v, before, after⟩ := h
  rw [after.monitor, ← before.monitor]
  unfold raiseBreak
  split
  · rw [raiseCause_monitor]
    refine ⟨rfl, rfl, rfl, fun c other => ?_⟩
    rw [PerCause.get_set, if_neg other]
  · exact ⟨rfl, rfl, rfl, fun _ _ => rfl⟩

theorem TripWork.calls (h : TripWork b s t) (c : Cause) : Calls t.monitor c ↔ Calls s.monitor c := by
  obtain ⟨-, masked, note, -⟩ := h.monitor
  exact calls_congr masked note c

theorem TripWork.present (h : TripWork b s t) (c : Cause) : Present t c ↔ Present s c := by
  rw [Present, Present, h.tariff, h.clock, h.pins]

theorem TripWork.standsAfter (h : TripWork b s t) (c : Cause) :
    StandsAfter t c ↔ StandsAfter s c ∨ c = .brk ∧ b = true := by
  rw [StandsAfter, StandsAfter, h.present, h.status]
  constructor
  · rintro (present | ⟨other, status | broken⟩)
    · exact .inl (.inl present)
    · exact .inl (.inr ⟨other, status⟩)
    · exact .inr broken
  · rintro ((present | ⟨other, status⟩) | ⟨rfl, broken⟩)
    · exact .inl present
    · exact .inr ⟨other, .inl status⟩
    · exact .inr ⟨by decide, .inr ⟨rfl, broken⟩⟩

theorem TripWork.tells (h : TripWork b s t) : Tells Behaved 5 s t := by
  obtain ⟨v, before, after⟩ := h
  have raised : Tells Behaved 1 v (raiseBreak b v) :=
    .ite (raiseCause_tells behaved_allows.status behaved_allows.event _ _)
      ((Tells.refl v).mono (by omega))
  exact (before.tells.trans raised).trans after.tells

theorem Tripped.tripWork {room : Prop} {c : Cause} {src n : Nat} {clock : Clock} (h : TripWork b s t)
    (k : Tripped room c src n clock s) : Tripped room c src n clock t := by
  obtain ⟨v, before, after⟩ := h
  have raised : Tripped room c src n clock (raiseBreak b v) := by
    have turned := k.of_tells before.hold before.tells
    unfold raiseBreak
    split
    · exact turned.raise
    · exact turned
  exact raised.of_tells after.hold after.tells

end TripWork

/-! ### Both parts, in either order -/

/-- A warm start that found an open fare (R58). -/
def broken (s : State) : Bool := decide (s.start.kind = .warm) && s.seats.any openFare

/-- The monitor's part comes last, or the trips' part does (R5; notes/assumptions/7.md). -/
inductive RetainedOrder (s : State) : State → Prop
  | monitorLast (v : State) (work : TripWork (broken s) s v) : RetainedOrder s (monitorStartWork v)
  | tripsLast (v t : State) (turned : Turned 0 s v) (work : TripWork (broken s) (monitorStartWork v) t) :
      RetainedOrder s t

theorem retainedWork_order (s : State) : RetainedOrder s (retainedWork s) := by
  have drawn : Turned 0 s (s.setDraws (s.draws + 1)) := ⟨(setDraws_frame s _).mono, .of_eq rfl rfl rfl⟩
  unfold retainedWork
  split
  · next cold =>
    refine .monitorLast s ?_
    have whole : broken s = false := by simp [broken, cold]
    rw [whole]
    exact .of_turned (.refl 0 s)
  · next warm =>
    have same : broken s = s.seats.any openFare := by simp [broken, warm]
    unfold warmWork
    split
    · dsimp only
      split
      · refine .tripsLast _ _ drawn ?_
        rw [same]
        have := resumeTrips_work (monitorStartWork (s.setDraws (s.draws + 1)))
        rwa [monitorStartWork_seats] at this
      · refine .monitorLast _ ?_
        rw [same]
        obtain ⟨v, before, after⟩ := resumeTrips_work (s.setDraws (s.draws + 1))
        exact ⟨v, drawn.trans before, after⟩
    · next closed =>
      refine .monitorLast _ ?_
      have whole : broken s = false := by
        rw [same]
        simp only [tripsOpen, Bool.or_eq_true, not_or] at closed
        exact Bool.eq_false_iff.2 closed.1
      rw [whole]
      exact .of_turned (warmStartSeats_turned s)

/-! ### What the retained work leaves -/

/-- The statuses that the retained work leaves (R58, R167). -/
def StandsNow (s : State) (c : Cause) : Prop := StandsAfter s c ∨ c = .brk ∧ broken s = true

theorem Turned.standsAfter {k : Nat} {s t : State} (h : Turned k s t) (c : Cause) :
    StandsAfter t c ↔ StandsAfter s c := by
  rw [StandsAfter, StandsAfter, Present, Present, h.tariff, h.clock, h.pins, h.hold]

theorem Turned.calls {k : Nat} {s t : State} (h : Turned k s t) (c : Cause) :
    Calls t.monitor c ↔ Calls s.monitor c := by rw [h.monitor]

theorem Turned.present {k : Nat} {s t : State} (h : Turned k s t) (c : Cause) :
    Present t c ↔ Present s c := by rw [Present, Present, h.tariff, h.clock, h.pins]

theorem monitorStartWork_calls (s : State) (c : Cause) :
    Calls (monitorStartWork s).monitor c ↔ Calls s.monitor c := by
  obtain ⟨-, masked, note⟩ := monitorStartWork_monitor s
  exact calls_congr masked note c

section Retained

variable {s t : State}

theorem RetainedOrder.status (h : RetainedOrder s t) (c : Cause) :
    t.hold.status.get c = true ↔ StandsNow s c := by
  cases h with
  | monitorLast v work => rw [monitorStartWork_status, work.standsAfter, StandsNow]
  | tripsLast v t turned work =>
    rw [work.status, monitorStartWork_status, turned.standsAfter, StandsNow]

theorem RetainedOrder.kept (h : RetainedOrder s t) : HoldKept s t := by
  cases h with
  | monitorLast v work => exact work.kept.trans (monitorStartWork_kept v)
  | tripsLast v t turned work =>
    exact ((HoldKept.of_eq turned.hold).trans (monitorStartWork_kept v)).trans work.kept

theorem RetainedOrder.held (h : RetainedOrder s t) :
    t.hold.held = true ↔ s.hold.held = true ∨ ∃ c, StandsNow s c ∧ Calls s.monitor c := by
  have split_ : (∃ c, StandsNow s c ∧ Calls s.monitor c) ↔
      (broken s = true ∧ Calls s.monitor .brk) ∨ ∃ c, StandsAfter s c ∧ Calls s.monitor c := by
    constructor
    · rintro ⟨c, stands | ⟨rfl, open_⟩, calls⟩
      · exact .inr ⟨c, stands, calls⟩
      · exact .inl ⟨open_, calls⟩
    · rintro (⟨open_, calls⟩ | ⟨c, stands, calls⟩)
      · exact ⟨.brk, .inr ⟨rfl, open_⟩, calls⟩
      · exact ⟨c, .inl stands, calls⟩
  cases h with
  | monitorLast v work =>
    rw [monitorStartWork_held, work.held]
    simp only [work.standsAfter, work.calls]
    change (s.hold.held = true ∨ broken s = true ∧ Calls s.monitor .brk) ∨
      (∃ c, StandsNow s c ∧ Calls s.monitor c) ↔ _
    rw [split_]
    tauto
  | tripsLast v t turned work =>
    rw [work.held, monitorStartWork_calls, monitorStartWork_held, split_]
    simp only [turned.standsAfter, turned.calls, turned.hold]
    exact or_assoc.trans (or_congr_right or_comm)

theorem conditionsOf_congr (tariff : t.tariff = s.tariff) (clock : t.clock = s.clock)
    (pins : t.pins = s.pins) : conditionsOf t = conditionsOf s := by
  rw [conditionsOf, conditionsOf, tariff, clock, pins]

theorem RetainedOrder.monitor (h : RetainedOrder s t) :
    t.monitor.condition = conditionsOf s ∧ t.monitor.masked = s.monitor.masked ∧
      t.monitor.note = s.monitor.note := by
  cases h with
  | monitorLast v work =>
    obtain ⟨condition, masked, note⟩ := monitorStartWork_monitor v
    obtain ⟨-, masked', note', -⟩ := work.monitor
    exact ⟨condition.trans (conditionsOf_congr work.tariff work.clock work.pins), masked.trans masked',
      note.trans note'⟩
  | tripsLast v t turned work =>
    obtain ⟨condition, masked, note⟩ := monitorStartWork_monitor v
    obtain ⟨condition', masked', note', -⟩ := work.monitor
    rw [turned.monitor] at masked note
    exact ⟨condition'.trans (condition.trans (conditionsOf_congr turned.tariff turned.clock turned.pins)),
      masked'.trans masked, note'.trans note⟩

theorem Present.ne_brk {c : Cause} (h : Present s c) : c ≠ .brk := by
  rintro rfl
  rcases h with ⟨h, -⟩ | ⟨h, -⟩ | ⟨h, -⟩ <;> cases h

theorem RetainedOrder.source (h : RetainedOrder s t) {c : Cause} (present : Present s c) :
    t.monitor.lastSource.get c = s.tariff.own := by
  cases h with
  | monitorLast v work =>
    rw [monitorStartWork_source ((work.present c).2 present), work.tariff]
  | tripsLast v t turned work =>
    rw [work.monitor.2.2.2 c present.ne_brk, monitorStartWork_source ((turned.present c).2 present),
      turned.tariff]

/-- Where BREAK's raise does not enter HELD, the entry is the monitor's, in either order. -/
theorem RetainedOrder.trips {room : Prop} (h : RetainedOrder s t) {c : Cause} (enters : EntersAfter s c)
    (running : s.hold.held = false) (quiet : ¬(broken s = true ∧ Calls s.monitor .brk))
    (placed : room → HasPlaced 0 none s.line.queue) :
    Tripped room c s.tariff.own s.hold.count s.clock t := by
  cases h with
  | monitorLast v work =>
    have still : v.hold.held = false := by
      rw [← Bool.not_eq_true, work.held]
      rintro (held | called)
      · rw [running] at held
        cases held
      · exact quiet called
    have same : ∀ d, StandsAfter v d ∧ Calls v.monitor d ↔ StandsAfter s d ∧ Calls s.monitor d := fun d => by
      rw [work.standsAfter, work.calls]
      refine and_congr_left fun called => or_iff_left ?_
      rintro ⟨rfl, open_⟩
      exact quiet ⟨open_, called⟩
    have entry := monitorStartWork_trips (enters.congr work.present work.calls same) still (by omega)
      (fun free => work.tells.hasPlaced (placed free) (by omega))
    obtain ⟨-, -, count⟩ := work.kept.running still
    rwa [work.tariff, count, work.clock] at entry
  | tripsLast v t turned work =>
    have same : ∀ d, StandsAfter v d ∧ Calls v.monitor d ↔ StandsAfter s d ∧ Calls s.monitor d := fun d => by
      rw [turned.standsAfter, turned.calls]
    have entry := monitorStartWork_trips (enters.congr turned.present turned.calls same)
      (by rw [turned.hold]; exact running) (by omega)
      (fun free => turned.tells.hasPlaced (placed free) (by omega))
    rw [turned.tariff, turned.hold, turned.clock] at entry
    exact entry.tripWork work

end Retained

end Sys2Proof.Machine

/-! PROOFS. A load completion as a whole: what is in force after it, the causes it takes, and the frames it
queues (R5, R14, R138, R156, R167, R201). -/

namespace Sys2Proof.Machine

-- One theorem at a time: the memory limit of the check counts the stack of every thread.
set_option Elab.async false

/-! ### The stages of a load completion -/

/-- The state that the retained work finds: step 4's outcome in force, and the switch's frame queued. -/
def workFound (l : Loaded) (s : State) : State := intercomStartWork (putInForce l s)

theorem startWork_eq (l : Loaded) (s : State) :
    startWork l s = queueStatus (computeSign (retainedWork (workFound l s))) := rfl

theorem intercomStartWork_only (s : State) : QueueOnly s (intercomStartWork s) := by
  unfold intercomStartWork
  split
  · exact send_only _ _ s
  · exact .refl s

section Found

variable (l : Loaded) (s : State)

theorem workFound_hold : (workFound l s).hold = s.hold :=
  (intercomStartWork_only _).hold.trans (putInForce_hold l s)

theorem workFound_seats : (workFound l s).seats = s.seats :=
  (intercomStartWork_only _).seats.trans (putInForce_seats l s)

theorem workFound_clock : (workFound l s).clock = s.clock :=
  (intercomStartWork_only _).clock.trans (putInForce_frame l s .clock (by decide))

theorem workFound_pins : (workFound l s).pins = s.pins :=
  (intercomStartWork_only _).pins.trans (putInForce_frame l s .pins (by decide))

theorem workFound_tariff : (workFound l s).tariff = l.tariff :=
  (intercomStartWork_only _).tariff.trans (putInForce_tariff l s)

theorem workFound_monitor :
    (workFound l s).monitor = { s.monitor with masked := l.masked, note := l.note } :=
  (intercomStartWork_only _).monitor.trans (putInForce_monitor l s)

theorem workFound_intercom : (workFound l s).intercom = s.intercom :=
  (intercomStartWork_only _).intercom.trans (putInForce_frame l s .intercom (by decide))

theorem putInForce_timed :
    (putInForce l s).sign.timebase = some 4 ∧ (putInForce l s).line =
      { s.line with roster := l.roster, statusTimer := some 1000 } := by
  rw [putInForce_state, imageTaken_eq]
  exact ⟨rfl, rfl⟩

/-- The queue that the retained work finds. -/
theorem workFound_queue :
    (workFound l s).line.queue =
      if l.tariff.good then
        queued s.line.queue
          { dest := broadcast, answer := false, body := .intercomState (intercomReport s.intercom) }
      else s.line.queue := by
  have intercom : (putInForce l s).intercom = s.intercom := putInForce_frame l s .intercom (by decide)
  unfold workFound intercomStartWork
  rw [putInForce_tariff]
  split
  · rw [sendIntercom, send, enqueue_queue, (putInForce_timed l s).2, intercom]
  · rw [(putInForce_timed l s).2]

/-- The retained work in either order, with what the last two steps leave alone. -/
theorem startWork_order : ∃ t, RetainedOrder (workFound l s) t ∧ t = retainedWork (workFound l s) ∧
    (startWork l s).hold = t.hold ∧ (startWork l s).monitor = t.monitor := by
  refine ⟨_, retainedWork_order (workFound l s), rfl, ?_, ?_⟩
  · rw [startWork_eq, (queueStatus_only _).hold]
    rfl
  · rw [startWork_eq, (queueStatus_only _).monitor]
    rfl

end Found

/-! ### The frames of the retained work -/

/-- The frames of the retained work, from those of its pieces, along a property of the states between. -/
theorem retainedWork_tells {ok : TxBody → Prop} {k n : Nat} {I : State → Prop} {s : State} (start : I s)
    (draws : ∀ v m, I v → I (v.setDraws m))
    (monitor : ∀ v, I v → Tells ok k v (monitorStartWork v) ∧ I (monitorStartWork v))
    (seats : ∀ v, I v → Tells ok 0 v (warmStartSeats v) ∧ I (warmStartSeats v))
    (rest : ∀ v b, I v → Tells ok n v (retireSlots (raiseBreak b v)) ∧ I (retireSlots (raiseBreak b v))) :
    Tells ok (k + n) s (retainedWork s) := by
  have drawn : ∀ v m, Tells ok 0 v (v.setDraws m) := fun _ _ => .of_eq rfl rfl rfl
  have resume : ∀ v, I v → Tells ok n v (resumeTrips v) ∧ I (resumeTrips v) := fun v hv => by
    obtain ⟨turned, between⟩ := seats v hv
    obtain ⟨told, after⟩ := rest _ (v.seats.any openFare) between
    exact ⟨(turned.trans told).mono (by omega), after⟩
  unfold retainedWork
  split
  · exact (monitor s start).1.mono (by omega)
  · unfold warmWork
    split
    · have between := draws s (s.draws + 1) start
      dsimp only
      split
      · obtain ⟨told, after⟩ := monitor _ between
        exact (((drawn s _).trans told).trans (resume _ after).1).mono (by omega)
      · obtain ⟨told, after⟩ := resume _ between
        exact (((drawn s _).trans told).trans (monitor _ after).1).mono (by omega)
    · obtain ⟨turned, between⟩ := seats s start
      exact (turned.trans (monitor _ between).1).mono (by omega)

section Pieces

variable {ok : TxBody → Prop}

/-- The sorts of frames that a start's raises and its emptied slots may send. -/
structure AllowsRaise (ok : TxBody → Prop) : Prop where
  status : ∀ r, ok (.status r)
  event : ∀ x c p n, ok (.holdEvent x c p n)
  cancel : ∀ n, ok (.chargeCancel n)

theorem AllowsStart.raises (h : AllowsStart ok) : AllowsRaise ok := ⟨h.status, h.event, h.cancel⟩

theorem raiseIfPresent_tells (raises : AllowsRaise ok) (c : Cause) (s : State) :
    Tells ok 1 s (raiseIfPresent c s) :=
  .ite (raiseCause_tells raises.status raises.event _ _) ((Tells.refl s).mono (by omega))

theorem enterIfCalled_tells (raises : AllowsRaise ok) (s : State) : Tells ok 1 s (enterIfCalled s) := by
  unfold enterIfCalled
  refine .ite ((Tells.refl s).mono (by omega)) ?_
  split
  · exact enterHeld_tells raises.status raises.event _ _
  · exact (Tells.refl s).mono (by omega)

theorem causesReported_tells (s : State) : Tells ok 0 s (causesReported s) := by
  have told : Tells ok 0 s (startConditions s) := .of_eq rfl rfl rfl
  exact .ite (told.trans (setHold_tells _)) told

theorem monitorStartWork_tells (raises : AllowsRaise ok) (s : State) :
    Tells ok 4 s (monitorStartWork s) :=
  ((((causesReported_tells s).trans (raiseIfPresent_tells raises _ _)).trans
    (raiseIfPresent_tells raises _ _)).trans (raiseIfPresent_tells raises _ _)).trans
    (enterIfCalled_tells raises _)

theorem retireAfterBreak_tells (raises : AllowsRaise ok) (b : Bool) (s : State) :
    Tells ok 5 s (retireSlots (raiseBreak b s)) := by
  have raised : Tells ok 1 s (raiseBreak b s) :=
    .ite (raiseCause_tells raises.status raises.event _ _) ((Tells.refl s).mono (by omega))
  exact raised.trans (retireSlots_tells raises.cancel)

/-- After the retained work the sign is computed and a STATUS queued. -/
theorem startWork_last_tells {ok : TxBody → Prop} (status : ∀ r, ok (.status r)) (s : State) :
    Tells ok 0 s (queueStatus (computeSign s)) := computeSign_tells.trans (queueStatus_tells status)

/-- Every start: at most nine urgent frames. -/
theorem retainedWork_tells_start (start : AllowsStart ok) (s : State) : Tells ok 9 s (retainedWork s) :=
  retainedWork_tells (I := fun _ => True) trivial (fun _ _ _ => trivial)
    (fun v _ => ⟨monitorStartWork_tells start.raises v, trivial⟩)
    (fun _ _ => ⟨warmStartSeats_tells start.toAllowsClose, trivial⟩)
    (fun v b _ => ⟨retireAfterBreak_tells start.raises b v, trivial⟩)

end Pieces

/-! ### A part found HELD (R156) -/

/-- No frame of an entry to HELD or of a release. -/
def NoEvent (b : TxBody) : Prop := b.kind ≠ 4

theorem noEvent_close : AllowsClose NoEvent where
  status _ := by simp [NoEvent, TxBody.kind]
  display _ _ := by simp [NoEvent, TxBody.kind]
  report _ _ _ := by simp [NoEvent, TxBody.kind]

theorem raiseCause_held_of_held {s : State} (held : s.hold.held = true) (c : Cause) (src : Nat) :
    (raiseCause c src s).hold.held = true := (raiseCause_kept c src s).held held |>.1

theorem raiseIfPresent_tells_held {ok : TxBody → Prop} {s : State} (held : s.hold.held = true) (c : Cause) :
    Tells ok 0 s (raiseIfPresent c s) := .ite (raiseCause_tells_held held _ _) (.refl s)

theorem monitorStartWork_tells_held {ok : TxBody → Prop} {s : State} (held : s.hold.held = true) :
    Tells ok 0 s (monitorStartWork s) := by
  have reported := ((causesReported_kept s).held held).1
  have one := ((raiseIfPresent_kept .config _).held reported).1
  have two := ((raiseIfPresent_kept .clock _).held one).1
  have three := ((raiseIfPresent_kept .tamper _).held two).1
  have entered : Tells ok 0 (threeRaised (causesReported s))
      (enterIfCalled (threeRaised (causesReported s))) := by
    unfold enterIfCalled
    rw [if_pos (show (threeRaised (causesReported s)).hold.held = true from three)]
    exact .refl _
  exact ((((causesReported_tells s).trans (raiseIfPresent_tells_held reported _)).trans
    (raiseIfPresent_tells_held one _)).trans (raiseIfPresent_tells_held two _)).trans entered

/-- A part found HELD queues no HOLD_EVENT. -/
theorem retainedWork_tells_held {s : State} (held : s.hold.held = true) :
    Tells NoEvent 4 s (retainedWork s) := by
  refine retainedWork_tells (k := 0) (n := 4) (I := fun v => v.hold.held = true) held (fun _ _ h => h)
    (fun v h => ⟨monitorStartWork_tells_held h, ((monitorStartWork_kept v).held h).1⟩)
    (fun v h => ⟨warmStartSeats_tells noEvent_close, ?_⟩) (fun v b h => ⟨?_, ?_⟩)
  · rw [(warmStartSeats_fare v).hold]
    exact h
  · have raised : Tells NoEvent 0 v (raiseBreak b v) := .ite (raiseCause_tells_held h _ _) (.refl v)
    exact raised.trans (retireSlots_tells fun _ => by simp [NoEvent, TxBody.kind])
  · rw [retireSlots_frame _ .hold (by decide)]
    unfold raiseBreak
    split
    · exact raiseCause_held_of_held h _ _
    · exact h

/-! ### A start at which no seat closes -/

/-- Every seat with an open fare owes something. -/
def Owing (s : State) : Prop := ∀ q : Seat, openFare (s.seat q) = true → 0 < (s.seat q).due

/-- An urgent frame or a STATUS. -/
def UrgentOrStatus (b : TxBody) : Prop := b.cls = 0 ∨ b.key = some .status

theorem warmSeat_due (time : DayTime) (r : SeatRecord) : (warmSeat time r).due = r.due := by
  unfold warmSeat
  split <;> rfl

theorem warmSeat_closed (time : DayTime) (r : SeatRecord) : openFare (warmSeat time r) = false := by
  unfold warmSeat openFare
  split <;> simp_all

theorem warmStartSeat_owing {s : State} (h : Owing s) (q : Seat) :
    Tells UrgentOrStatus 0 s (warmStartSeat s q) ∧ Owing (warmStartSeat s q) := by
  have seats : ∀ u, u.seats = s.seats.set q (warmSeat s.clock.time (s.seat q)) → Owing u := fun u hu p open_ => by
    rw [State.seat, hu] at open_ ⊢
    by_cases e : p = q
    · subst e
      rw [PerSeat.get_set_self, warmSeat_closed] at open_
      cases open_
    · rw [PerSeat.get_set_of_ne _ _ e] at open_ ⊢
      exact h p open_
  unfold warmStartSeat
  dsimp only
  split
  · next open_ =>
    have stays : closeIfPaid q (changeSeat q (warmSeat s.clock.time (s.seat q)) s)
        = changeSeat q (warmSeat s.clock.time (s.seat q)) s := by
      refine if_neg fun paid => ?_
      have := h q open_
      rw [State.seat, changeSeat_seats, PerSeat.get_set_self, warmSeat_due] at paid
      omega
    rw [stays]
    exact ⟨changeSeat_tells (fun _ => .inr rfl) q _, seats _ (changeSeat_seats q _ s)⟩
  · exact ⟨setSeat_tells q _, seats _ rfl⟩

theorem warmStartSeats_owing {s : State} (h : Owing s) :
    Tells UrgentOrStatus 0 s (warmStartSeats s) ∧ Owing (warmStartSeats s) := by
  obtain ⟨one, h1⟩ := warmStartSeat_owing h .one
  obtain ⟨two, h2⟩ := warmStartSeat_owing h1 .two
  obtain ⟨three, h3⟩ := warmStartSeat_owing h2 .three
  obtain ⟨four, h4⟩ := warmStartSeat_owing h3 .four
  exact ⟨((one.trans two).trans three).trans four, h4⟩

theorem Owing.of_seats {s t : State} (h : Owing s) (seats : t.seats = s.seats) : Owing t := by
  intro q
  simpa only [State.seat, seats] using h q

/-- Where no seat closes, the retained work sends urgent frames and STATUS alone. -/
theorem retainedWork_tells_owing {s : State} (h : Owing s) : Tells UrgentOrStatus 9 s (retainedWork s) := by
  have raises : AllowsRaise UrgentOrStatus := ⟨fun _ => .inr rfl, fun _ _ _ _ => .inl rfl, fun _ => .inl rfl⟩
  refine retainedWork_tells (k := 4) (n := 5) (I := Owing) h (fun _ _ h => h)
    (fun v h => ⟨monitorStartWork_tells raises v, h.of_seats (monitorStartWork_seats v)⟩)
    (fun v h => warmStartSeats_owing h) (fun v b h => ⟨retireAfterBreak_tells raises b v, h.of_seats ?_⟩)
  rw [retireSlots_frame _ .seats (by decide), raiseBreak_seats]

/-! ### What is in force (R5, R14) -/

/-- What runs after a load completion (R140, R201, R202). -/
theorem startWork_timed (l : Loaded) (s : State) :
    (startWork l s).sign.timebase = some 4 ∧ (startWork l s).line.roster = l.roster ∧
      (startWork l s).line.statusTimer = some 1000 := by
  obtain ⟨timebase, line⟩ := putInForce_timed l s
  have worked := (intercomStartWork_only (putInForce l s)).timed.trans
    (retainedWork_tells_start behaved_allows (workFound l s)).timed
  have last : Timed (retainedWork (workFound l s)) (startWork l s) :=
    (startWork_last_tells behaved_allows.status _).timed
  have timed := worked.trans last
  refine ⟨timed.timebase.trans timebase, timed.roster.trans (by rw [line]), ?_⟩
  rw [timed.statusTimer, line]

theorem startWork_tamperFilter (l : Loaded) (s : State) :
    (startWork l s).tamperFilter = { settled := s.pins.tamper, changing := false } := by
  rw [startWork_after l s .tamper (by decide), putInForce_state, imageTaken_eq]
  rfl

theorem startWork_monitor (l : Loaded) (s : State) :
    (startWork l s).monitor.condition = conditionsOf (workFound l s) ∧
      (startWork l s).monitor.masked = l.masked ∧ (startWork l s).monitor.note = l.note := by
  obtain ⟨t, order, -, -, monitor⟩ := startWork_order l s
  have settings := order.monitor
  rw [workFound_monitor] at settings
  rwa [monitor]

theorem startWork_status (l : Loaded) (s : State) (c : Cause) :
    (startWork l s).hold.status.get c = true ↔ StandsNow (workFound l s) c := by
  obtain ⟨t, order, -, hold, -⟩ := startWork_order l s
  rw [hold, order.status]

theorem startWork_held (l : Loaded) (s : State) :
    (startWork l s).hold.held = true ↔
      s.hold.held = true ∨ ∃ c, StandsNow (workFound l s) c ∧ Calls (workFound l s).monitor c := by
  obtain ⟨t, order, -, hold, -⟩ := startWork_order l s
  rw [hold, order.held, workFound_hold]

theorem config_stands_iff (l : Loaded) (s : State) :
    StandsNow (workFound l s) .config ↔ l.tariff.good = false := by
  simp [StandsNow, StandsAfter, Present, workFound_tariff]

theorem rejected_image_enters_hold : Claims.RejectedImageEntersHold := by
  intro image s reading
  refine ⟨rfl, by decide, fun bad => ⟨_, exec_loadCompletion reading image, ?_⟩⟩
  have rejected := loadImage_rejected bad
  obtain ⟨timebase, roster, statusTimer⟩ := startWork_timed (loadImage image) s
  obtain ⟨condition, masked, note⟩ := startWork_monitor (loadImage image) s
  have config : StandsNow (workFound (loadImage image) s) .config := (config_stands_iff _ s).2 bad
  have calls : Calls (workFound (loadImage image) s).monitor .config := by
    rw [workFound_monitor, rejected]
    exact ⟨rfl, rfl⟩
  refine ⟨startWork_start _ s, ?_, ?_, ?_, ?_, statusTimer, timebase, ?_, ?_, ?_, ?_, ?_⟩
  · rw [startWork_tariff, rejected]
    rfl
  · rw [roster, rejected]
    rfl
  · rw [startWork_band]
    simp [evaluateBand, bad]
  · rw [startWork_motion, bad]
    rfl
  · exact (startWork_held _ s).2 (.inr ⟨.config, config, calls⟩)
  · exact (startWork_status _ s .config).2 config
  · rw [condition]
    simp [conditionsOf, workFound_tariff, bad]
  · rw [masked, rejected]
    rfl
  · rw [note, rejected]
    rfl

/-- Every roster entry of an image is SILENT (R5, R202). -/
theorem roster_silent (image : List Byte) : ∀ e ∈ (loadImage image).roster, e.timer = none := by
  cases good : (loadImage image).tariff.good with
  | true =>
    rw [loadImage_good good]
    intro e he
    obtain ⟨x, -, hx⟩ := List.mem_filterMap.1 he
    obtain ⟨c, -, rfl⟩ := Option.map_eq_some_iff.1 hx
    rfl
  | false =>
    rw [loadImage_rejected good]
    exact fun e he => absurd he List.not_mem_nil

theorem good_image_comes_into_force : Claims.GoodImageComesIntoForce := by
  intro image s reading good
  obtain ⟨timebase, roster, statusTimer⟩ := startWork_timed (loadImage image) s
  obtain ⟨condition, masked, note⟩ := startWork_monitor (loadImage image) s
  refine ⟨_, exec_loadCompletion reading image, startWork_start _ s, startWork_tariff _ s, roster, ?_,
    statusTimer, ?_, timebase, startWork_band _ s, masked, note, ?_, ?_, startWork_tamperFilter _ s⟩
  · rw [roster]
    exact roster_silent image
  · rw [startWork_motion, good]
    rfl
  · refine Bool.eq_false_iff.2 fun config => ?_
    have bad := (config_stands_iff _ s).1 ((startWork_status _ s .config).1 config)
    rw [good] at bad
    cases bad
  · rw [condition, conditionsOf, workFound_tariff, workFound_clock, workFound_pins, good]
    rfl

/-! ### The causes (R155, R156, R167) -/

theorem broken_iff (l : Loaded) (s : State) :
    broken (workFound l s) = true ↔
      s.start.kind = .warm ∧ ∃ q : Seat, (s.seat q).state = .hired ∨ (s.seat q).state = .paying := by
  have start : (workFound l s).start = { loaded := true, imageTimer := none, kind := s.start.kind } :=
    told_start l s
  simp only [broken, Bool.and_eq_true, decide_eq_true_eq, start, workFound_seats, PerSeat.any_iff, openFare,
    Bool.or_eq_true, State.seat]

theorem present_iff (l : Loaded) (s : State) (c : Cause) :
    Present (workFound l s) c ↔
      c = .config ∧ l.tariff.good = false ∨ c = .clock ∧ s.clock.valid = false ∨
        c = .tamper ∧ s.pins.tamper = true := by
  rw [Present, workFound_tariff, workFound_clock, workFound_pins]

theorem calls_iff (l : Loaded) (s : State) (c : Cause) :
    Calls (workFound l s).monitor c ↔ l.masked.get c = false ∧ l.note.get c = false := by
  rw [Calls, workFound_monitor]

theorem standsAfter_iff (l : Loaded) (s : State) (c : Cause) :
    StandsAfter (workFound l s) c ↔
      Present (workFound l s) c ∨ c ≠ .config ∧ s.hold.status.get c = true := by
  rw [StandsAfter, workFound_hold]

/-- A load completion keeps HELD, or never enters it (R156). -/
theorem startWork_kept (l : Loaded) (s : State) : HoldKept s (startWork l s) := by
  obtain ⟨t, order, -, hold, -⟩ := startWork_order l s
  exact ((HoldKept.of_eq (workFound_hold l s)).trans order.kept).trans (.of_eq hold)

theorem startWork_source {l : Loaded} {s : State} {c : Cause} (present : Present (workFound l s) c) :
    (startWork l s).monitor.lastSource.get c = l.tariff.own := by
  obtain ⟨t, order, -, -, monitor⟩ := startWork_order l s
  rw [monitor, order.source present, workFound_tariff]

/-- The switch's frame leaves the front of the queue free. -/
theorem workFound_placed {l : Loaded} {s : State} (empty : s.line.queue = []) :
    HasPlaced 0 none (workFound l s).line.queue := by
  rw [workFound_queue, empty]
  split
  · exact ⟨[], _, rfl, le_rfl, fun _ h => absurd h List.not_mem_nil,
      fun f hf => by rw [List.mem_singleton.1 hf]; exact le_rfl, fun _ e => by cases e⟩
  · exact hasPlaced_nil 0

theorem startWork_trips {l : Loaded} {s : State} {c : Cause} (enters : EntersAfter (workFound l s) c)
    (running : s.hold.held = false)
    (quiet : ¬(broken (workFound l s) = true ∧ Calls (workFound l s).monitor .brk)) :
    Tripped (s.line.queue = []) c l.tariff.own s.hold.count s.clock (startWork l s) := by
  obtain ⟨t, order, work, hold, -⟩ := startWork_order l s
  have entry := order.trips (room := s.line.queue = []) enters (by rw [workFound_hold]; exact running) quiet
    workFound_placed
  rw [workFound_tariff, workFound_hold, workFound_clock, work] at entry
  refine entry.of_tells ?_ (startWork_last_tells behaved_allows.status _)
  rw [← work]
  exact hold

/-- A part found HELD has no HOLD_EVENT to send. -/
theorem startWork_no_event {l : Loaded} {s : State} (held : s.hold.held = true)
    (empty : s.line.queue = []) : ∀ f ∈ (startWork l s).line.queue, f.body.kind ≠ 4 := by
  have found : (workFound l s).hold.held = true := by rw [workFound_hold]; exact held
  have talk : SwitchAllowed NoEvent (workFound l s) := .inl fun _ => by simp [NoEvent, TxBody.kind]
  have told := (retainedWork_tells_held found).trans (startWork_last_tells noEvent_close.status _)
  intro f hf
  rcases (told.sends talk).2.mem hf with old | sent
  · rw [workFound_queue, empty] at old
    split at old
    · have new := (mem_queued old).resolve_right List.not_mem_nil
      rw [new]
      simp [TxBody.kind]
    · exact absurd old List.not_mem_nil
  · exact sent

/-- A cause whose status stands after the start, unmasked and of HOLD severity. -/
def HoldsAfterStart (s : State) (c : Cause) : Prop := StandsNow s c ∧ Calls s.monitor c

theorem standsNow_iff (l : Loaded) (s : State) (c : Cause) :
    StandsNow (workFound l s) c ↔
      Present (workFound l s) c ∨ c = .brk ∧ broken (workFound l s) = true ∨
        c ≠ .config ∧ s.hold.status.get c = true := by
  rw [StandsNow, standsAfter_iff, or_assoc]
  exact or_congr_right or_comm

/-- The trigger in R167's order, where BREAK's raise does not enter HELD. -/
theorem entersAfter_of_first {s : State} {c : Cause}
    (quiet : ¬(broken s = true ∧ Calls s.monitor .brk)) (holds : HoldsAfterStart s c)
    (first : c = .config ∧ Present s .config ∨
      c = .clock ∧ Present s .clock ∧ ¬HoldsAfterStart s .config ∨
      c = .tamper ∧ Present s .tamper ∧ ¬HoldsAfterStart s .config ∧
        ¬(Present s .clock ∧ HoldsAfterStart s .clock) ∨
      (∀ d, Present s d → ¬HoldsAfterStart s d) ∧ ∀ d, d.number < c.number → ¬HoldsAfterStart s d) :
    EntersAfter s c := by
  have of_present : ∀ d, Present s d ∧ Calls s.monitor d → HoldsAfterStart s d :=
    fun d ⟨present, calls⟩ => ⟨.inl (.inl present), calls⟩
  obtain ⟨stands, calls⟩ := holds
  refine ⟨calls, ?_⟩
  rcases first with config | ⟨rfl, present, noConfig⟩ | ⟨rfl, present, noConfig, noClock⟩ | ⟨none_, lower⟩
  · exact .inl config
  · exact .inr (.inl ⟨rfl, present, fun x => noConfig (of_present _ x)⟩)
  · exact .inr (.inr (.inl ⟨rfl, present, fun x => noConfig (of_present _ x),
      fun x => noClock ⟨x.1, of_present _ x⟩⟩))
  · refine .inr (.inr (.inr ⟨fun d x => none_ d x.1 (of_present d x), ?_,
      fun d less x => lower d less ⟨.inl x.1, x.2⟩⟩))
    rcases stands with after | ⟨rfl, open_⟩
    · exact after
    · exact absurd ⟨open_, calls⟩ quiet

theorem load_completion_takes_causes : Claims.LoadCompletionTakesCauses := by
  intro image s reading l own broken' present stands holds n
  have isBroken : broken (workFound l s) = true ↔ broken' := broken_iff l s
  have isPresent : ∀ c, Present (workFound l s) c ↔ present c := present_iff l s
  have isStanding : ∀ c, StandsNow (workFound l s) c ↔ stands c := fun c => by
    rw [standsNow_iff, isPresent, isBroken]
  have isHolding : ∀ c, HoldsAfterStart (workFound l s) c ↔ holds c := fun c => by
    rw [HoldsAfterStart, isStanding, calls_iff]
  have held := (startWork_held l s).trans (or_congr_right (exists_congr isHolding))
  refine ⟨startWork l s, exec_loadCompletion reading image, fun c => ?_, fun c here => ?_, held,
    fun was => ?_, fun was none_ => ?_, fun was quiet c ⟨calls, first⟩ => ?_⟩
  · rw [startWork_status, isStanding]
  · exact startWork_source ((isPresent c).2 here)
  · obtain ⟨-, trigger, count⟩ := (startWork_kept l s).held was
    exact ⟨trigger, count, startWork_no_event was⟩
  · have running : (startWork l s).hold.held = false := Bool.eq_false_iff.2 fun entered => by
      rcases held.1 entered with before | ⟨c, hc⟩
      · rw [was] at before
        cases before
      · exact none_ c hc
    obtain ⟨-, trigger, count⟩ := (startWork_kept l s).running running
    exact ⟨trigger, count⟩
  · have quiet' : ¬(broken (workFound l s) = true ∧ Calls (workFound l s).monitor .brk) :=
      fun ⟨open_, called⟩ =>
        quiet ⟨isBroken.1 open_, (isHolding .brk).1 ⟨.inr ⟨rfl, open_⟩, called⟩⟩
    have enters := entersAfter_of_first quiet' ((isHolding c).2 calls)
      (by simpa only [isPresent, isHolding] using first)
    have entry := startWork_trips enters was quiet'
    exact ⟨entry.pointer, entry.count, entry.trigger, entry.event⟩

/-! ### The frames (R138, R201) -/

/-- The switch's frame at its start values (R138). -/
def switchFrame : TxFrame :=
  { dest := broadcast, answer := false, body := .intercomState ⟨.idle, [], seatsOf false⟩ }

theorem workFound_queue_start {l : Loaded} {s : State} (empty : s.line.queue = [])
    (start : s.intercom = intercomStart) :
    (workFound l s).line.queue = if l.tariff.good then [switchFrame] else [] := by
  rw [workFound_queue, empty, start]
  rfl

/-- The frames of the retained work and of the last two steps, where the switch stands at its start
values. -/
theorem startWork_sends {ok : TxBody → Prop} (may : AllowsStart ok) {l : Loaded} {s : State}
    (start : s.intercom = intercomStart) : Sends ok 9 (workFound l s) (startWork l s) :=
  (((retainedWork_tells_start may (workFound l s)).trans (startWork_last_tells may.status _)).sends
    (.inr ((workFound_intercom l s).trans start))).2

theorem startWork_switch_queued {l : Loaded} {s : State} (good : l.tariff.good = true)
    (empty : s.line.queue = []) (start : s.intercom = intercomStart) :
    switchFrame ∈ (startWork l s).line.queue := by
  have placed : HasPlaced 0 (some switchFrame) (workFound l s).line.queue := by
    rw [workFound_queue_start empty start, if_pos good]
    exact ⟨[], [switchFrame], rfl, le_rfl, fun _ h => absurd h List.not_mem_nil,
      fun f hf => by rw [List.mem_singleton.1 hf]; exact le_rfl, fun _ e => e⟩
  refine ((startWork_sends behavedButSwitch_allows start).hasPlaced placed (by omega) ?_).mem
  rintro f ⟨urgent | low, other⟩
  · exact .inl urgent
  · exact .inr ⟨low, fun x e => by cases e; exact ⟨le_rfl, other⟩⟩

theorem key_of_kind_34 {b : TxBody} (h : b.kind = 34) : b.key = some .intercomState := by
  cases b with
  | intercomState => rfl
  | _ => cases h

theorem startWork_switch_silent {l : Loaded} {s : State} (bad : l.tariff.good = false)
    (empty : s.line.queue = []) (start : s.intercom = intercomStart) :
    ∀ f ∈ (startWork l s).line.queue, f.body.kind ≠ 34 := by
  intro f hf kind
  rcases (startWork_sends behavedButSwitch_allows start).mem hf with old | ⟨-, other⟩
  · rw [workFound_queue_start empty start, bad] at old
    exact absurd old List.not_mem_nil
  · exact other (key_of_kind_34 kind)

theorem queueStatus_statusReport (s : State) : statusReport (queueStatus s) = statusReport s := by
  have only := queueStatus_only s
  simp only [statusReport, only.accounts, only.hold, only.seats, only.sign, only.band, only.motion,
    only.roster]

theorem startWork_status_queued {l : Loaded} {s : State} (owing : Owing s)
    (empty : s.line.queue = []) (start : s.intercom = intercomStart) :
    { dest := broadcast, answer := false, body := .status (statusReport (startWork l s)) } ∈
      (startWork l s).line.queue := by
  have found : FewFrames 1 (workFound l s).line.queue := by
    rw [workFound_queue_start empty start]
    refine .inl ?_
    split
    · exact le_rfl
    · exact Nat.zero_le 1
  obtain ⟨-, fs, queue, all, count⟩ :=
    (retainedWork_tells_owing (owing.of_seats (workFound_seats l s))).sends
      (.inr ((workFound_intercom l s).trans start))
  have few := (found.foldl (by omega) all).length_le
  rw [← queue] at few
  have same : statusReport (startWork l s) = statusReport (computeSign (retainedWork (workFound l s))) := by
    rw [startWork_eq, queueStatus_statusReport]
  rw [same, startWork_eq]
  refine mem_enqueue_self ?_
  rw [show (computeSign (retainedWork (workFound l s))).line = (retainedWork (workFound l s)).line from rfl]
  unfold queuePlaces
  omega

theorem load_completion_queues_frames : Claims.LoadCompletionQueuesFrames := by
  intro image s reading empty start
  refine ⟨_, exec_loadCompletion reading image, fun good => startWork_switch_queued good empty start,
    fun bad => startWork_switch_silent bad empty start, fun owing => ?_⟩
  refine startWork_status_queued (fun q open_ => owing q ?_) empty start
  simpa [openFare] using open_

/-! ### The obligation -/

/-- Settles O19: the retained work in either order is the monitor's part and the trips' part, and the frames
of both leave the switch's frame, the HOLD_EVENT and the last STATUS their places in the queue. -/
theorem loadPutsImageOrFallbackInForce : Obligations.LoadPutsImageOrFallbackInForce :=
  ⟨rejected_image_enters_hold, good_image_comes_into_force, load_completion_takes_causes,
    load_completion_queues_frames⟩

end Sys2Proof.Machine

/-! PROOFS. What every step keeps of the transmit queue's order and keys, and of the lists and counts with a
bound: each operation that is no start and no load completion keeps all of them (R23 to R33, R97, R101, R148,
R183, R196, R198 to R200). -/

namespace Sys2Proof.Machine

-- One theorem at a time: the memory limit of the check counts the stack of every thread.
set_option Elab.async false

/-! ### The transmit queue in order (R198 to R200) -/

/-- Two frames may stand in the queue together: they share no coalescing key. -/
def KeysApart (f g : TxFrame) : Prop := f.body.key = none ∨ f.body.key ≠ g.body.key

/-- The queue holds at most 16 frames, in order of class, with at most one of each coalescing key. -/
structure QueueInOrder (q : List TxFrame) : Prop where
  length : q.length ≤ queuePlaces
  classes : q.Pairwise (fun f g => f.body.cls ≤ g.body.cls)
  keys : q.Pairwise KeysApart

theorem queueLaw_iff (s : State) : QueueLaw s ↔ QueueInOrder s.line.queue :=
  ⟨fun ⟨length, classes, keys⟩ => ⟨length, classes, keys⟩,
    fun ⟨length, classes, keys⟩ => ⟨length, classes, keys⟩⟩

theorem KeysApart.symm {f g : TxFrame} (h : KeysApart f g) : KeysApart g f := by
  unfold KeysApart at *
  by_cases none_ : g.body.key = none
  · exact .inl none_
  · refine .inr fun same => ?_
    rw [same] at none_
    exact h.elim none_ fun other => other same.symm

theorem QueueInOrder.sublist {p q : List TxFrame} (h : QueueInOrder q) (sub : p.Sublist q) :
    QueueInOrder p :=
  ⟨sub.length_le.trans h.length, h.classes.sublist sub, h.keys.sublist sub⟩

theorem insertByClass_perm (f : TxFrame) (q : List TxFrame) : (insertByClass f q).Perm (f :: q) := by
  induction q with
  | nil => exact .refl _
  | cons g gs ih =>
    unfold insertByClass
    split
    · exact (ih.cons g).trans (.swap f g gs)
    · exact .refl _

theorem insertByClass_classes {f : TxFrame} {q : List TxFrame}
    (h : q.Pairwise (fun f g => f.body.cls ≤ g.body.cls)) :
    (insertByClass f q).Pairwise (fun f g => f.body.cls ≤ g.body.cls) := by
  induction q with
  | nil => exact List.pairwise_singleton _ _
  | cons g gs ih =>
    obtain ⟨least, rest⟩ := List.pairwise_cons.1 h
    unfold insertByClass
    split
    · next le =>
      refine List.pairwise_cons.2 ⟨fun x hx => ?_, ih rest⟩
      rcases mem_insertByClass.1 hx with rfl | old
      · exact le
      · exact least x old
    · next gt =>
      refine List.pairwise_cons.2 ⟨fun x hx => ?_, h⟩
      rcases List.mem_cons.1 hx with rfl | old
      · omega
      · exact (Nat.le_of_lt (by omega)).trans (least x old)

/-- A frame that shares no key with the queue takes a free place. -/
theorem QueueInOrder.insert {f : TxFrame} {q : List TxFrame} (h : QueueInOrder q)
    (room : q.length < queuePlaces) (apart : ∀ g ∈ q, KeysApart f g) :
    QueueInOrder (insertByClass f q) where
  length := by rw [insertByClass_length]; omega
  classes := insertByClass_classes h.classes
  keys := ((insertByClass_perm f q).pairwise_iff KeysApart.symm).2
    (List.pairwise_cons.2 ⟨apart, h.keys⟩)

/-- Frames of one coalescing key are of one class (R189, R199). -/
theorem cls_of_key {a b : TxBody} (keyed : a.key ≠ none) (same : b.key = a.key) : b.cls = a.cls := by
  cases a <;> cases b <;> simp_all [TxBody.key, TxBody.cls]

/-- A frame that replaces its predecessor has its class and its key (R199). -/
theorem QueueInOrder.replace {f : TxFrame} {q : List TxFrame} (h : QueueInOrder q)
    (keyed : f.body.key ≠ none) : QueueInOrder (replaceKey f q) := by
  have key : ∀ g : TxFrame, (if g.body.key = f.body.key then f else g).body.key = g.body.key := by
    intro g
    split
    · next same => exact same.symm
    · rfl
  have cls : ∀ g : TxFrame, (if g.body.key = f.body.key then f else g).body.cls = g.body.cls := by
    intro g
    split
    · next same => exact (cls_of_key keyed same).symm
    · rfl
  refine ⟨by rw [replaceKey, List.length_map]; exact h.length, ?_, ?_⟩
  · simpa only [replaceKey, List.pairwise_map, cls] using h.classes
  · refine List.pairwise_map.2 (h.keys.imp fun {x y} apart => ?_)
    unfold KeysApart
    rwa [key, key]

/-- The queue is in order after a frame arrives, whichever way it is taken. -/
theorem QueueInOrder.queued {q : List TxFrame} (h : QueueInOrder q) (f : TxFrame) :
    QueueInOrder (queued q f) := by
  unfold Machine.queued
  split
  · next same =>
    refine h.replace fun none_ => ?_
    simp [none_] at same
  · next other =>
    have apart : ∀ g ∈ q, KeysApart f g := by
      intro g hg
      by_cases none_ : f.body.key = none
      · exact .inl none_
      · refine .inr fun same => other ?_
        simp only [Bool.and_eq_true, Option.isSome_iff_ne_none, List.any_eq_true, decide_eq_true_eq]
        exact ⟨none_, g, hg, same.symm⟩
    split
    · next room => exact h.insert room apart
    · split
      · next g last =>
        have some_ : q ≠ [] := by
          rintro rfl
          cases last
        have shorter : q.dropLast.length < queuePlaces := by
          have := h.length
          have := List.length_pos_iff.2 some_
          rw [List.length_dropLast]
          omega
        split
        · exact (h.sublist (List.dropLast_sublist q)).insert shorter
            fun x hx => apart x (List.mem_of_mem_dropLast hx)
        · exact h
      · exact h

/-! ### Lists and counts with a bound -/

/-- The late list and the tag counter are within their bounds (R97, R101). -/
structure TagsBounded (v : Tags) : Prop where
  late : v.late.length ≤ latePlaces
  counter : v.counter ≤ 255

/-- The speed window, the residue, the interval counter and the plausibility count are within their bounds
under an image (R23, R24, R29, R33). -/
structure MotionBounded (t : Tariff) (m : Motion) : Prop where
  window : m.window.length ≤ 5
  residue : m.residue < max 1 t.prescale
  counter : m.counter ≤ maxCount
  plausibility : m.plausibility ≤ t.nPlaus

/-- A lamp's dark and good counts are within their bounds (R148). -/
def LampBounded (l : Lamp) : Prop := l.dark ≤ 3 ∧ l.good ≤ 3

/-- Every lamp's counts are within their bounds. -/
def LampsBounded (v : PerChannel Lamp) : Prop := ∀ c, LampBounded (v.get c)

/-- Every list and count that has a bound is within it. -/
structure Bounded (s : State) : Prop where
  tags : TagsBounded s.tags
  motion : MotionBounded s.tariff s.motion
  log : s.accounts.log.length ≤ logPlaces
  lamps : LampsBounded s.sign.lamps

theorem boundsLaw_iff (s : State) : BoundsLaw s ↔ StartLaw s ∧ Bounded s := by
  constructor
  · rintro ⟨start, late, window, log, residue, counter, plausibility, tag, lamps⟩
    exact ⟨start, ⟨late, tag⟩, ⟨window, residue, counter, plausibility⟩, log, lamps⟩
  · rintro ⟨start, ⟨late, tag⟩, ⟨window, residue, counter, plausibility⟩, log, lamps⟩
    exact ⟨start, late, window, log, residue, counter, plausibility, tag, lamps⟩

/-- A change of the running part, under one image, that keeps the queue in order and the lists and counts within their bounds. -/
structure Tidy (s t : State) : Prop where
  tariff : t.tariff = s.tariff
  queue : QueueInOrder s.line.queue → QueueInOrder t.line.queue
  fifo : s.line.fifo.length ≤ fifoPlaces → t.line.fifo.length ≤ fifoPlaces
  tags : TagsBounded s.tags → TagsBounded t.tags
  motion : MotionBounded s.tariff s.motion → MotionBounded s.tariff t.motion
  log : s.accounts.log.length ≤ logPlaces → t.accounts.log.length ≤ logPlaces
  lamps : LampsBounded s.sign.lamps → LampsBounded t.sign.lamps

theorem Tidy.refl (s : State) : Tidy s s := ⟨rfl, id, id, id, id, id, id⟩

theorem Tidy.trans {s t u : State} (h : Tidy s t) (k : Tidy t u) : Tidy s u where
  tariff := k.tariff.trans h.tariff
  queue := k.queue ∘ h.queue
  fifo := k.fifo ∘ h.fifo
  tags := k.tags ∘ h.tags
  motion x := h.tariff ▸ k.motion (h.tariff.symm ▸ h.motion x)
  log := k.log ∘ h.log
  lamps := k.lamps ∘ h.lamps

theorem Tidy.ite {s t u : State} {c : Prop} [Decidable c] (h : Tidy s t) (k : Tidy s u) :
    Tidy s (if c then t else u) := by
  split <;> assumption

/-- The parts in which no list and no count with a bound stands. -/
def plainParts : List Part :=
  [.pins, .start, .marker, .clock, .tamper, .seats, .hold, .band, .payers, .charges, .intercom, .monitor,
    .display, .draws]

/-- A change within the plain parts. -/
theorem Frame.tidy {ps : List Part} {s t : State} (h : Frame ps s t)
    (sub : ps ⊆ plainParts := by decide) : Tidy s t := by
  have same : ∀ p, p ∉ plainParts → SamePart s t p := fun p hp => h p (fun m => hp (sub m))
  have tariff : t.tariff = s.tariff := same .tariff (by decide)
  have line : t.line = s.line := same .line (by decide)
  have tags : t.tags = s.tags := same .tags (by decide)
  have motion : t.motion = s.motion := same .motion (by decide)
  have accounts : t.accounts = s.accounts := same .accounts (by decide)
  have sign : t.sign = s.sign := same .sign (by decide)
  exact ⟨tariff, fun x => line ▸ x, fun x => line ▸ x, fun x => tags ▸ x, fun x => motion ▸ x,
    fun x => accounts ▸ x, fun x => sign ▸ x⟩

/-- A change of the queue and its notices. -/
theorem QueueOnly.tidy {s t : State} (h : QueueOnly s t)
    (queue : QueueInOrder s.line.queue → QueueInOrder t.line.queue) : Tidy s t :=
  ⟨h.tariff, queue, fun x => h.fifo ▸ x, fun x => h.tags ▸ x, fun x => h.motion ▸ x,
    fun x => h.accounts ▸ x, fun x => h.sign ▸ x⟩

theorem setTags_tidy {s : State} {v : Tags} (h : TagsBounded s.tags → TagsBounded v) :
    Tidy s (s.setTags v) := ⟨rfl, id, id, h, id, id, id⟩

theorem setMotion_tidy {s : State} {v : Motion}
    (h : MotionBounded s.tariff s.motion → MotionBounded s.tariff v) : Tidy s (s.setMotion v) :=
  ⟨rfl, id, id, id, h, id, id⟩

theorem setAccounts_tidy {s : State} {v : Accounts}
    (h : s.accounts.log.length ≤ logPlaces → v.log.length ≤ logPlaces) : Tidy s (s.setAccounts v) :=
  ⟨rfl, id, id, id, id, h, id⟩

theorem setSign_tidy {s : State} {v : Sign} (h : LampsBounded s.sign.lamps → LampsBounded v.lamps) :
    Tidy s (s.setSign v) := ⟨rfl, id, id, id, id, id, h⟩

theorem setLine_tidy {s : State} {v : Line}
    (queue : QueueInOrder s.line.queue → QueueInOrder v.queue)
    (fifo : s.line.fifo.length ≤ fifoPlaces → v.fifo.length ≤ fifoPlaces) : Tidy s (s.setLine v) :=
  ⟨rfl, queue, fifo, id, id, id, id⟩

/-- The line's other items. -/
theorem setLine_tidy_of_eq {s : State} {v : Line} (queue : v.queue = s.line.queue := by rfl)
    (fifo : v.fifo = s.line.fifo := by rfl) : Tidy s (s.setLine v) :=
  setLine_tidy (fun h => queue ▸ h) (fun h => fifo ▸ h)

/-! ### Frames sent -/

theorem discardNotice_tidy (f : TxFrame) (s : State) : Tidy s (discardNotice f s) :=
  (discardNotice_only f s).tidy fun h => by rwa [discardNotice_queue]

theorem enqueue_tidy (f : TxFrame) (s : State) : Tidy s (enqueue f s) :=
  (enqueue_only f s).tidy fun h => by
    rw [enqueue_queue]
    exact h.queued f

theorem send_tidy (dest : Nat) (body : TxBody) (s : State) : Tidy s (send dest body s) :=
  enqueue_tidy _ s

theorem queueStatus_tidy (s : State) : Tidy s (queueStatus s) := send_tidy _ _ s

theorem setDisplay_tidy (s : State) (d : PerSeat (Option Display)) : Tidy s (s.setDisplay d) :=
  (setDisplay_only s d).tidy id

/-! ### The sign and the intercom switch -/

/-- A computation of the sign state writes the lamps' buffers alone. -/
theorem computeSign_tidy (s : State) : Tidy s (computeSign s) :=
  setSign_tidy fun h c => by
    rw [PerChannel.get_mapIdx]
    exact h c

theorem changeIntercom_tidy (f : Intercom → Intercom) (s : State) : Tidy s (changeIntercom f s) := by
  have write := (setIntercom_frame s { f s.intercom with
    gates := gatesOf (f s.intercom).state (f s.intercom).target s.seats }).tidy
  exact .ite write (write.trans (send_tidy _ _ _))

theorem occupancyNotice_tidy (q : Seat) (w : Bool) (s : State) : Tidy s (occupancyNotice q w s) :=
  .ite (.refl s) (.ite (changeIntercom_tidy _ s) (changeIntercom_tidy _ s))

theorem takePress_tidy (k : PressKey) (s : State) : Tidy s (takePress k s) := by
  have write := (setIntercom_frame s (setPress k (some lapseTime) s.intercom)).tidy
  unfold takePress
  cases k with
  | driver => exact write.trans (changeIntercom_tidy _ _)
  | seat q =>
    exact .ite write (.ite (write.trans (send_tidy _ _ _)) (write.trans (changeIntercom_tidy _ _)))

theorem takeRelease_tidy (k : PressKey) (s : State) : Tidy s (takeRelease k s) := by
  have write := (setIntercom_frame s (setPress k none s.intercom)).tidy
  unfold takeRelease
  cases k with
  | driver => exact .ite (write.trans (changeIntercom_tidy _ _)) (.refl s)
  | seat q => exact .ite (write.trans (changeIntercom_tidy _ _)) (.refl s)

theorem guardExpires_tidy (s : State) : Tidy s (guardExpires s) :=
  .ite (changeIntercom_tidy _ s) (.refl s)

theorem talkLimitExpires_tidy (s : State) : Tidy s (talkLimitExpires s) := by
  unfold talkLimitExpires
  split
  · split
    · exact changeIntercom_tidy _ s
    · exact .refl s
  · exact .refl s

/-! ### Displays, the shift and the trip log (R54, R169, R174 to R183) -/

theorem compareDisplay_tidy (s : State) (q : Seat) : Tidy s (compareDisplay s q) := by
  unfold compareDisplay
  dsimp only
  split
  · exact .refl s
  · exact .ite (.refl s) ((setDisplay_tidy s _).trans (send_tidy _ _ _))

/-- What every item of a list keeps, their fold keeps. -/
theorem foldl_tidy {α : Type} {f : State → α → State} (h : ∀ u a, Tidy u (f u a)) (l : List α)
    (s : State) : Tidy s (l.foldl f s) := by
  induction l generalizing s with
  | nil => exact .refl s
  | cons a l ih => exact (h s a).trans (ih _)

theorem compareDisplays_tidy (s : State) : Tidy s (compareDisplays s) :=
  foldl_tidy compareDisplay_tidy allSeats s

theorem compareIfChanged_tidy (s t : State) : Tidy t (compareIfChanged s t) :=
  .ite (.refl t) (compareDisplays_tidy t)

theorem changeShift_tidy (sh : Shift) (s : State) : Tidy s (changeShift sh s) :=
  ((setAccounts_tidy (v := { s.accounts with shift := sh }) id).trans (computeSign_tidy _)).trans
    (queueStatus_tidy _)

theorem queueReport_tidy (s : State) : Tidy s (queueReport s) := by
  unfold queueReport
  split
  · exact .refl s
  · exact foldl_tidy (fun u _ => send_tidy _ _ u) _ s

theorem closeShift_tidy (s : State) : Tidy s (closeShift s) :=
  (changeShift_tidy _ s).trans (queueReport_tidy _)

theorem afterTrip_tidy (o : Bool) (s : State) : Tidy s (afterTrip o s) := by
  unfold afterTrip
  dsimp only
  split
  · exact .refl s
  · exact .ite (.refl s) (closeShift_tidy s)
  · exact .ite (.ite (changeShift_tidy _ s) ((changeShift_tidy _ s).trans (closeShift_tidy _))) (.refl s)

/-- A full log gives up its oldest record for the new one (R183). -/
theorem appendTrip_length_le (t : Trip) {log : List Trip} (h : log.length ≤ logPlaces) :
    (appendTrip t log).length ≤ logPlaces := by
  unfold appendTrip logPlaces at *
  split <;> simp <;> omega

theorem takeTrip_tidy (t : Trip) (o : Bool) (s : State) : Tidy s (takeTrip t o s) :=
  (setAccounts_tidy (v := recordTrip t s.accounts s.tariff.identity)
    (appendTrip_length_le _)).trans (afterTrip_tidy o _)

theorem countVoid_tidy (s : State) : Tidy s (countVoid s) := setAccounts_tidy id

theorem countHold_tidy (s : State) : Tidy s (countHold s) := .ite (.refl s) (setAccounts_tidy id)

/-! ### Seats and their payments (R40, R50 to R52) -/

theorem setSeat_tidy (s : State) (q : Seat) (r : SeatRecord) : Tidy s (s.setSeat q r) :=
  (setSeat_frame s q r).tidy

theorem changeSeat_tidy (q : Seat) (r : SeatRecord) (s : State) : Tidy s (changeSeat q r s) :=
  (((setSeat_tidy s q r).trans (computeSign_tidy _)).trans (occupancyNotice_tidy q _ _)).trans
    (queueStatus_tidy _)

theorem closeSeat_tidy (q : Seat) (e : TripEnd) (s : State) : Tidy s (closeSeat q e s) :=
  (((takeTrip_tidy _ _ s).trans (payersAtClose_frame q _ _).tidy).trans (changeSeat_tidy q _ _)).trans
    (compareDisplay_tidy _ q)

theorem closeIfPaid_tidy (q : Seat) (s : State) : Tidy s (closeIfPaid q s) :=
  .ite (closeSeat_tidy q _ s) (.refl s)

theorem enterPaying_tidy (q : Seat) (s : State) : Tidy s (enterPaying q s) :=
  .ite (changeSeat_tidy q _ s) (.refl s)

theorem leavePaying_tidy (q : Seat) (s : State) : Tidy s (leavePaying q s) :=
  .ite (changeSeat_tidy q _ s) (.refl s)

theorem creditCard_tidy (q : Seat) (p : Payment) (s : State) : Tidy s (creditCard q p s) :=
  .ite ((changeSeat_tidy q _ s).trans (closeIfPaid_tidy q _)) (.refl s)

theorem creditAccount_tidy (q : Seat) (p : Payment) (s : State) : Tidy s (creditAccount q p s) :=
  .ite ((setSeat_tidy s q _).trans (closeIfPaid_tidy q _)) (.refl s)

/-! ### Tags and the late list (R97, R101, R113) -/

theorem nextTag_le {n : Nat} (h : n ≤ 255) : nextTag n ≤ 255 := by
  unfold nextTag
  split <;> omega

theorem freeTag_le (t : Tags) (fuel : Nat) {n : Nat} (h : n ≤ 255) : freeTag t fuel n ≤ 255 := by
  induction fuel generalizing n with
  | zero => exact h
  | succ fuel ih =>
    unfold freeTag
    split
    · exact ih (nextTag_le h)
    · exact h

theorem newTag_le {t : Tags} (h : t.counter ≤ 255) : newTag t ≤ 255 := freeTag_le t 255 (nextTag_le h)

/-- A full late list gives up its oldest entry for the new one (R113). -/
theorem addLate_length_le (e : Tag) {late : List Tag} (h : late.length ≤ latePlaces) :
    (addLate e late).length ≤ latePlaces := by
  unfold addLate latePlaces at *
  split
  · exact h
  · split <;> simp <;> omega

theorem setCharge_tidy (q : Seat) (c : Option Charge) (e : Option Tag) (s : State) :
    Tidy s (setCharge q c e s) :=
  (setCharges_frame s _).tidy.trans (setTags_tidy fun h => ⟨h.late, h.counter⟩)

/-- A tag joins the late list, whatever its slot then holds. -/
theorem addLate_tidy (e : Tag) (slots : PerSeat (Option Tag)) (s : State) :
    Tidy s (s.setTags { s.tags with late := addLate e s.tags.late, slots := slots }) :=
  setTags_tidy fun h => ⟨addLate_length_le e h.late, h.counter⟩

theorem startCharge_tidy (q : Seat) (i : Fin 8) (p : Payer) (r : Nat) (s : State) :
    Tidy s (startCharge q i p r s) :=
  ((((setTags_tidy (v := { s.tags with counter := newTag s.tags })
    fun h => ⟨h.late, newTag_le h.counter⟩).trans (send_tidy _ _ _)).trans (setCharge_tidy _ _ _ _)).trans
    (beginCharge_frame i q _).tidy).trans (enterPaying_tidy q _)

theorem settle_tidy (q : Seat) (i : Fin 8) (p : Payer) (n : Nat) (s : State) :
    Tidy s (settle q i p n s) := (settlePayer_frame _ _ s).tidy.trans (creditAccount_tidy _ _ _)

theorem passSeat_tidy (q : Seat) (fuel : Nat) (s : State) : Tidy s (passSeat q fuel s) := by
  induction fuel generalizing s with
  | zero => exact .refl s
  | succ n ih =>
    unfold passSeat
    split
    · exact .refl s
    · split
      · exact startCharge_tidy _ _ _ _ s
      · exact (settle_tidy _ _ _ _ s).trans (ih _)

theorem chargePass_tidy (s : State) : Tidy s (chargePass s) :=
  foldl_tidy (fun u q => passSeat_tidy q passFuel u) allSeats s

theorem passCompare_tidy (s : State) : Tidy s (compareDisplays (chargePass s)) :=
  (chargePass_tidy s).trans (compareDisplays_tidy _)

theorem passAndCompare_tidy (s : State) : Tidy s (passAndCompare s) :=
  (chargePass_tidy s).trans (compareIfChanged_tidy _ _)

theorem endWithoutResult_tidy (q : Seat) (s : State) : Tidy s (endWithoutResult q s) := by
  unfold endWithoutResult
  split
  · exact (((((setCharge_tidy _ _ _ s).trans (addLate_tidy _ _ _)).trans (send_tidy _ _ _)).trans
      (endCharge_frame _ _ _ _).tidy).trans (leavePaying_tidy q _)).trans (passCompare_tidy _)
  · exact .refl s

theorem readerSilent_tidy (reader : Nat) (s : State) : Tidy s (readerSilent reader s) := by
  unfold readerSilent
  split
  · exact endWithoutResult_tidy _ s
  · exact .refl s

theorem approve_tidy (q : Seat) (c : Charge) (e : Tag) (amount tip : Nat) (s : State) :
    Tidy s (approve q c e amount tip s) := by
  unfold approve
  dsimp only
  refine Tidy.trans ?_ (passCompare_tidy _)
  refine Tidy.trans ?_ (.ite (creditCard_tidy _ _ _) (leavePaying_tidy _ _))
  refine Tidy.trans ?_ (endCharge_frame _ _ _ _).tidy
  exact (Tidy.ite (send_tidy _ _ _) (.refl s)).trans (setCharge_tidy _ _ _ _)

theorem decline_tidy (q : Seat) (c : Charge) (s : State) : Tidy s (decline q c s) :=
  (((setCharge_tidy _ _ _ s).trans (endCharge_frame _ _ _ _).tidy).trans (leavePaying_tidy q _)).trans
    (passCompare_tidy _)

theorem lateResult_tidy (e : Tag) (approved : Bool) (s : State) : Tidy s (lateResult e approved s) :=
  (Tidy.ite ((send_tidy _ _ s).trans (countVoid_tidy _)) (.refl s)).trans
    (setTags_tidy fun h => ⟨(List.length_filter_le _ _).trans h.late, h.counter⟩)

theorem presentCard_tidy (reader : Nat) (sc : Scope) (ref limit : Nat) (s : State) :
    Tidy s (presentCard reader sc ref limit s) := by
  have reply : ∀ code index, Tidy s (cardReply reader code index s) := fun _ _ => send_tidy _ _ s
  unfold presentCard
  refine .ite (reply _ _) (.ite (reply _ _) ?_)
  split
  · exact reply _ _
  · refine .ite (reply _ _) ?_
    split
    · exact reply _ _
    · exact ((setPayers_frame s _).tidy.trans (send_tidy _ _ _)).trans (passAndCompare_tidy _)

/-! ### The hold monitor (R154 to R162) -/

theorem enterHeld_tidy (c : Cause) (src : Nat) (s : State) : Tidy s (enterHeld c src s) :=
  ((((setHold_frame s _).tidy.trans (send_tidy _ _ _)).trans (queueStatus_tidy _)).trans
    (computeSign_tidy _)).trans (countHold_tidy _)

theorem markRaised_tidy (c : Cause) (src : Nat) (s : State) : Tidy s (markRaised c src s) :=
  (setHold_frame s _).tidy.trans (setMonitor_frame _ _).tidy

theorem raiseCause_tidy (c : Cause) (src : Nat) (s : State) : Tidy s (raiseCause c src s) := by
  have marked := markRaised_tidy c src s
  exact .ite marked (.ite (marked.trans (enterHeld_tidy _ _ _))
    (.ite (marked.trans (setHold_frame _ _).tidy) marked))

theorem reportCondition_tidy (c : Cause) (b : Bool) (s : State) : Tidy s (reportCondition c b s) :=
  (reportCondition_frame c b s).tidy

/-- A cause raised with its condition present. -/
theorem raiseReport_tidy (c : Cause) (src : Nat) (b : Bool) (s : State) :
    Tidy s (reportCondition c b (raiseCause c src s)) :=
  (raiseCause_tidy c src s).trans (reportCondition_tidy c b _)

theorem releaseHold_tidy (s : State) : Tidy s (releaseHold s) :=
  (((setHold_frame s _).tidy.trans (send_tidy _ _ _)).trans (queueStatus_tidy _)).trans
    (computeSign_tidy _)

theorem settleTamper_tidy (s : State) : Tidy s (settleTamper s) := by
  have effect : ∀ b u, Tidy u (tamperEffect b u) := fun b u =>
    .ite (.ite (raiseReport_tidy _ _ _ u) (reportCondition_tidy _ _ u))
      (.ite (setHold_frame u _).tidy (.refl u))
  exact .ite ((setTamperFilter_frame s _).tidy.trans (effect _ _)) (.refl s)

end Sys2Proof.Machine

/-! PROOFS. Every command of the table keeps the queue in order and the lists and counts within their bounds, or
stops the main domain, starts it or loads it; those leave them so, too (R1 to R5, R23 to R33, R97, R101, R148,
R183, R196, R198 to R200). -/

namespace Sys2Proof.Machine

-- One theorem at a time: the memory limit of the check counts the stack of every thread.
set_option Elab.async false

/-! ### Console commands (table of console commands) -/

theorem performed_tidy {src : Nat} {c : Command} {s t : State} (h : Performed src c s t) :
    Tidy s t := by
  cases c with
  | reset => subst h; exact setLine_tidy_of_eq
  | setClock day seconds =>
    subst h
    exact ((setClock_frame s _).tidy.trans (reportCondition_tidy _ _ _)).trans (evaluateAuto_frame _).tidy
  | setBand n =>
    rcases h with rfl | ⟨_, _, _, rfl⟩
    · exact (selectAuto_frame s).tidy
    · exact (setBand_frame s _).tidy
  | shiftOpen driver => rw [h.2]; exact changeShift_tidy _ s
  | shiftClose =>
    rcases h with ⟨_, ⟨_, rfl⟩ | ⟨_, rfl⟩⟩
    · exact closeShift_tidy s
    · exact changeShift_tidy _ s
  | hire seat pool =>
    obtain ⟨q, p, _, rfl⟩ := h
    exact (changeSeat_tidy _ _ s).trans (compareDisplays_tidy _)
  | stop seat =>
    rcases h with rfl | ⟨q, _, e⟩
    · exact .refl _
    · rw [e]
      exact ((changeSeat_tidy q _ s).trans (closeIfPaid_tidy q _)).trans (passCompare_tidy _)
  | resume seat =>
    obtain ⟨q, _, rfl⟩ := h
    exact (changeSeat_tidy _ _ s).trans (compareDisplays_tidy _)
  | cancel seat =>
    obtain ⟨q, _, _, rfl⟩ := h
    exact ((setSeat_tidy s q _).trans (closeSeat_tidy q _ _)).trans (compareDisplays_tidy _)
  | addExtra seat kind amount =>
    obtain ⟨q, k, n, _, rfl⟩ := h
    have write := setSeat_tidy s q (applyExtra k n (s.seat q))
    exact (Tidy.ite (write.trans (chargePass_tidy _)) write).trans (compareIfChanged_tidy s _)
  | splitExtra kind amount =>
    obtain ⟨k, n, rfl⟩ := h
    exact (setSeats_frame s _).tidy.trans (compareIfChanged_tidy s _)
  | cash seat tendered tip =>
    obtain ⟨q, _, _, _, rfl⟩ := h
    exact (((setSeat_tidy s q _).trans (closeIfPaid_tidy q _)).trans
      (.ite (chargePass_tidy _) (.refl _))).trans (compareDisplays_tidy _)
  | waive seat =>
    obtain ⟨q, _, rfl⟩ := h
    exact ((setSeat_tidy s q _).trans (closeSeat_tidy q _ _)).trans (compareDisplays_tidy _)
  | accountMap scope account limit tips =>
    obtain ⟨i, _, _, _, _, _, _, rfl⟩ := h
    exact (setPayers_frame s _).tidy.trans (passAndCompare_tidy _)
  | unmap index =>
    obtain ⟨i, _, _, _, rfl⟩ := h
    exact (setPayers_frame s _).tidy.trans (passAndCompare_tidy _)
  | flush =>
    rcases h with rfl | rfl
    · exact (setPayers_frame s _).tidy
    · exact (setPayers_frame s _).tidy.trans (passAndCompare_tidy _)
  | abortCharge seat => obtain ⟨q, _, rfl⟩ := h; exact endWithoutResult_tidy q s
  | intercomMute seat on =>
    rcases h with ⟨q, _, rfl⟩ | ⟨q, rfl⟩
    · exact changeIntercom_tidy _ s
    · exact changeIntercom_tidy _ s
  | intercomTarget target => obtain ⟨x, rfl⟩ := h; exact changeIntercom_tidy _ s
  | signMode mode pool => obtain ⟨m, p, rfl⟩ := h; exact (setSign_tidy (v := { s.sign with mode := m, pool := p }) id).trans (computeSign_tidy _)
  | holdTrigger => subst h; exact raiseCause_tidy _ _ s
  | clearCause cause => obtain ⟨x, _, rfl⟩ := h; exact (clearStatus_frame x s).tidy
  | holdRelease => rw [h.2.2]; exact releaseHold_tidy s
  | readTotals | readTrip | probeSeat | probeIndex | readHold => rw [h]; exact .refl _

theorem perform_tidy (src : Nat) (c : Command) (s : State) : Tidy s (perform src c s).1 := by
  rcases perform_cases src c s with e | h
  · rw [e]
    exact .refl s
  · exact performed_tidy h

/-! ### The command FIFO (R196, R197) -/

theorem drawEcho_tidy (payload : List Byte) (s : State) : Tidy s (drawEcho payload s) :=
  .ite (setDraws_frame s _).tidy (.refl s)

theorem takeEntry_tidy (v : Option Bool) (e : FifoEntry) (s : State) : Tidy s (takeEntry v e s) := by
  have performed : Tidy s (performDecoded v e.source (decodeCommand e.payload) s).1 := by
    unfold performDecoded
    split
    · exact (withService_frame_any v _ s).tidy.trans (perform_tidy _ _ _)
    · exact .refl s
  exact ((performed.trans (setLine_tidy_of_eq)).trans (enqueue_tidy _ _)).trans (drawEcho_tidy _ _)

/-- A command taken leaves the FIFO shorter. -/
theorem takeCommands_tidy (v : Option Bool) (s : State) : Tidy s (takeCommands v s) :=
  drain_induct (P := Tidy s)
    (fun e rest u h waiting _ => (h.trans (setLine_tidy (v := { u.line with fifo := rest }) id
      fun le => (Nat.le_of_succ_le (by rw [waiting] at le; exact le)))).trans (takeEntry_tidy v e _))
    _ s (.refl s)

/-- A COMMAND joins the FIFO only where it has a place (R196). -/
theorem arrive_tidy (e : FifoEntry) (s : State) : Tidy s (arrive e s) := by
  unfold arrive
  split
  · next room =>
    refine setLine_tidy id fun _ => ?_
    rw [List.length_append, List.length_singleton]
    exact room
  · exact (enqueue_tidy _ s).trans (drawEcho_tidy _ _)

theorem consoleRow_tidy (v : Option Bool) (seq : Byte) (c : Command) (s : State) :
    Tidy s (consoleRow v seq c s) := by
  unfold consoleRow
  split
  · split
    · exact (arrive_tidy _ s).trans (takeCommands_tidy v _)
    · exact .refl s
  · exact .refl s

/-! ### The motion unit (R21 to R36) -/

theorem pulseLevel_tidy (l : Level) (s : State) : Tidy s (pulseLevel l s) := by
  have pin : Tidy s (s.setPins { s.pins with pulse := l }) := (setPins_frame s _).tidy
  unfold pulseLevel
  dsimp only
  split
  · exact pin
  · exact pin.trans (setMotion_tidy fun h => ⟨h.window, h.residue, h.counter, h.plausibility⟩)

/-- An edge leaves the residue below what the prescaler divides by (R23). -/
theorem countEdge_bounded {t : Tariff} {m : Motion} (h : MotionBounded t m) :
    MotionBounded t (countEdge t.prescale m) := by
  unfold countEdge
  split
  · next more => exact ⟨h.window, lt_max_of_lt_right more, h.counter, h.plausibility⟩
  · exact ⟨h.window, lt_max_of_lt_left Nat.one_pos, heldAdd_le _ _ _, h.plausibility⟩

theorem settlePulse_tidy (s : State) : Tidy s (settlePulse s) := by
  unfold settlePulse
  refine .ite (setMotion_tidy fun h => ?_) (.refl s)
  have settled : MotionBounded s.tariff
      { s.motion with settled := some s.pins.pulse, changing := false } :=
    ⟨h.window, h.residue, h.counter, h.plausibility⟩
  split
  · exact countEdge_bounded settled
  · exact settled

/-- A full window gives up its oldest count for the new one (R29). -/
theorem pushWindow_length_le (dp : Nat) {w : List Nat} (h : w.length ≤ 5) :
    (pushWindow dp w).length ≤ 5 := by
  unfold pushWindow
  split <;> simp <;> omega

theorem deliverDistance_tidy (dp : Nat) (s : State) : Tidy s (deliverDistance dp s) :=
  setAccounts_tidy id

theorem updateSpeed_tidy (dp : Nat) (s : State) : Tidy s (updateSpeed dp s) :=
  setMotion_tidy fun h => ⟨pushWindow_length_le dp h.window, h.residue, h.counter, h.plausibility⟩

/-- The plausibility count set within its bound. -/
theorem setPlausibility_tidy {n : Nat} {s : State} (h : n ≤ s.tariff.nPlaus) :
    Tidy s (s.setMotion { s.motion with plausibility := n }) :=
  setMotion_tidy fun k => ⟨k.window, k.residue, k.counter, h⟩

theorem clearPulseLoss_tidy (s : State) : Tidy s (clearPulseLoss s) :=
  (setPlausibility_tidy (Nat.zero_le _)).trans (reportCondition_tidy _ _ _)

theorem expireInterval_tidy (s : State) : Tidy s (expireInterval s) := by
  have taken : Tidy s (takeCount s) := by
    have reset : Tidy s (s.setMotion { s.motion with counter := 0 }) :=
      setMotion_tidy fun h => ⟨h.window, h.residue, Nat.zero_le _, h.plausibility⟩
    exact .ite (reset.trans (raiseCause_tidy _ _ _)) reset
  have delivered : ∀ dp u, Tidy u (deliverFare dp u) := fun dp u =>
    (setSeats_frame u _).tidy.trans (compareDisplays_tidy _)
  have told : ∀ dp u, Tidy u (tellCount dp u) := fun dp u => by
    have speed : Tidy u (updateSpeed dp (deliverDistance dp u)) :=
      (deliverDistance_tidy dp u).trans (updateSpeed_tidy dp _)
    exact .ite (speed.trans (clearPulseLoss_tidy _)) speed
  rw [expireInterval_eq]
  exact .ite ((taken.trans (delivered _ _)).trans (told _ _)) (.refl s)

/-- The count grows only below N_plaus (R34). -/
theorem doubtPulses_tidy (s : State) : Tidy s (doubtPulses s) := by
  unfold doubtPulses
  split
  · next below =>
    have count := setPlausibility_tidy (s := s) (n := s.motion.plausibility + 1) below
    exact .ite (count.trans (raiseReport_tidy _ _ _ _)) count
  · exact .refl s

theorem navSpeed_tidy (valid : Bool) (speed : Nat) (s : State) : Tidy s (navSpeed valid speed s) :=
  .ite (setPlausibility_tidy (Nat.zero_le _)) (.ite (clearPulseLoss_tidy s)
    (.ite (setPlausibility_tidy (Nat.zero_le _)) (doubtPulses_tidy s)))

/-! ### Lamps (R148, R149) -/

theorem sampleLamp_bounded (lit : Bool) (l : Lamp) : LampBounded (sampleLamp lit l) := by
  unfold sampleLamp
  split
  · exact ⟨Nat.zero_le _, heldAdd_le _ _ _⟩
  · exact ⟨heldAdd_le _ _ _, Nat.zero_le _⟩

theorem sampleLamps_bounded (sense : BitVec 8) {v : PerChannel Lamp} (h : LampsBounded v) :
    LampsBounded (sampleLamps sense v) := by
  intro c
  rw [sampleLamps, PerChannel.get_mapIdx]
  split
  · exact sampleLamp_bounded _ _
  · exact h c

theorem reportLamps_tidy (before after : PerChannel Lamp) (s : State) :
    Tidy s (reportLamps before after s) := by
  have raised : Tidy s (reportedChannels.foldl (raiseLamp before after) s) :=
    foldl_tidy (fun u _ => .ite (raiseReport_tidy _ _ _ u) (.refl u)) _ s
  exact .ite (raised.trans (reportCondition_tidy _ _ _)) raised

theorem latchLamps_tidy (s : State) : Tidy s (latchLamps s) :=
  setSign_tidy fun below c => by
    rw [PerChannel.get_mapIdx]
    exact below c

theorem lampBoundary_tidy (sense : BitVec 8) (s : State) : Tidy s (lampBoundary sense s) := by
  have pin : Tidy s (s.setPins { s.pins with sense := sense }) := (setPins_frame s _).tidy
  have sampled : Tidy (s.setPins { s.pins with sense := sense }) ((s.setPins { s.pins with sense := sense }).setSign
      { s.sign with lamps := sampleLamps sense s.sign.lamps }) := setSign_tidy (sampleLamps_bounded sense)
  exact .ite (((pin.trans sampled).trans (reportLamps_tidy _ _ _)).trans (latchLamps_tidy _)) pin

/-! ### Stations and received frames (R191 to R195) -/

theorem setTimer_tidy (addr : Nat) (t : Timer) (s : State) : Tidy s (setTimer addr t s) :=
  setLine_tidy_of_eq

theorem hear_tidy (e : Station) (s : State) : Tidy s (hear e s) := by
  have heard := setTimer_tidy e.addr (some presenceTime) s
  refine .ite heard (heard.trans ?_)
  unfold presentNotice
  split
  · exact passAndCompare_tidy _
  · split
    · exact (setDisplay_tidy _ _).trans (compareDisplay_tidy _ _)
    · exact .refl _
  all_goals exact .refl _

theorem silentNotice_tidy (e : Station) (s : State) : Tidy s (silentNotice e s) := by
  unfold silentNotice
  split
  · exact readerSilent_tidy _ s
  · split
    · exact takeRelease_tidy _ s
    · exact .refl s
  · exact takeRelease_tidy _ s
  · exact setPlausibility_tidy (Nat.zero_le _)
  all_goals exact .refl s

theorem presenceExpires_tidy (addr : Nat) (s : State) : Tidy s (presenceExpires addr s) := by
  unfold presenceExpires
  split
  · exact .ite ((setTimer_tidy _ _ s).trans (silentNotice_tidy _ _)) (.refl s)
  · exact .refl s

theorem takeResult_tidy (src tag outcome amount tip : Nat) (s : State) :
    Tidy s (takeResult src tag outcome amount tip s) := by
  have raised := raiseCause_tidy .source src s
  unfold takeResult
  refine .ite (.refl s) ?_
  split
  · unfold chargeAnswer
    split
    · exact .ite (.ite (approve_tidy _ _ _ _ _ s) (decline_tidy _ _ s)) raised
    · exact .refl s
  · split
    · exact .ite (lateResult_tidy _ _ s) raised
    · exact .refl s

theorem deliverTalk_tidy (e : Station) (held : Byte) (s : State) : Tidy s (deliverTalk e held s) := by
  unfold deliverTalk takeTalk
  split
  · split
    · exact takePress_tidy _ s
    · exact takeRelease_tidy _ s
    · exact .refl s
  · exact .refl s

theorem deliverCard_tidy (e : Station) (ref limit : Nat) (s : State) :
    Tidy s (deliverCard e ref limit s) := by
  unfold deliverCard
  split
  · exact presentCard_tidy _ _ _ _ s
  · exact .refl s

theorem deliver_tidy (e : Station) (kind : Nat) (payload : List Byte) (s : State) :
    Tidy s (deliver e kind payload s) := by
  unfold deliver
  split
  · exact arrive_tidy _ s
  · exact deliverTalk_tidy e _ s
  · exact deliverCard_tidy e _ _ s
  · exact takeResult_tidy _ _ _ _ _ s
  · exact (navSpeed_tidy _ _ s).trans (setSign_tidy id)
  · exact (raiseCause_tidy _ _ s).trans (setMonitor_frame _ _).tidy
  · exact .refl s

theorem takeFrame_tidy (f : RxFrame) (s : State) : Tidy s (takeFrame f s) := by
  unfold takeFrame
  split
  · exact (hear_tidy _ s).trans (deliver_tidy _ _ _ _)
  · exact raiseCause_tidy _ _ s

theorem overhear_tidy (f : RxFrame) (s : State) : Tidy s (overhear f s) := by
  unfold overhear
  split
  · exact hear_tidy _ s
  · exact .refl s

theorem receiveFrame_tidy (v : Option Bool) (f : RxFrame) (s : State) : Tidy s (receiveFrame v f s) :=
  .ite ((Tidy.ite (takeFrame_tidy f s) (overhear_tidy f s)).trans (takeCommands_tidy v _)) (.refl s)

theorem receiveBytes_tidy (bytes : List Byte) (s : State) : Tidy s (receiveBytes bytes s) := by
  unfold receiveBytes
  split
  · exact receiveFrame_tidy none _ s
  · exact .refl s

/-! ### Sending on the line (R188, R201) -/

/-- The frame that wins the line leaves the queue. -/
theorem contend_tidy (others : List Contender) (s : State) : Tidy s (contend others s) := by
  unfold contend
  split
  · next waiting =>
    refine .ite (setLine_tidy (fun h => ?_) id) (.refl s)
    rw [waiting] at h
    exact h.sublist (List.sublist_cons_self _ _)
  · exact .refl s

theorem transmissionFails_tidy (s : State) : Tidy s (transmissionFails s) := by
  unfold transmissionFails
  split
  · exact .refl s
  · exact ((setLine_tidy_of_eq).trans (discardNotice_tidy _ _)).trans (takeCommands_tidy none _)

theorem transmissionEnds_tidy (s : State) : Follows Tidy s (transmissionEnds s) := by
  unfold transmissionEnds
  split
  · exact .runs (.refl s)
  · have sent : Tidy s (s.setLine { s.line with transmitting := none }) := setLine_tidy_of_eq
    dsimp only
    split
    · unfold answerSent
      split
      · exact .starts _ (setLine_frame s _).mono rfl
      · exact .runs ((sent.trans (setLine_tidy_of_eq)).trans (takeCommands_tidy none _))
    · exact .runs sent

/-! ### Every command of the table -/

theorem event_tidy {c : Instr} {s t : State} (event : Laws.commandOf c = none)
    (h : exec c s = .next t) : Follows Tidy s t := by
  have taken : ∀ {u : State}, Tidy s u → Follows Tidy s (takeCommands none u) :=
    fun x => .runs (x.trans (takeCommands_tidy none _))
  have supply := supply_follows (R := Tidy) (c := c) (s := s) (t := t) (fun _ f => f.tidy)
  cases c <;> cases h
  case pgoodRise | pgoodFall | rstAssert | rstRelease | vbakLoss | imageReadTimeout | loadCompletion =>
    exact supply (by simp) rfl
  case resetTimerExpiry =>
    unfold resetExpires
    split
    · exact .starts s (.refl _ s) rfl
    · exact .runs (.refl s)
  case clockTick => exact .runs ((setClock_frame s _).tidy.trans (passMinute_frame _).tidy)
  case minuteBoundary => exact .runs (passMinute_frame s).tidy
  case pulseChange l => exact .runs (pulseLevel_tidy l s)
  case settledEdge => exact .runs (settlePulse_tidy s)
  case intervalExpiry => exact taken (expireInterval_tidy s)
  case tamperChange => exact .runs ((setPins_frame s _).tidy.trans (setTamperFilter_frame _ _).tidy)
  case tamperSettled => exact taken (settleTamper_tidy s)
  case lineIdle others => exact .runs (contend_tidy others s)
  case transmissionComplete => exact transmissionEnds_tidy s
  case transmissionAbandoned => exact .runs (transmissionFails_tidy s)
  case frameDiscarded bytes => exact .runs (receiveBytes_tidy bytes s)
  case presenceTimeout a => exact taken (presenceExpires_tidy a.toNat s)
  case statusTimerExpiry =>
    exact .runs (.ite ((queueStatus_tidy s).trans (takeCommands_tidy none _)) (.refl s))
  case chargeTimerExpiry q => exact taken (endWithoutResult_tidy q s)
  case pressLapse k => exact taken (takeRelease_tidy k s)
  case guardExpiry => exact taken (guardExpires_tidy s)
  case talkLimitExpiry => exact taken (talkLimitExpires_tidy s)
  case lampPeriodBoundary sense => exact taken (lampBoundary_tidy sense s)
  case frameToOtherStation | command | talk | cardPresented | chargeResult | navReport | faultReport
      | heartbeat => exact .runs (receiveFrame_tidy _ _ s)
  all_goals cases event

theorem exec_tidy {c : Instr} {s t : State} (h : exec c s = .next t) : Follows Tidy s t := by
  rcases row_or_event c with ⟨service, seq, x, rfl⟩ | event
  · rw [exec_rowOf] at h
    cases h
    exact .runs (consoleRow_tidy _ seq x s)
  · exact event_tidy event h

/-! ### Stops, starts and load completions (R1 to R5) -/

theorem warmStartSeat_tidy (s : State) (q : Seat) : Tidy s (warmStartSeat s q) :=
  .ite ((changeSeat_tidy q _ s).trans (closeIfPaid_tidy q _)) (setSeat_tidy s q _)

theorem retireSlot_tidy (s : State) (q : Seat) : Tidy s (retireSlot s q) := by
  unfold retireSlot
  split
  · exact .refl s
  · have listed := addLate_tidy ‹_› (s.tags.slots.set q none) s
    exact .ite (listed.trans (send_tidy _ _ _)) listed

theorem resumeTrips_tidy (s : State) : Tidy s (resumeTrips s) :=
  ((foldl_tidy warmStartSeat_tidy allSeats s).trans (.ite (raiseCause_tidy _ _ _) (.refl _))).trans
    (foldl_tidy retireSlot_tidy allSeats _)

theorem monitorStartWork_tidy (s : State) : Tidy s (monitorStartWork s) := by
  have raise : ∀ c u, Tidy u (raiseIfPresent c u) := fun c u => .ite (raiseCause_tidy _ _ u) (.refl u)
  have enter : ∀ u, Tidy u (enterIfCalled u) := fun u => by
    unfold enterIfCalled
    refine .ite (.refl u) ?_
    split
    · exact enterHeld_tidy _ _ u
    · exact .refl u
  have reported : Tidy s (causesReported s) := by
    have conditions : Tidy s (startConditions s) := (setMonitor_frame s _).tidy
    exact .ite (conditions.trans (clearStatus_frame _ _).tidy) conditions
  exact (((reported.trans (raise _ _)).trans (raise _ _)).trans (raise _ _)).trans (enter _)

theorem retainedWork_tidy (s : State) : Tidy s (retainedWork s) := by
  have seats : ∀ u, Tidy u (warmStartSeats u) := foldl_tidy warmStartSeat_tidy allSeats
  have draw := (setDraws_frame s (s.draws + 1)).tidy
  unfold retainedWork warmWork
  split
  · exact monitorStartWork_tidy s
  · exact .ite (.ite ((draw.trans (monitorStartWork_tidy _)).trans (resumeTrips_tidy _))
      ((draw.trans (resumeTrips_tidy _)).trans (monitorStartWork_tidy _)))
      ((seats s).trans (monitorStartWork_tidy _))

/-- The start work is in order after step 4's outcome is in force. -/
theorem startWork_tidy (l : Loaded) (s : State) : Tidy (putInForce l s) (startWork l s) := by
  have told : Tidy (putInForce l s) (intercomStartWork (putInForce l s)) :=
    .ite (send_tidy _ _ _) (.refl _)
  exact ((told.trans (retainedWork_tidy _)).trans (computeSign_tidy _)).trans (queueStatus_tidy _)

theorem queueInOrder_nil : QueueInOrder [] := ⟨Nat.zero_le _, .nil, .nil⟩

theorem putInForce_line (l : Loaded) (s : State) :
    (putInForce l s).line = { s.line with roster := l.roster, statusTimer := some statusTime } := by
  rw [putInForce_state, imageTaken_eq]
  rfl

theorem beginStart_line (s : State) : (beginStart s).line = lineStart := by
  unfold beginStart readMarker
  split <;> rfl

theorem exec_keeps_queueInOrder {c : Instr} {s t : State} (h : QueueInOrder s.line.queue)
    (e : exec c s = .next t) : QueueInOrder t.line.queue := by
  cases exec_tidy e with
  | runs r => exact r.queue h
  | stops u _ e => subst e; exact queueInOrder_nil
  | starts u _ e => rw [e, beginStart_line]; exact queueInOrder_nil
  | loads bytes _ e => subst e; exact (startWork_tidy _ s).queue (by rwa [putInForce_line])
  | backup e => subst e; exact h

theorem exec_keeps_fifoLaw {c : Instr} {s t : State} (h : FifoLaw s) (e : exec c s = .next t) :
    FifoLaw t := by
  cases exec_tidy e with
  | runs r => exact r.fifo h
  | stops u _ e => subst e; exact Nat.zero_le _
  | starts u _ e => rw [e, FifoLaw, beginStart_line]; exact Nat.zero_le _
  | loads bytes _ e => subst e; exact (startWork_tidy _ s).fifo (by rwa [putInForce_line])
  | backup e => subst e; exact h

theorem Tidy.bounded {s t : State} (h : Tidy s t) (k : Bounded s) : Bounded t := by
  obtain ⟨tags, motion, log, lamps⟩ := k
  exact ⟨h.tags tags, h.tariff ▸ h.motion motion, h.log log, h.lamps lamps⟩

/-- A motion unit at its start is within its bounds, whatever the filter and the interval timer (R37). -/
theorem motionBounded_start (t : Tariff) (settled : Option Level) (timer : Timer) :
    MotionBounded t { motionStart with settled := settled, intervalTimer := timer } :=
  ⟨Nat.zero_le _, lt_max_of_lt_left Nat.one_pos, Nat.zero_le _, Nat.zero_le _⟩

theorem lampsBounded_start : LampsBounded signStart.lamps := fun c => by
  rw [show signStart.lamps = channelsOf lampStart from rfl, channelsOf_get]
  exact ⟨Nat.zero_le _, Nat.zero_le _⟩

/-- A stop sets the main domain's counts to 0 and keeps the retained lists (R1, R4). -/
theorem stopMain_bounded {s : State} (h : Bounded s) : Bounded (stopMain s) := by
  obtain ⟨tags, -, log, -⟩ := h
  rw [stopMain_eq]
  exact ⟨tags, motionBounded_start _ _ _, log, lampsBounded_start⟩

theorem coldInit_bounded {s : State} (h : Bounded s) : Bounded (coldInit s) := by
  obtain ⟨-, motion, -, lamps⟩ := h
  exact ⟨⟨Nat.zero_le _, Nat.zero_le _⟩, motion, Nat.zero_le _, lamps⟩

theorem beginStart_bounded {s : State} (h : Bounded s) : Bounded (beginStart s) := by
  have stopped := stopMain_bounded h
  have marked : Bounded (readMarker (stopMain s)) := by
    unfold readMarker
    split
    · exact stopped
    · exact coldInit_bounded stopped
  exact ⟨marked.tags, marked.motion, marked.log, marked.lamps⟩

/-- Step 4's outcome finds the motion unit at its start and leaves the counts at 0 (R37). -/
theorem putInForce_bounded {l : Loaded} {s : State} (start : s.motion = motionStart) (h : Bounded s) :
    Bounded (putInForce l s) := by
  obtain ⟨tags, -, log, lamps⟩ := h
  refine ⟨?_, ?_, ?_, ?_⟩
  · rw [show (putInForce l s).tags = s.tags from putInForce_frame l s .tags (by decide)]
    exact tags
  · rw [putInForce_motion, start]
    split
    · exact motionBounded_start _ _ _
    · exact motionBounded_start _ _ _
  · rw [putInForce_accounts]
    exact log
  · rw [putInForce_state, imageTaken_eq]
    exact lamps

theorem exec_keeps_bounded {c : Instr} {s t : State} (start : StartLaw s) (h : Bounded s)
    (e : exec c s = .next t) : Bounded t := by
  have moved : ∀ {u}, Frame [.pins, .line] s u → Bounded u := fun f => by
    have tags := f .tags (by decide)
    have motion := f .motion (by decide)
    have tariff := f .tariff (by decide)
    have accounts := f .accounts (by decide)
    have sign := f .sign (by decide)
    simp only [SamePart] at tags motion tariff accounts sign
    exact ⟨tags ▸ h.tags, tariff ▸ motion ▸ h.motion, accounts ▸ h.log, sign ▸ h.lamps⟩
  cases exec_tidy e with
  | runs r => exact r.bounded h
  | stops u f e => subst e; exact stopMain_bounded (moved f.mono)
  | starts u f e => subst e; exact beginStart_bounded (moved f)
  | loads bytes reading e =>
    subst e
    obtain ⟨main, read, -⟩ := start
    obtain ⟨-, -, -, motion, -⟩ := main (read reading)
    exact (startWork_tidy _ s).bounded (putInForce_bounded motion h)
  | backup e => subst e; exact ⟨h.tags, h.motion, h.log, h.lamps⟩

/-- Settles O5: every change of the running part is tidy, a stop and a start empty the main domain's lists and
counts, and a load completion finds them so. -/
theorem stepKeepsQueuesAndBounds : Obligations.StepKeepsQueuesAndBounds := by
  refine ⟨?_, ?_, ?_⟩
  · exact keptByStep_of (fun _ _ h => h) fun c s t h e =>
      (queueLaw_iff t).2 (exec_keeps_queueInOrder ((queueLaw_iff s).1 h) e)
  · exact keptByStep_of (fun _ _ h => h) fun _ _ _ => exec_keeps_fifoLaw
  · refine keptByStep_of (fun _ _ h => h) fun c s t h e => ?_
    obtain ⟨start, bounded⟩ := (boundsLaw_iff s).1 h
    exact (boundsLaw_iff t).2 ⟨exec_keeps_startLaw start e, exec_keeps_bounded start bounded e⟩

end Sys2Proof.Machine

/-! PROOFS. The motion unit and the distance: the pulse chain, the distance converter and the totals it feeds, and
an interval's expiry as a whole (R21 to R33, R168, R170 to R172). -/

namespace Sys2Proof.Machine

-- One theorem at a time: the memory limit of the check counts the stack of every thread.
set_option Elab.async false

/-! ### The pulse chain (R21 to R24) -/

theorem pulseLevel_of_unsettled {s : State} (h : s.motion.settled = none) (l : Level) :
    pulseLevel l s = { s with pins := { s.pins with pulse := l } } := by
  simp [pulseLevel, h, State.setPins]

theorem pulseLevel_of_settled {s : State} {m : Level} (h : s.motion.settled = some m) (l : Level) :
    pulseLevel l s = { s with
      pins := { s.pins with pulse := l }, motion := { s.motion with changing := decide (l ≠ m) } } := by
  simp [pulseLevel, h, State.setPins, State.setMotion]

theorem passesEdge_iff (mode : EdgeMode) (level : Level) :
    passesEdge mode level = true ↔
      mode = .both ∨ mode = .falling ∧ level = .low ∨ mode = .rising ∧ level = .high := by
  cases mode <;> simp [passesEdge]

/-- An edge that the mode does not pass is one to the other level (R22). -/
theorem passesEdge_eq_false {mode : EdgeMode} {level : Level}
    (h : mode = .falling ∧ level = .high ∨ mode = .rising ∧ level = .low) :
    passesEdge mode level = false := by
  rcases h with ⟨rfl, rfl⟩ | ⟨rfl, rfl⟩ <;> rfl

theorem settlePulse_still {s : State} (h : s.motion.changing = false) : settlePulse s = s := by
  simp [settlePulse, h]

theorem settlePulse_blocked {s : State} (changing : s.motion.changing = true)
    (blocked : passesEdge s.tariff.edge s.pins.pulse = false) :
    settlePulse s = { s with
      motion := { s.motion with settled := some s.pins.pulse, changing := false } } := by
  simp [settlePulse, changing, blocked, State.setMotion]

theorem settlePulse_passed {s : State} (changing : s.motion.changing = true)
    (passed : passesEdge s.tariff.edge s.pins.pulse = true) :
    settlePulse s = { s with
      motion := countEdge s.tariff.prescale
        { s.motion with settled := some s.pins.pulse, changing := false } } := by
  simp [settlePulse, changing, passed, State.setMotion]

/-- Settles O24: an edge is counted exactly if its mode passes it, and the one that fills the residue emits the
count. -/
theorem pulseChainCounts : Obligations.PulseChainCounts := by
  intro s l
  refine ⟨fun none_ => congrArg Host.Outcome.next (pulseLevel_of_unsettled none_ l),
    fun m some_ => congrArg Host.Outcome.next (pulseLevel_of_settled some_ l),
    fun still => congrArg Host.Outcome.next (settlePulse_still still), fun changing => ⟨fun other => ?_,
    fun passes => ?_⟩⟩
  · exact congrArg Host.Outcome.next (settlePulse_blocked changing (passesEdge_eq_false other))
  · have taken : exec .settledEdge s = .next _ :=
      congrArg Host.Outcome.next (settlePulse_passed changing ((passesEdge_iff _ _).2 passes))
    refine ⟨fun more => ?_, fun full => ?_⟩
    · rw [taken, countEdge, if_pos more]
    · rw [taken, countEdge, if_neg (Nat.not_lt.2 full)]
      rfl

/-! ### The distance converter (R31) -/

/-- Below the limit no fraction of a metre is lost. -/
theorem addDistance_exact {t : Tariff} {limit dp : Nat} {m : Metres}
    (below : m.metres + (m.rem + dp * 1000 * t.prescale) / pulsesPerKm t ≤ limit) :
    (addDistance t limit dp m).metres * pulsesPerKm t + (addDistance t limit dp m).rem
      = m.metres * pulsesPerKm t + m.rem + dp * 1000 * t.prescale := by
  unfold addDistance
  split
  · next none_ => simp [none_]
  · have parts := Nat.div_add_mod' (m.rem + dp * 1000 * t.prescale) (pulsesPerKm t)
    simp only [heldAdd, Nat.min_eq_right below, Nat.add_mul]
    omega

theorem addDistance_rem_lt {t : Tariff} {limit dp : Nat} {m : Metres} (pos : 0 < pulsesPerKm t)
    (h : m.rem < pulsesPerKm t) : (addDistance t limit dp m).rem < pulsesPerKm t := by
  unfold addDistance
  split
  · exact h
  · exact Nat.mod_lt _ pos

/-- The metres that an accumulator comes to with further pulses are those of its whole count. -/
theorem metres_with {k : Nat} (pos : 0 < k) (metres rem more : Nat) :
    metres + (rem + more) / k = (metres * k + rem + more) / k := by
  rw [Nat.add_assoc, Nat.mul_comm, Nat.mul_add_div pos]

theorem distance_converter_is_exact : Claims.DistanceConverterIsExact := by
  intro t limit counts m pos below
  induction counts generalizing m with
  | nil => simp
  | cons dp counts ih =>
    have sum : (dp :: counts).sum * 1000 * t.prescale
        = dp * 1000 * t.prescale + counts.sum * 1000 * t.prescale := by
      rw [List.sum_cons, Nat.add_mul, Nat.add_mul]
    rw [sum] at below ⊢
    rw [← Nat.add_assoc] at below ⊢
    have least : m.metres + (m.rem + dp * 1000 * t.prescale) / pulsesPerKm t ≤ limit :=
      (Nat.add_le_add_left (Nat.div_le_div_right (Nat.le_add_right _ _)) _).trans below
    have exact_ := addDistance_exact least
    have rest : (addDistance t limit dp m).metres
        + ((addDistance t limit dp m).rem + counts.sum * 1000 * t.prescale) / pulsesPerKm t ≤ limit := by
      rw [metres_with pos, exact_]
      rwa [Nat.add_assoc m.rem, metres_with pos, ← Nat.add_assoc] at below
    obtain ⟨whole, rem⟩ := ih (addDistance t limit dp m) rest
    rw [exact_] at whole
    exact ⟨whole, fun h => rem (addDistance_rem_lt pos h)⟩

/-! ### The totals of a delivery (R168, R170, R171) -/

/-- Some seat is HIRED. -/
def SomeHired (v : PerSeat SeatRecord) : Prop := ∃ q, (v.get q).state = .hired

theorem anyHired_iff (v : PerSeat SeatRecord) : v.any (fun r => r.hired) = true ↔ SomeHired v := by
  rw [PerSeat.any_iff]
  simp [SeatRecord.hired, SomeHired]

theorem riders_pos_iff (v : PerSeat SeatRecord) : 0 < riders v ↔ SomeHired v := by
  rw [Nat.pos_iff_ne_zero, ne_eq, riders_eq_zero]
  simp [SomeHired]

/-- The shift's total that takes a delivery's distance, by its seats and its hold state. -/
theorem deliverDistance_totals_open {s : State} (h : s.accounts.shift.state ≠ .closed) (dp : Nat) :
    (deliverDistance dp s).accounts.shift.totals
      = shareDistance s.tariff dp (s.seats.any (fun r => r.hired)) s.hold.held s.accounts.shift.totals :=
  if_neg h

theorem deliverDistance_totals_closed {s : State} (h : s.accounts.shift.state = .closed) (dp : Nat) :
    (deliverDistance dp s).accounts.shift.totals = s.accounts.shift.totals :=
  if_pos h

theorem deliverDistance_hired (dp : Nat) (s : State) :
    (deliverDistance dp s).accounts.totalizers.hired =
      if s.seats.any (fun r => r.hired) && !s.hold.held then
        addDistance s.tariff max32 dp s.accounts.totalizers.hired
      else s.accounts.totalizers.hired := rfl

theorem distance_goes_to_one_total : Claims.DistanceGoesToOneTotal := by
  intro dp s t x hired
  have some_ : hired → s.seats.any (fun r => r.hired) = true := (anyHired_iff s.seats).2
  have none_ : ¬hired → s.seats.any (fun r => r.hired) = false := fun h =>
    Bool.eq_false_iff.2 fun any => h ((anyHired_iff s.seats).1 any)
  refine ⟨rfl, fun ⟨h, running⟩ => ?_, fun h => ?_, fun closed => deliverDistance_totals_closed closed dp,
    fun open_ => ⟨fun h running => ?_, fun h held => ?_, fun h => ?_⟩⟩
  · rw [deliverDistance_hired, some_ h, running]
    rfl
  · rw [deliverDistance_hired, if_neg]
    rcases h with vacant | held
    · simp [none_ vacant]
    · simp [held]
  · rw [deliverDistance_totals_open open_, some_ h, running]
    rfl
  · rw [deliverDistance_totals_open open_, some_ h, held]
    rfl
  · rw [deliverDistance_totals_open open_, none_ h]
    rfl

/-- Settles O26: each count's metres and remainder keep the pulses taken, and a delivery's branch is its seats'
and its hold state's. -/
theorem distanceIsExactAndAttributed : Obligations.DistanceIsExactAndAttributed :=
  ⟨distance_goes_to_one_total, distance_converter_is_exact⟩

/-! ### What a raise leaves of the accounts (R181) -/

/-- The accounts but for the shift's count of holds. -/
def HoldsCounted (a b : Accounts) : Prop :=
  ∃ n, b = { a with shift := { a.shift with totals := { a.shift.totals with holds := n } } }

theorem HoldsCounted.refl (a : Accounts) : HoldsCounted a a := ⟨a.shift.totals.holds, rfl⟩

theorem countHold_accounts (s : State) : HoldsCounted s.accounts (countHold s).accounts := by
  unfold countHold
  dsimp only
  split
  · exact .refl _
  · exact ⟨_, rfl⟩

theorem enterHeld_accounts (c : Cause) (src : Nat) (s : State) :
    HoldsCounted s.accounts (enterHeld c src s).accounts := by
  have counted : ∀ u : State, u.accounts = s.accounts →
      HoldsCounted s.accounts (countHold u).accounts := fun u e => e ▸ countHold_accounts u
  exact counted (computeSign (queueStatus _)) ((queueStatus_only _).accounts.trans (send_only _ _ _).accounts)

/-- A raise may count a hold of the shift, and changes nothing else of the accounts. -/
theorem raiseCause_accounts (c : Cause) (src : Nat) (s : State) :
    HoldsCounted s.accounts (raiseCause c src s).accounts := by
  unfold raiseCause
  dsimp only
  split
  · exact .refl _
  · split
    · exact enterHeld_accounts c src (markRaised c src s)
    · split <;> exact .refl _

/-! ### An interval's expiry (R26 to R30) -/

/-- What the first part of an expiry leaves: the counter at 0, and OVERRUN raised from a full count (R26, steps
1 and 2). -/
structure CountTaken (s u : State) : Prop where
  raised : RaiseOnly (s.setMotion { s.motion with counter := 0 }) u
  accounts : HoldsCounted s.accounts u.accounts
  held : u.hold.held = (s.hold.held || (s.motion.counter = 255 && !s.monitor.masked.overrun
    && !s.monitor.note.overrun))
  overrun : s.motion.counter = 255 → u.hold.status.overrun = true

theorem takeCount_taken (s : State) : CountTaken s (takeCount s) := by
  unfold takeCount
  dsimp only
  split
  · next full =>
    have full : s.motion.counter = 255 := full
    refine ⟨raiseCause_raise _ _ _, raiseCause_accounts _ _ (s.setMotion _), ?_, fun _ => ?_⟩
    · rw [raiseCause_held, full]
      rfl
    · rw [raiseCause_status]
      rfl
  · next less =>
    have less : s.motion.counter ≠ 255 := less
    exact ⟨.refl _, .refl _, by simp [less], fun full => absurd full less⟩

theorem deliverFare_only (dp : Nat) (u : State) :
    QueueOnly (u.setSeats (u.seats.map (accrueSeat u.tariff u.band.selected u.hold.held dp (riders u.seats))))
      (deliverFare dp u) := compareDisplays_only _

/-- What the last part of an expiry leaves of the motion unit (R26, steps 4 and 5). -/
theorem tellCount_motion (dp : Nat) (u : State) :
    (tellCount dp u).motion = { u.motion with
      window := pushWindow dp u.motion.window,
      speed := pulseSpeed u.tariff (pushWindow dp u.motion.window),
      plausibility := if 0 < dp then 0 else u.motion.plausibility } := by
  unfold tellCount
  dsimp only
  split <;> rfl

/-- The accounts take the delivery, the seats and the hold stand (R26, step 3; R171). -/
theorem tellCount_accounts (dp : Nat) (u : State) :
    (tellCount dp u).accounts = (deliverDistance dp u).accounts ∧ (tellCount dp u).seats = u.seats ∧
      (tellCount dp u).hold = u.hold := by
  unfold tellCount
  dsimp only
  split <;> exact ⟨rfl, rfl, rfl⟩

theorem tellCount_pulseLoss {dp : Nat} (h : 0 < dp) (u : State) :
    (tellCount dp u).monitor.condition.pulseLoss = false := by
  unfold tellCount
  rw [if_pos h]
  rfl

/-! ### The accrual leaves every seat's state -/

theorem reachStep_state (t : Tariff) (selected : Nat) (b : Band) (r : SeatRecord) :
    (reachStep t selected b r).state = r.state := by
  have counted := (countStep_meter b.amount { r with progress := r.progress - b.size }).2.2
  unfold reachStep transferBand
  split
  · exact counted
  · split <;> exact counted

theorem reachSteps_state (t : Tariff) (selected fuel : Nat) (r : SeatRecord) :
    (reachSteps t selected fuel r).state = r.state := by
  induction fuel generalizing r with
  | zero => rfl
  | succ n ih =>
    unfold reachSteps
    split
    · rfl
    · split
      · rfl
      · rw [ih, reachStep_state]

theorem accrueSeat_state (t : Tariff) (selected dp k : Nat) (held : Bool) (r : SeatRecord) :
    (accrueSeat t selected held dp k r).state = r.state := by
  unfold accrueSeat
  split
  · dsimp only
    split
    · rfl
    · split
      · rfl
      · unfold progressSeat
        split
        · rfl
        · rw [reachSteps_state]
          rfl
  · rfl

theorem someHired_accrued (t : Tariff) (selected dp k : Nat) (held : Bool) (v : PerSeat SeatRecord) :
    SomeHired (v.map (accrueSeat t selected held dp k)) ↔ SomeHired v := by
  simp only [SomeHired, PerSeat.get_map, accrueSeat_state]

/-! ### The expiry as a whole -/

/-- What an expiry under way leaves of the state, item by item. -/
theorem expireInterval_parts {s : State} (running : s.motion.intervalTimer.isSome = true) :
    ∃ u v, CountTaken s u ∧
      QueueOnly (u.setSeats (s.seats.map
        (accrueSeat s.tariff s.band.selected u.hold.held s.motion.counter (riders s.seats)))) v ∧
      expireInterval s = tellCount s.motion.counter v := by
  have taken := takeCount_taken s
  refine ⟨takeCount s, deliverFare s.motion.counter (takeCount s), taken, ?_, ?_⟩
  · have only := deliverFare_only s.motion.counter (takeCount s)
    rw [taken.raised.seats, taken.raised.tariff, taken.raised.band] at only
    exact only
  · rw [expireInterval_eq, if_pos running]

/-- The totals that a delivery leaves, each by its own condition (R170, R171). -/
theorem deliverDistance_shares {s : State} {hired : Prop} [Decidable hired] (h : SomeHired s.seats ↔ hired)
    (dp : Nat) :
    let add := addDistance s.tariff max32 dp
    let t := (deliverDistance dp s).accounts
    let x := s.accounts.shift.totals
    let ofShift := s.accounts.shift.state ≠ .closed
    t.totalizers.hired = (if hired ∧ s.hold.held = false then add s.accounts.totalizers.hired
      else s.accounts.totalizers.hired) ∧
    t.shift.totals.hired = (if ofShift ∧ hired ∧ s.hold.held = false then add x.hired else x.hired) ∧
    t.shift.totals.held = (if ofShift ∧ hired ∧ s.hold.held = true then add x.held else x.held) ∧
    t.shift.totals.unhired = (if ofShift ∧ ¬hired then add x.unhired else x.unhired) := by
  have any : s.seats.any (fun r => r.hired) = decide hired :=
    Bool.eq_iff_iff.2 (((anyHired_iff _).trans h).trans decide_eq_true_iff.symm)
  dsimp only
  refine ⟨by simp [deliverDistance_hired, any], ?_⟩
  by_cases closed : s.accounts.shift.state = .closed
  · simp [deliverDistance_totals_closed closed, closed]
  · rw [deliverDistance_totals_open closed, any]
    by_cases some_ : hired
    · cases held : s.hold.held <;> simp [shareDistance, some_, closed]
    · simp [shareDistance, some_, closed]

/-- Settles O25: the count is taken and its overrun raised before the seats, and then the accounts and the motion
unit, take what that leaves. -/
theorem intervalExpiryDelivers : Obligations.IntervalExpiryDelivers := by
  intro s quiet running
  obtain ⟨u, v, taken, fare, parts⟩ := expireInterval_parts running
  obtain ⟨raised, ⟨holds, counted⟩, held, overrun⟩ := taken
  obtain ⟨accounts, seats, hold⟩ := tellCount_accounts s.motion.counter v
  have motion := tellCount_motion s.motion.counter v
  rw [fare.motion, State.setSeats_motion, raised.motion, State.setMotion_motion, fare.tariff,
    State.setSeats_tariff, raised.tariff, State.setMotion_tariff] at motion
  rw [fare.hold, State.setSeats_hold] at hold
  rw [fare.seats, State.setSeats_seats] at seats
  have given : v.accounts = _ := fare.accounts.trans counted
  have tariff : v.tariff = s.tariff := fare.tariff.trans raised.tariff
  have someHired : SomeHired v.seats ↔ 0 < riders s.seats := by
    rw [riders_pos_iff, fare.seats, State.setSeats_seats, someHired_accrued]
  refine ⟨expireInterval s, congrArg Host.Outcome.next
    (takeCommands_of_empty ((expireInterval_effect s).fifo.trans quiet)), ?_⟩
  rw [parts, motion, hold, accounts]
  refine ⟨rfl, rfl, rfl, rfl, rfl, fun pos => tellCount_pulseLoss pos v, held, overrun, fun q => ?_, ?_⟩
  · rw [State.seat, seats, PerSeat.get_map]
    rfl
  · obtain ⟨hired, shiftHired, shiftHeld, shiftUnhired⟩ :=
      deliverDistance_shares someHired s.motion.counter
    simp only [given, tariff, fare.hold, State.setSeats_hold] at hired shiftHired shiftHeld shiftUnhired
    refine ⟨?_, hired, shiftHired, shiftHeld, shiftUnhired⟩
    change addDistance v.tariff _ _ v.accounts.totalizers.total = _
    rw [tariff, given]

end Sys2Proof.Machine

/-! PROOFS. Stations heard and lost, frames of a wrong length, and a NAV_REPORT (R33 to R36, R146, R191 to R195). -/

namespace Sys2Proof.Machine

-- One theorem at a time: the memory limit of the check counts the stack of every thread.
set_option Elab.async false

/-! ### A frame that passes source validation (R192, R193) -/

theorem heartbeatOk_of_other (c : StationClass) {kind : BitVec 6} (other : kind.toNat ≠ 49) (h : Header)
    (p : List Byte) : heartbeatOk c (frameOf kind h p) = true := by
  simp [heartbeatOk, frameOf, other]

/-- Its station is heard, and its block takes it. -/
theorem receiveKind_of_sent {s : State} {e : Station} {cls : Nat} {h : Header} (sent : Sent s e cls h)
    {kind : BitVec 6} {p : List Byte} (short : p.length ≤ 16)
    (allowed : kindAllowed e.cls kind.toNat = true) (ofKind : kindClass kind.toNat = some cls)
    (beat : heartbeatOk e.cls (frameOf kind h p) = true) (v : Option Bool) :
    receiveKind v kind h p s = takeCommands v (deliver e kind.toNat p (hear e s)) := by
  have valid : validate s.line.roster (frameOf kind h p) = some e :=
    validate_eq_some sent.listed allowed (ofKind.trans (congrArg some sent.cls.symm)) beat
  rw [receiveKind_of_arrives ⟨sent.loaded, sent.header, short, sent.dest⟩, takeFrame_valid valid]
  rfl

/-! ### A station is heard (R194, R195) -/

/-- Only readers and seat panels have a notice of turning PRESENT. -/
theorem presentNotice_none {e : Station} (reader : e.cls ≠ .reader) (panel : e.cls ≠ .seatPanel)
    (s : State) : presentNotice e s = s := by
  unfold presentNotice
  split
  · next isReader => exact absurd isReader reader
  · next isPanel => exact absurd isPanel panel
  all_goals rfl

theorem hear_silent {e : Station} (silent : e.timer = none) (s : State) :
    hear e s = presentNotice e (heardAgain e s) := by
  simp [hear, Station.present, silent, heardAgain, setTimer, presenceTime]

theorem hear_unnoticed {e : Station} (reader : e.cls ≠ .reader) (panel : e.cls ≠ .seatPanel) (s : State) :
    hear e s = heardAgain e s := by
  by_cases silent : e.timer = none
  · rw [hear_silent silent, presentNotice_none reader panel]
  · exact hear_present silent s

/-! ### The plausibility check (R33 to R35) -/

theorem enterHeld_level (c : Cause) (src : Nat) (s : State) :
    (enterHeld c src s).sign.level = s.sign.level := by
  unfold enterHeld
  dsimp only
  rw [(countHold_frame _).2.2.1]
  change (queueStatus _).sign.level = _
  rw [(queueStatus_only _).sign, (send_only _ _ _).sign]
  rfl

/-- A raise recomputes the lamps' buffers and leaves the brightness level. -/
theorem raiseCause_level (c : Cause) (src : Nat) (s : State) :
    (raiseCause c src s).sign.level = s.sign.level := by
  unfold raiseCause
  dsimp only
  split
  · rfl
  · split
    · exact enterHeld_level c src _
    · split <;> rfl

/-- What the speed part of a NAV_REPORT leaves: of the motion unit, all but the plausibility count. -/
structure SpeedHeard (s t : State) : Prop where
  tariff : t.tariff = s.tariff
  level : t.sign.level = s.sign.level
  motion : ∃ n, t.motion = { s.motion with plausibility := n }

theorem doubtPulses_heard (s : State) : SpeedHeard s (doubtPulses s) := by
  unfold doubtPulses
  dsimp only
  split
  · split
    · have raised := raiseCause_raise .pulseLoss s.tariff.own
        (s.setMotion { s.motion with plausibility := s.motion.plausibility + 1 })
      exact ⟨raised.tariff, raiseCause_level _ _ _, _, raised.motion⟩
    · exact ⟨rfl, rfl, _, rfl⟩
  · exact ⟨rfl, rfl, _, rfl⟩

theorem navSpeed_heard (valid : Bool) (speed : Nat) (s : State) : SpeedHeard s (navSpeed valid speed s) := by
  unfold navSpeed
  split
  · exact ⟨rfl, rfl, _, rfl⟩
  · split
    · exact ⟨rfl, rfl, _, rfl⟩
    · split
      · exact ⟨rfl, rfl, _, rfl⟩
      · exact doubtPulses_heard s

theorem navSpeed_invalid (speed : Nat) (s : State) :
    navSpeed false speed s = s.setMotion { s.motion with plausibility := 0 } := rfl

theorem navSpeed_slow {speed : Nat} {s : State} (slow : speed < s.tariff.vMin) :
    navSpeed true speed s = clearPulseLoss s := by
  simp [navSpeed, slow]

theorem navSpeed_moving {speed : Nat} {s : State} (fast : s.tariff.vMin ≤ speed) (moving : s.motion.speed ≠ 0) :
    navSpeed true speed s = s.setMotion { s.motion with plausibility := 0 } := by
  simp [navSpeed, Nat.not_lt.2 fast, Nat.pos_of_ne_zero moving]

theorem navSpeed_still {speed : Nat} {s : State} (fast : s.tariff.vMin ≤ speed) (still : s.motion.speed = 0) :
    navSpeed true speed s = doubtPulses s := by
  simp [navSpeed, Nat.not_lt.2 fast, still]

theorem doubtPulses_counts {s : State} (below : s.motion.plausibility + 1 < s.tariff.nPlaus) :
    doubtPulses s = s.setMotion { s.motion with plausibility := s.motion.plausibility + 1 } := by
  have less : s.motion.plausibility < s.tariff.nPlaus := by omega
  have short : s.motion.plausibility + 1 ≠ s.tariff.nPlaus := by omega
  simp [doubtPulses, less, short]

theorem doubtPulses_raises {s : State} (reached : s.motion.plausibility + 1 = s.tariff.nPlaus) :
    doubtPulses s = reportCondition .pulseLoss true (raiseCause .pulseLoss s.tariff.own
      (s.setMotion { s.motion with plausibility := s.tariff.nPlaus })) := by
  have less : s.motion.plausibility < s.tariff.nPlaus := by omega
  simp [doubtPulses, less, reached]

theorem doubtPulses_full {s : State} (full : s.tariff.nPlaus ≤ s.motion.plausibility) : doubtPulses s = s := by
  simp [doubtPulses, Nat.not_lt.2 full]

/-- The brightness level follows the ambient part, whatever the speed part did (R146, R193). -/
theorem takeNav_level (speed : Nat) (flags : Byte) (ambient : Nat) (s : State) :
    (takeNav speed flags ambient s).sign.level
      = ambientLevel s.tariff (flags.getLsbD 1) ambient s.sign.level := by
  have heard := navSpeed_heard (flags.getLsbD 0) speed s
  rw [← heard.tariff, ← heard.level]
  rfl

theorem takeNav_parts (speed : Nat) (flags : Byte) (ambient : Nat) (s : State) :
    (takeNav speed flags ambient s).motion = (navSpeed (flags.getLsbD 0) speed s).motion ∧
      (takeNav speed flags ambient s).hold = (navSpeed (flags.getLsbD 0) speed s).hold ∧
      (takeNav speed flags ambient s).monitor = (navSpeed (flags.getLsbD 0) speed s).monitor :=
  ⟨rfl, rfl, rfl⟩

/-- Settles O53: the speed part is followed branch by branch, and the ambient part sees the level it left. -/
theorem navReportIsTakenInTwoParts : Obligations.NavReportIsTakenInTwoParts := by
  intro s e h v1 v0 flags ambient sent nav
  dsimp only
  have heard : hear e s = heardAgain e s := hear_unnoticed (by simp [nav]) (by simp [nav]) s
  have received : exec (.navReport h [v1, v0, flags, ambient]) s
      = .next (takeNav (fromBigEndian [v1, v0]) flags ambient.toNat (heardAgain e s)) := by
    refine congrArg Host.Outcome.next ?_
    rw [receiveKind_of_sent sent (by simp) (by rw [nav]; rfl) rfl (heartbeatOk_of_other _ (by decide) _ _), heard]
    exact takeCommands_of_empty ((takeNav_effect _ flags _ _).fifo.trans sent.quiet)
  generalize fromBigEndian [v1, v0] = speed at received
  obtain ⟨ofMotion, ofHold, ofMonitor⟩ := takeNav_parts speed flags ambient.toNat (heardAgain e s)
  refine ⟨_, received, by simp only [takeNav_level, ambientLevel, Bool.and_eq_true, decide_eq_true_eq]; rfl, ?_⟩
  rw [ofMotion, ofHold, ofMonitor]
  obtain ⟨n, motion⟩ := (navSpeed_heard (flags.getLsbD 0) speed (heardAgain e s)).motion
  refine ⟨by rw [motion]; rfl, by rw [motion]; rfl, by rw [motion]; rfl, fun invalid => ?_,
    fun valid slow => ?_, fun valid fast => ⟨fun moving => ?_, fun still below => ?_, fun still reached => ?_,
      fun still full => ?_⟩⟩
  · rw [invalid, navSpeed_invalid]
    exact ⟨rfl, rfl, rfl⟩
  · rw [valid, navSpeed_slow (s := heardAgain e s) slow]
    exact ⟨rfl, rfl, rfl⟩
  · rw [valid, navSpeed_moving (s := heardAgain e s) fast moving]
    exact ⟨rfl, rfl, rfl⟩
  · rw [valid, navSpeed_still (s := heardAgain e s) fast still, doubtPulses_counts (s := heardAgain e s) below]
    exact ⟨rfl, rfl, rfl⟩
  · rw [valid, navSpeed_still (s := heardAgain e s) fast still, doubtPulses_raises (s := heardAgain e s) reached]
    simp [reportCondition, (raiseCause_raise _ _ _).motion, raiseCause_status, raiseCause_monitor, PerCause.set,
      heardAgain]
  · rw [valid, navSpeed_still (s := heardAgain e s) fast still, doubtPulses_full (s := heardAgain e s) full]
    exact ⟨rfl, rfl, rfl⟩

/-! ### Frames overheard (R191, R194, R195) -/

/-- A frame addressed to another station, once load completion is past and R187 does not discard it. -/
theorem receiveKind_elsewhere {s : State} {h : Header} {p : List Byte} (loaded : s.start.loaded = true)
    (header : h.wf = true) (short : p.length ≤ 16) (other : h.dest.toNat ≠ s.tariff.own)
    (narrow : h.dest.toNat ≠ broadcast) (v : Option Bool) (kind : BitVec 6) :
    receiveKind v kind h p s = takeCommands v (overhear (frameOf kind h p) s) := by
  have ok : headerOk (frameOf kind h p) = true := by
    rw [headerOk_frameOf, header]
    simp [short]
  have theirs : forUs s.tariff.own (frameOf kind h p) = false := by
    simp [forUs, frameOf, other, narrow]
  simp [receiveKind, receiveFrame, loaded, ok, theirs]

theorem overhear_listed {s : State} {h : Header} {e : Station}
    (listed : stationAt s.line.roster h.source.toNat = some e) (kind : BitVec 6) (p : List Byte) :
    overhear (frameOf kind h p) s = hear e s := by
  simp [overhear, frameOf, listed]

theorem overhear_unlisted {s : State} {h : Header}
    (unlisted : stationAt s.line.roster h.source.toNat = none) (kind : BitVec 6) (p : List Byte) :
    overhear (frameOf kind h p) s = s := by
  simp [overhear, frameOf, unlisted]

theorem seatNumber_of_seatOfNumber {n : Nat} {q : Seat} (h : seatOfNumber n = some q) : n = seatNumber q := by
  unfold seatOfNumber at h
  split at h <;> cases h <;> rfl

/-- A seat's panel is PRESENT once it is heard, where no other panel is bound to the seat. -/
theorem presentPanel_heard {roster : List Station} {e : Station} {q : Seat} (listed : e ∈ roster)
    (panel : e.cls = .seatPanel) (bound : e.binding = seatNumber q)
    (only : ∀ x ∈ roster, x.cls = .seatPanel → x.binding = seatNumber q → x.addr = e.addr) (n : Nat) :
    ∃ x, presentPanel (setPresence roster e.addr (some n)) q = some x ∧ x.addr = e.addr := by
  have heard : { e with timer := some n } ∈ setPresence roster e.addr (some n) :=
    List.mem_map.2 ⟨e, listed, if_pos rfl⟩
  have some_ : ((setPresence roster e.addr (some n)).find?
      (fun x => x.cls = .seatPanel && x.binding = seatNumber q)).isSome = true :=
    List.find?_isSome.2 ⟨_, heard, by simp [panel, bound]⟩
  obtain ⟨x, found⟩ := Option.isSome_iff_exists.1 some_
  obtain ⟨isPanel, ofSeat⟩ : x.cls = .seatPanel ∧ x.binding = seatNumber q := by
    simpa using List.find?_some found
  obtain ⟨y, ofRoster, rfl⟩ := List.mem_map.1 (List.mem_of_find?_eq_some found)
  have same : y.addr = e.addr := by
    refine only y ofRoster ?_ ?_
    · rw [← isPanel]
      split <;> rfl
    · rw [← ofSeat]
      split <;> rfl
  rw [if_pos same] at found
  exact ⟨{ y with timer := some n }, by simp [presentPanel, found, Station.present], same⟩

/-- A frame that finds room discards none, so no display copy becomes invalid (R200). -/
theorem enqueue_display_of_room {f : TxFrame} {s : State} (room : s.line.queue.length < queuePlaces) :
    (enqueue f s).display = s.display := by
  unfold enqueue joinQueue
  rw [if_pos room]
  split <;> rfl

/-- A display copy that is invalid is renewed, and its frame finds room. -/
theorem compareDisplay_invalid {s : State} {q : Seat} {x : Station}
    (panel : presentPanel s.line.roster q = some x) (invalid : s.display.get q = none)
    (room : s.line.queue.length < queuePlaces) :
    (compareDisplay s q).display = s.display.set q (some (displayOf (s.seat q))) ∧
      { dest := x.addr, answer := false, body := .seatDisplay q (displayOf (s.seat q)) } ∈
        (compareDisplay s q).line.queue := by
  have sent : compareDisplay s q = send x.addr (.seatDisplay q (displayOf (s.seat q)))
      (s.setDisplay (s.display.set q (some (displayOf (s.seat q))))) := by
    simp [compareDisplay, panel, invalid]
  rw [sent]
  exact ⟨enqueue_display_of_room room, mem_enqueue_self room⟩

theorem stations_are_heard : Claims.StationsAreHeard := by
  intro s kind h payload loaded quiet header short other narrow
  have received : exec (.frameToOtherStation kind h payload) s
      = .next (takeCommands none (overhear (frameOf kind h payload) s)) :=
    congrArg Host.Outcome.next (receiveKind_elsewhere loaded header short other narrow none kind)
  refine ⟨fun unlisted => ?_, fun e listed => ?_⟩
  · rw [received, overhear_unlisted unlisted, takeCommands_of_empty quiet]
  rw [received, overhear_listed listed, takeCommands_of_empty ((hear_effect e s).fifo.trans quiet)]
  refine ⟨fun present => by rw [hear_present present],
    fun _ reader panel => by rw [hear_unnoticed reader panel],
    fun silent reader => by rw [hear_silent silent, presentNotice, reader],
    fun silent panel q bound _ only room => ⟨_, rfl, ?_⟩⟩
  have binding := seatNumber_of_seatOfNumber bound
  have notice : hear e s = panelPresent q (heardAgain e s) := by
    rw [hear_silent silent, presentNotice, panel]
    simp only [bound]
  obtain ⟨x, shown, addr⟩ := presentPanel_heard (List.mem_of_find?_eq_some listed) panel binding
    (fun x mem isPanel ofSeat => only x mem isPanel (ofSeat.trans binding.symm)) 2000
  obtain ⟨display, queued⟩ := compareDisplay_invalid
    (s := (heardAgain e s).setDisplay (s.display.set q none)) (q := q) shown (PerSeat.get_set_self _ _ _) room
  rw [notice, ← addr]
  exact ⟨display.trans (PerSeat.set_set _ _ _ _), queued⟩

/-! ### Silence (R36, R195) -/

theorem presenceExpires_unlisted {addr : Nat} {s : State} (unlisted : stationAt s.line.roster addr = none) :
    presenceExpires addr s = s := by
  simp [presenceExpires, unlisted]

theorem presenceExpires_silent {addr : Nat} {s : State} {e : Station}
    (listed : stationAt s.line.roster addr = some e) (silent : e.timer = none) :
    presenceExpires addr s = s := by
  simp [presenceExpires, listed, Station.present, silent]

theorem presenceExpires_present {addr : Nat} {s : State} {e : Station}
    (listed : stationAt s.line.roster addr = some e) (present : e.timer ≠ none) :
    presenceExpires addr s = silentNotice e (setTimer addr none s) := by
  simp [presenceExpires, listed, Station.present, Option.isSome_iff_ne_none.2 present]

/-- A change of the switch, with the gates that follow it (R120). -/
theorem changeIntercom_intercom (f : Intercom → Intercom) (s : State) :
    (changeIntercom f s).intercom
      = { f s.intercom with gates := gatesOf (f s.intercom).state (f s.intercom).target s.seats } := by
  unfold changeIntercom
  dsimp only
  split
  · rfl
  · exact (send_only _ _ _).intercom

/-- The driver's press ends into GUARD while the driver talks (R125). -/
theorem takeRelease_driver {s : State} (talks : s.intercom.state = .driverTalk)
    (held : s.intercom.driverPress ≠ none) :
    (takeRelease .driver s).intercom.state = .guard ∧ (takeRelease .driver s).intercom.driverPress = none ∧
      (takeRelease .driver s).intercom.guardTimer = some s.tariff.guardTime := by
  have released : takeRelease .driver s = changeIntercom (driverRelease s.tariff.guardTime)
      (s.setIntercom { s.intercom with driverPress := none }) :=
    if_pos (Option.isSome_iff_ne_none.2 held)
  rw [released, changeIntercom_intercom]
  simp [driverRelease, startGuard, talks]

theorem silence_is_noticed : Claims.SilenceIsNoticed := by
  intro s station quiet
  have expired : exec (.presenceTimeout station) s = .next (presenceExpires station.toNat s) :=
    congrArg Host.Outcome.next
      (takeCommands_of_empty ((presenceExpires_effect station.toNat s).fifo.trans quiet))
  rw [expired]
  refine ⟨fun unlisted => by rw [presenceExpires_unlisted unlisted], fun e listed => ?_⟩
  refine ⟨fun silent => by rw [presenceExpires_silent listed silent], fun present plain => ?_,
    fun present nav => ?_, fun present driver talks held => ⟨_, rfl, ?_⟩⟩ <;>
    rw [presenceExpires_present listed present]
  · rcases plain with console | aux
    · rw [silentNotice, console]
      rfl
    · rw [silentNotice, aux]
      rfl
  · rw [silentNotice, nav]
    rfl
  · have released : silentNotice e (setTimer station.toNat none s)
        = takeRelease .driver (setTimer station.toNat none s) := by
      rw [silentNotice, driver]
    rw [released]
    exact takeRelease_driver talks held

/-! ### Frames of a wrong length (R193) -/

/-- The payload length of each kind that a block takes whole, but COMMAND (R190, R193). -/
def payloadLength : Nat → Nat
  | 16 | 20 => 1
  | 22 => 5
  | 8 => 8
  | 32 => 4
  | _ => 0

/-- A COMMAND's payload is the decoder's to judge; any other frame of a wrong length is dropped. -/
theorem deliver_of_length {kind : Nat} {p : List Byte} (other : kind ≠ 18)
    (wrong : p.length ≠ payloadLength kind) (e : Station) (s : State) : deliver e kind p s = s := by
  unfold deliver
  split
  · exact absurd rfl other
  any_goals exact absurd rfl wrong
  rfl

theorem deliver_heartbeat (e : Station) (p : List Byte) (s : State) : deliver e 49 p s = s := rfl

theorem flagArg_none {b : Byte} (h : 1 < b.toNat) : flagArg b = none := by
  unfold flagArg
  split
  · omega
  · omega
  · rfl

theorem deliverTalk_of_other {held : Byte} (h : 1 < held.toNat) (e : Station) (s : State) :
    deliverTalk e held s = s := by
  unfold deliverTalk takeTalk
  rw [flagArg_none h]
  split <;> rfl

theorem wrong_length_is_only_heard : Claims.WrongLengthIsOnlyHeard := by
  intro s e h p cls sent present short
  have heard : ∀ kind : BitVec 6, kindAllowed e.cls kind.toNat = true → kindClass kind.toNat = some cls →
      heartbeatOk e.cls (frameOf kind h p) = true →
      (∀ u, deliver e kind.toNat p u = u) → ∀ v,
      Host.Outcome.next (receiveKind v kind h p s)
        = (.next (heardAgain e s) : Host.Outcome State Fault Refusal) := by
    intro kind allowed ofKind beat dropped v
    rw [receiveKind_of_sent sent short allowed ofKind beat, dropped, hear_present present]
    exact congrArg Host.Outcome.next (takeCommands_of_empty sent.quiet)
  have misfit : ∀ kind : BitVec 6, kindAllowed e.cls kind.toNat = true → kindClass kind.toNat = some cls →
      kind.toNat ≠ 49 → kind.toNat ≠ 18 → p.length ≠ payloadLength kind.toNat → ∀ v,
      Host.Outcome.next (receiveKind v kind h p s)
        = (.next (heardAgain e s) : Host.Outcome State Fault Refusal) :=
    fun kind allowed ofKind beat command wrong => heard kind allowed ofKind
      (heartbeatOk_of_other _ beat _ _) (deliver_of_length command wrong e)
  refine ⟨?_, ?_, ?_, ?_, ?_, ?_⟩
  · rintro rfl wrong
    exact misfit 16 rfl rfl (by decide) (by decide) wrong none
  · rintro rfl panel bad
    have allowed : kindAllowed e.cls 20 = true := (kindAllowed_iff _ _).2 (by simp [panel])
    rcases bad with wrong | ⟨b, rfl, large⟩
    · exact misfit 20 allowed rfl (by decide) (by decide) wrong none
    · exact heard 20 allowed rfl (heartbeatOk_of_other _ (by decide) _ _) (deliverTalk_of_other large e) none
  · rintro rfl reader wrong
    exact misfit 22 (by rw [reader]; rfl) rfl (by decide) (by decide) wrong none
  · rintro rfl reader wrong
    exact misfit 8 (by rw [reader]; rfl) rfl (by decide) (by decide) wrong none
  · rintro rfl nav wrong
    exact misfit 32 (by rw [nav]; rfl) rfl (by decide) (by decide) wrong none
  · rintro rfl ofClass
    exact heard 49 rfl rfl ((heartbeatOk_iff _ _ _).2 ofClass) (deliver_heartbeat e p) none

/-- Settles O54: who hears and who falls silent have their class's notice, and a wrong length none. -/
theorem presenceIsHeardAndLost : Obligations.PresenceIsHeardAndLost :=
  ⟨stations_are_heard, silence_is_noticed, wrong_length_is_only_heard⟩

end Sys2Proof.Machine

/-! PROOFS. What every change of the running part does to the seat records, the charges and the shift's money:
each seat stays, goes on with its trip, begins one or is left (R38 to R52, R98 to R109, R168, R169, R179). -/

namespace Sys2Proof.Machine

-- One theorem at a time: the memory limit of the check counts the stack of every thread.
set_option Elab.async false

/-! ### The move of a seat -/

/-- The seats' money and charges, and the flag falls of the bands in force, are as the books need them. -/
structure Funded (s : State) : Prop where
  seat : ∀ q, seatMoney (s.seat q)
  backed : ∀ q, chargeBacked s q
  bands : ∀ b ∈ s.tariff.bands, b.flagFall ≤ maxFare

theorem booksLaw_iff (s : State) :
    BooksLaw s ↔ StartLaw s ∧ Funded s ∧ VacantLaw s ∧ BalanceLaw s := by
  constructor
  · rintro ⟨⟨start, seats, bands⟩, vacant, balance⟩
    exact ⟨start, ⟨fun q => (seats q).1, fun q => (seats q).2, bands⟩, vacant, balance⟩
  · rintro ⟨start, ⟨seat, backed, bands⟩, vacant, balance⟩
    exact ⟨⟨start, fun q => ⟨seat q, backed q⟩, bands⟩, vacant, balance⟩

/-- A record in DUE or PAYING owes something. -/
def OwesIfDue (r : SeatRecord) : Prop := r.state = .due ∨ r.state = .paying → 0 < r.due

/-- A seat's charge is as before, or has ended. -/
def ChargeKept (s t : State) (q : Seat) : Prop :=
  t.charges.get q = s.charges.get q ∨ t.charges.get q = none

/-- A trip goes on: the seat stays occupied and as exclusive as it was, owes something in DUE and PAYING if it
did, and its money stays in order, and its charge backed where `quiet` holds. -/
structure GoesOn (quiet : Prop) (s t : State) (q : Seat) : Prop where
  before : (s.seat q).state ≠ .vacant
  after : (t.seat q).state ≠ .vacant
  exclusive : (t.seat q).exclusive = (s.seat q).exclusive
  owes : OwesIfDue (s.seat q) → OwesIfDue (t.seat q)
  money : Funded s → seatMoney (t.seat q)
  backed : quiet → Funded s → chargeBacked t q

/-- What one change makes of a seat. -/
inductive SeatMove (quiet : Prop) (s t : State) (q : Seat) : Prop
  | stays (record : t.seat q = s.seat q) (charge : ChargeKept s t q)
  | goesOn (h : GoesOn quiet s t q)
  | hires (pool : Bool) (free : hireRefusal s q pool = none) (record : t.seat q = hiredSeat s pool)
      (alone : ∀ p, p ≠ q → t.seat p = s.seat p) (charge : ChargeKept s t q)
  | leaves (record : t.seat q = vacantSeat) (charge : quiet → Funded s → t.charges.get q = none)

/-- What one change makes of the seats and the shift: the shift closes only as the last seat is left, and its
money stays balanced. `quiet` says of a start that it finds no charge in flight. -/
structure Move (quiet : Prop) (s t : State) : Prop where
  tariff : t.tariff = s.tariff
  seat : ∀ q, SeatMove quiet s t q
  closed : t.accounts.shift.state = .closed →
    s.accounts.shift.state = .closed ∨ ∀ q, (t.seat q).state = .vacant
  balance : Funded s → BalanceLaw s → BalanceLaw t

/-- Changes one after the other. -/
def Moves (quiet : Prop) : State → State → Prop := Relation.ReflTransGen (Move quiet)

variable {quiet : Prop} {s t u : State}

theorem Moves.refl (s : State) : Moves quiet s s := Relation.ReflTransGen.refl

theorem Moves.trans (h : Moves quiet s t) (k : Moves quiet t u) : Moves quiet s u :=
  Relation.ReflTransGen.trans h k

theorem Move.moves (h : Move quiet s t) : Moves quiet s t := Relation.ReflTransGen.single h

theorem Moves.ite {c : Prop} [Decidable c] (h : Moves quiet s t) (k : Moves quiet s u) :
    Moves quiet s (if c then t else u) := by
  split <;> assumption

/-- What every change keeps, changes one after the other keep. -/
theorem Moves.keep {law : State → Prop} (kept : ∀ s t, Move quiet s t → law s → law t)
    (h : Moves quiet s t) (k : law s) : law t := by
  induction h with
  | refl => exact k
  | tail _ move ih => exact kept _ _ move ih

theorem foldl_moves {α : Type} {f : State → α → State} (h : ∀ u a, Moves quiet u (f u a)) (l : List α)
    (s : State) : Moves quiet s (l.foldl f s) := by
  induction l generalizing s with
  | nil => exact .refl s
  | cons a l ih => exact (h s a).trans (ih _)

/-! ### The laws that a move keeps -/

/-- A hire needs an OPEN shift, a VACANT seat and room beside the exclusive ones (R41). -/
theorem hireRefusal_none {q : Seat} {pool : Bool} (h : hireRefusal s q pool = none) :
    s.accounts.shift.state = .opened ∧ (s.seat q).state = .vacant ∧
      (pool = false → ∀ p, p ≠ q → (s.seat p).state = .vacant) ∧
      ∀ p, (s.seat p).exclusive = true → (s.seat p).state = .vacant := by
  unfold hireRefusal at h
  simp only [ne_eq, ite_not, Bool.not_eq_true', Bool.and_eq_true, SeatRecord.vacant,
    decide_eq_false_iff_not] at h
  split at h
  · next opened =>
    split at h
    · cases h
    · split at h
      · next vacant =>
        split at h
        · cases h
        · next others =>
          split at h
          · cases h
          · next exclusive =>
            refine ⟨opened, vacant, fun single p hp => ?_, fun p hp => ?_⟩
            · by_contra occupied
              exact others ⟨single, (othersOccupied_iff _ _).2 ⟨p, hp, occupied⟩⟩
            · by_contra occupied
              exact exclusive ((exclusiveOccupied_iff _).2 ⟨p, hp, occupied⟩)
      · cases h
  · cases h

theorem Move.vacantLaw (h : Move quiet s t) (law : VacantLaw s) : VacantLaw t := by
  intro q vacant
  cases h.seat q with
  | stays record => rw [record] at vacant ⊢; exact law q vacant
  | goesOn on => exact absurd vacant on.after
  | hires _ _ record => rw [record] at vacant; cases vacant
  | leaves record => exact record

theorem Move.shiftLaw (h : Move quiet s t) (law : ShiftLaw s) : ShiftLaw t := by
  intro closed q
  rcases h.closed closed with before | vacant
  · have free := law before
    cases h.seat q with
    | stays record => rw [record]; exact free q
    | goesOn on => exact absurd (free q) on.before
    | hires _ hire => rw [(hireRefusal_none hire).1] at before; cases before
    | leaves record => rw [record]; rfl
  · exact vacant q

/-- A seat beside an exclusive one neither goes on nor begins a trip. -/
theorem Move.exclusiveLaw (h : Move quiet s t) (law : ExclusiveLaw s) : ExclusiveLaw t := by
  intro q p apart exclusive occupied
  have before : (s.seat q).exclusive = true → (s.seat q).state ≠ .vacant → (t.seat p).state = .vacant := by
    intro exclusive occupied
    have vacant := law q p apart exclusive occupied
    cases h.seat p with
    | stays record => rw [record]; exact vacant
    | goesOn on => exact absurd vacant on.before
    | hires _ hire =>
      obtain ⟨-, -, -, others⟩ := hireRefusal_none hire
      exact absurd (others q exclusive) occupied
    | leaves record => rw [record]; rfl
  cases h.seat q with
  | stays record => rw [record] at exclusive occupied; exact before exclusive occupied
  | goesOn on => exact before (on.exclusive ▸ exclusive) on.before
  | hires pool hire record alone =>
    obtain ⟨-, -, single, -⟩ := hireRefusal_none hire
    have exclusively : pool = false := by
      rw [record] at exclusive
      simpa [hiredSeat] using exclusive
    rw [alone p apart.symm]
    exact single exclusively p apart.symm
  | leaves record => rw [record] at occupied; exact absurd rfl occupied

theorem Move.dueLaw (h : Move quiet s t) (law : DueLaw s) : DueLaw t := by
  intro q
  cases h.seat q with
  | stays record => rw [record]; exact law q
  | goesOn on => exact on.owes (law q)
  | hires _ _ record => rw [record]; rintro (due | paying) <;> contradiction
  | leaves record => rw [record]; rintro (due | paying) <;> contradiction

/-- A charge that is kept at a seat that is not PAYING is none. -/
theorem ChargeKept.eq_none {q : Seat} (h : ChargeKept s t q) (funded : Funded s)
    (free : (s.seat q).state ≠ .paying) : t.charges.get q = none := by
  rcases h with same | ended
  · rw [same]
    by_contra some_
    obtain ⟨c, hc⟩ := Option.ne_none_iff_exists'.1 some_
    exact free (funded.backed q c hc).1
  · exact ended

theorem chargeBacked_of_none {q : Seat} (h : t.charges.get q = none) : chargeBacked t q := by
  intro c hc
  rw [h] at hc
  cases hc

theorem chargeBacked_of_kept {q : Seat} (record : t.seat q = s.seat q) (charge : ChargeKept s t q)
    (h : chargeBacked s q) : chargeBacked t q := by
  rcases charge with same | ended
  · intro c hc
    rw [record]
    exact h c (same ▸ hc)
  · exact chargeBacked_of_none ended

theorem seatMoney_vacant : seatMoney vacantSeat := by
  simp [seatMoney, vacantSeat, noExtras, Extras.total, paidTotal, paymentPlaces]

theorem seatMoney_hired (funded : Funded s) (pool : Bool) : seatMoney (hiredSeat s pool) := by
  have fare : (hireTerms s.tariff s.band.selected).1 ≤ maxFare := by
    unfold hireTerms
    split
    · next b at_ => exact funded.bands b (bandAt_mem at_)
    · exact Nat.zero_le _
  simp [seatMoney, hiredSeat, vacantSeat, noExtras, Extras.total, paidTotal, paymentPlaces, fare]

theorem Move.funded (calm : quiet) (h : Move quiet s t) (law : Funded s) : Funded t where
  seat q := by
    cases h.seat q with
    | stays record => rw [record]; exact law.seat q
    | goesOn on => exact on.money law
    | hires pool _ record => rw [record]; exact seatMoney_hired law pool
    | leaves record => rw [record]; exact seatMoney_vacant
  backed q := by
    cases h.seat q with
    | stays record charge => exact chargeBacked_of_kept record charge (law.backed q)
    | goesOn on => exact on.backed calm law
    | hires _ hire _ _ charge =>
      refine chargeBacked_of_none (charge.eq_none law ?_)
      rw [(hireRefusal_none hire).2.1]
      decide
    | leaves _ charge => exact chargeBacked_of_none (charge calm law)
  bands := by
    rw [h.tariff]
    exact law.bands

theorem Moves.books (calm : quiet) (h : Moves quiet s t) (funded : Funded s) (balance : BalanceLaw s) :
    Funded t ∧ BalanceLaw t :=
  Moves.keep (law := fun s => Funded s ∧ BalanceLaw s)
    (fun _ _ move law => ⟨move.funded calm law.1, move.balance law.1 law.2⟩) h ⟨funded, balance⟩

end Sys2Proof.Machine

/-! PROOFS. The money of the shift, what a close adds to it, and the changes that leave the seats as they stand (R52, R168,
R169, R179). -/

namespace Sys2Proof.Machine

-- One theorem at a time: the memory limit of the check counts the stack of every thread.
set_option Elab.async false

variable {quiet : Prop} {s t u : State}

/-! ### The shift's money -/

/-- Fares and extras are covered by payments and waivers. -/
def Balanced (x : Totals) : Prop := x.fare + x.extras.total = x.card + x.account + x.cash + x.waived

/-- The shift keeps its state and its balance. -/
structure LedgerKept (a b : Accounts) : Prop where
  state : b.shift.state = a.shift.state
  balance : Balanced a.shift.totals → Balanced b.shift.totals

theorem LedgerKept.of_eq {a b : Accounts} (h : b = a) : LedgerKept a b := h ▸ ⟨rfl, id⟩

theorem HoldsCounted.ledger {a b : Accounts} (h : HoldsCounted a b) : LedgerKept a b := by
  obtain ⟨n, rfl⟩ := h
  exact ⟨rfl, id⟩

theorem countVoid_ledger (s : State) : LedgerKept s.accounts (countVoid s).accounts where
  state := rfl
  balance h := by
    simp only [countVoid, State.setAccounts_accounts]
    split <;> exact h

theorem shareDistance_balanced (t : Tariff) (dp : Nat) (hired held : Bool) {x : Totals}
    (h : Balanced x) : Balanced (shareDistance t dp hired held x) := by
  unfold shareDistance
  split
  · exact h
  · split <;> exact h

theorem deliverDistance_ledger (dp : Nat) (s : State) :
    LedgerKept s.accounts (deliverDistance dp s).accounts where
  state := rfl
  balance h := by
    by_cases closed : s.accounts.shift.state = .closed
    · rwa [deliverDistance_totals_closed closed]
    · rw [deliverDistance_totals_open closed]
      exact shareDistance_balanced _ _ _ _ h

/-! ### Changes that leave every trip as it is -/

theorem Move.of_stays (tariff : t.tariff = s.tariff) (seats : t.seats = s.seats)
    (charge : ∀ q, ChargeKept s t q) (ledger : LedgerKept s.accounts t.accounts) : Move quiet s t where
  tariff := tariff
  seat q := .stays (by rw [State.seat, State.seat, seats]) (charge q)
  closed h := .inl (ledger.state ▸ h)
  balance _ h := ledger.balance h

/-- The parts that hold no seat, charge, account or tariff. -/
def calmParts : List Part :=
  [.pins, .start, .marker, .clock, .tamper, .tags, .hold, .band, .motion, .payers, .intercom, .sign,
    .monitor, .display, .line, .draws]

/-- A change outside the seats and the charges that keeps the shift's state and balance. -/
theorem Frame.moves_of_ledger {ps : List Part} (h : Frame ps s t)
    (ledger : LedgerKept s.accounts t.accounts) (sub : ps ⊆ .accounts :: calmParts := by decide) :
    Moves quiet s t := by
  have same : ∀ p, p ∉ .accounts :: calmParts → SamePart s t p := fun p hp => h p fun m => hp (sub m)
  have charges : t.charges = s.charges := same .charges (by decide)
  exact (Move.of_stays (same .tariff (by decide)) (same .seats (by decide))
    (fun q => .inl (by rw [charges])) ledger).moves

theorem Frame.moves {ps : List Part} (h : Frame ps s t) (sub : ps ⊆ calmParts := by decide) :
    Moves quiet s t :=
  h.moves_of_ledger (.of_eq (h .accounts fun m => absurd (sub m) (by decide)))
    fun _ m => List.mem_cons_of_mem _ (sub m)

theorem QueueOnly.moves (h : QueueOnly s t) : Moves quiet s t := h.frame.moves

theorem raiseCause_moves (c : Cause) (src : Nat) (s : State) : Moves quiet s (raiseCause c src s) := by
  have frame : Frame (.accounts :: calmParts) s (raiseCause c src s) := (raiseCause_frame c src s).mono
  exact frame.moves_of_ledger (raiseCause_accounts c src s).ledger fun _ m => m

theorem enterHeld_moves (c : Cause) (src : Nat) (s : State) : Moves quiet s (enterHeld c src s) := by
  have frame : Frame (.accounts :: calmParts) s (enterHeld c src s) :=
    (enterHeld_raise c src s).frame.mono
  exact frame.moves_of_ledger (enterHeld_accounts c src s).ledger fun _ m => m

theorem countVoid_moves (s : State) : Moves quiet s (countVoid s) :=
  (setAccounts_frame s _).moves_of_ledger (countVoid_ledger s)

/-! ### A change of the shift (R173 to R175) -/

theorem changeShift_moves {sh : Shift} {s : State} (balance : BalanceLaw s → Balanced sh.totals)
    (closed : sh.state = .closed → s.accounts.shift.state = .closed ∨ ∀ q, (s.seat q).state = .vacant) :
    Moves quiet s (changeShift sh s) := by
  have frame := changeShift_frame sh s
  have charges : (changeShift sh s).charges = s.charges := frame .charges (by decide)
  have seats : (changeShift sh s).seats = s.seats := frame .seats (by decide)
  have shift : (changeShift sh s).accounts.shift = sh := by rw [changeShift_accounts]
  have seat : ∀ q, (changeShift sh s).seat q = s.seat q := fun q => by rw [State.seat, State.seat, seats]
  refine Move.moves ⟨frame .tariff (by decide), fun q => .stays (seat q) (.inl (by rw [charges])), ?_, ?_⟩
  · rw [shift]
    simpa only [seat] using closed
  · intro _ law
    rw [BalanceLaw, shift]
    exact balance law

theorem startClosing_moves (s : State) : Moves quiet s (startClosing s) :=
  changeShift_moves id fun h => by cases h

theorem closeShift_moves {s : State} (vacant : ∀ q, (s.seat q).state = .vacant) :
    Moves quiet s (closeShift s) :=
  (changeShift_moves (sh := { s.accounts.shift with state := .closed, closeClock := some s.clock.time })
    id fun _ => .inr vacant).trans (queueReport_only _).moves

/-! ### A record written -/

/-- A seat's record is written, and no other seat's record or charge. -/
structure Wrote (s u : State) (q : Seat) (r : SeatRecord) : Prop where
  tariff : u.tariff = s.tariff
  seats : u.seats = s.seats.set q r
  accounts : u.accounts = s.accounts
  others : ∀ p, p ≠ q → u.charges.get p = s.charges.get p

theorem Wrote.seat_self {q : Seat} {r : SeatRecord} (h : Wrote s u q r) : u.seat q = r := by
  rw [State.seat, h.seats, PerSeat.get_set_self]

theorem Wrote.seat_of_ne {p q : Seat} {r : SeatRecord} (h : Wrote s u q r) (apart : p ≠ q) :
    u.seat p = s.seat p := by
  rw [State.seat, h.seats, PerSeat.get_set_of_ne _ _ apart, State.seat]

theorem setSeat_wrote (s : State) (q : Seat) (r : SeatRecord) : Wrote s (s.setSeat q r) q r :=
  ⟨rfl, rfl, rfl, fun _ _ => rfl⟩

theorem changeSeat_wrote (q : Seat) (r : SeatRecord) (s : State) : Wrote s (changeSeat q r s) q r where
  tariff := changeSeat_frame q r s .tariff (by decide)
  seats := changeSeat_seats q r s
  accounts := changeSeat_accounts q r s
  others p _ := by rw [show (changeSeat q r s).charges = s.charges from changeSeat_frame q r s .charges (by decide)]

theorem changeSeat_charges (q : Seat) (r : SeatRecord) (s : State) :
    (changeSeat q r s).charges = s.charges := changeSeat_frame q r s .charges (by decide)

/-- A record written to a seat moves that seat alone. -/
theorem Wrote.moves {q : Seat} {r : SeatRecord} (h : Wrote s u q r) (move : SeatMove quiet s u q) :
    Moves quiet s u := by
  refine Move.moves ⟨h.tariff, fun p => ?_, fun closed => .inl (h.accounts ▸ closed), fun _ law => ?_⟩
  · by_cases same : p = q
    · exact same ▸ move
    · exact .stays (h.seat_of_ne same) (.inl (h.others p same))
  · rw [BalanceLaw, h.accounts]
    exact law

/-! ### A close (R52, R175, R179) -/

/-- What a trip cost is what was paid for it and waived. -/
def Settled (r : SeatRecord) : Prop := r.fare + r.extras.total = paidTotal r.payments + r.waived

theorem paidBy_sum (ps : List Payment) :
    paidBy .card ps + paidBy .account ps + paidBy .cash ps = paidTotal ps := by
  induction ps with
  | nil => rfl
  | cons p ps ih =>
    unfold paidBy paidTotal at *
    cases method : p.method <;> simp [method] <;> omega

theorem Extras.plus_total (x y : Extras) : (x.plus y).total = x.total + y.total := by
  simp only [Extras.plus, Extras.total]
  omega

/-- A settled trip leaves the totals balanced (R179). -/
theorem addTrip_balanced {q : Seat} {e : TripEnd} {r : SeatRecord} {x : Totals} (n shift identity : Nat)
    (settled : Settled r) (h : Balanced x) :
    Balanced (addTrip { composeTrip q e r with number := n, shift := shift, identity := identity } x) := by
  have paid := paidBy_sum r.payments
  simp only [Balanced, Settled, addTrip, composeTrip, Extras.plus_total] at *
  omega

/-- A trip closes the shift only in CLOSING or at the trip limit, and only as the last seat (R175). -/
theorem afterTrip_closed {others : Bool} (h : (afterTrip others s).accounts.shift.state = .closed) :
    s.accounts.shift.state = .closed ∨ others = false := by
  cases others with
  | false => exact .inr rfl
  | true =>
    refine .inl ?_
    unfold afterTrip at h
    dsimp only at h
    split at h
    · assumption
    · exact h
    · split at h
      · rw [if_pos rfl, startClosing_accounts] at h
        cases h
      · exact h

/-- A seat's close, from the record that its trip ends with. -/
theorem Wrote.close_moves {q : Seat} {r : SeatRecord} {e : TripEnd} (h : Wrote s u q r)
    (settled : Funded s → Settled r) (charge : quiet → Funded s → u.charges.get q = none) :
    Moves quiet s (closeSeat q e u) := by
  have frame := closeSeat_frame q e u
  have charges : (closeSeat q e u).charges = u.charges := frame .charges (by decide)
  have seats : (closeSeat q e u).seats = s.seats.set q vacantSeat := by
    rw [closeSeat_seats, h.seats, PerSeat.set_set]
  have seat : ∀ p, (closeSeat q e u).seat p = if p = q then vacantSeat else s.seat p := fun p => by
    rw [State.seat, seats, PerSeat.get_set, State.seat]
  refine Move.moves ⟨(frame .tariff (by decide)).trans h.tariff, fun p => ?_, fun closed => ?_, ?_⟩
  · by_cases same : p = q
    · rw [same]
      exact .leaves (by rw [seat, if_pos rfl]) (by rwa [charges])
    · exact .stays (by rw [seat, if_neg same]) (.inl (by rw [charges]; exact h.others p same))
  · rw [closeSeat_accounts] at closed
    rcases afterTrip_closed closed with before | alone
    · exact .inl (by rw [← h.accounts]; exact before)
    · refine .inr fun p => ?_
      rw [seat]
      split
      · rfl
      · next apart =>
        by_contra occupied
        have others := (othersOccupied_iff u.seats q).2
          ⟨p, apart, by rw [← State.seat, h.seat_of_ne apart]; exact occupied⟩
        rw [alone] at others
        cases others
  · intro funded law
    obtain ⟨st, cc, accounts⟩ := afterTrip_accounts (othersOccupied u.seats q)
      (u.setAccounts (recordTrip (composeTrip q e (u.seat q)) u.accounts u.tariff.identity))
    rw [BalanceLaw, closeSeat_accounts, accounts]
    rw [State.setAccounts_accounts, h.accounts, h.seat_self]
    unfold recordTrip
    dsimp only
    split
    · exact law
    · exact addTrip_balanced _ _ _ (settled funded) law

/-- A trip that ends in DUE: the seat was occupied, keeps its exclusive flag, and its charge is over. -/
structure TurnsDue (quiet : Prop) (s u : State) (q : Seat) (r : SeatRecord) : Prop where
  before : (s.seat q).state ≠ .vacant
  state : r.state = .due
  exclusive : r.exclusive = (s.seat q).exclusive
  money : Funded s → seatMoney r
  charge : quiet → Funded s → u.charges.get q = none

/-- A record in DUE that owes nothing is settled (R39). -/
theorem seatMoney.settled {r : SeatRecord} (h : seatMoney r) (due : r.due = 0) : Settled r := by
  obtain ⟨-, -, paid, -, -, covered, waived, -⟩ := h
  simp only [SeatRecord.due, Settled] at *
  omega

/-- A trip that ends in DUE closes at once if it owes nothing (R39, R52). -/
theorem Wrote.closeIfPaid_moves {q : Seat} {r : SeatRecord} (h : Wrote s u q r)
    (turns : TurnsDue quiet s u q r) : Moves quiet s (closeIfPaid q u) := by
  unfold closeIfPaid
  rw [h.seat_self]
  split
  · next owing =>
    exact h.close_moves (fun funded => (turns.money funded).settled owing.2) turns.charge
  · next owing =>
    refine h.moves (.goesOn ⟨turns.before, ?_, ?_, ?_, ?_, ?_⟩)
    · rw [h.seat_self, turns.state]; decide
    · rw [h.seat_self]; exact turns.exclusive
    · rw [h.seat_self]
      exact fun _ _ => Nat.pos_of_ne_zero fun zero => owing ⟨turns.state, zero⟩
    · rw [h.seat_self]; exact turns.money
    · exact fun calm funded => chargeBacked_of_none (turns.charge calm funded)

end Sys2Proof.Machine

/-! PROOFS. Every change of a trip moves its seat: metering, extras, hires, resumptions, payments and charges (R38 to R51,
R75, R98 to R109). -/

namespace Sys2Proof.Machine

-- One theorem at a time: the memory limit of the check counts the stack of every thread.
set_option Elab.async false

variable {quiet : Prop} {s t u v : State} {q : Seat}

/-! ### Records that keep their money in order (R44 to R51, R57) -/

/-- The state alone, unless the seat meters again. -/
theorem seatMoney.withState {r : SeatRecord} (h : seatMoney r) {x : SeatState} (open_ : x ≠ .hired) :
    seatMoney { r with state := x } := by
  obtain ⟨fare, extras, paid, tips, places, covered, waived, -⟩ := h
  exact ⟨fare, extras, paid, tips, places, covered, waived, fun hired => absurd hired open_⟩

/-- A payment within the due, where the list has room (R48, R51). -/
theorem seatMoney.pay {r : SeatRecord} {p : Payment} (h : seatMoney r) (open_ : r.state ≠ .hired)
    (within : p.amount ≤ r.due) (room : r.payments.length < paymentPlaces) :
    seatMoney (addPayment p r) := by
  obtain ⟨fare, extras, paid, tips, -, covered, waived, -⟩ := h
  refine ⟨fare, extras, ?_, ?_, ?_, ?_, waived, fun hired => absurd hired open_⟩
  · simp [addPayment, paidTotal, paid]
  · simp [addPayment, tips]
  · simp only [addPayment, List.length_append, List.length_singleton]; omega
  · simp only [addPayment, SeatRecord.due] at *; omega

/-- What an interval leaves of a record: its state, its flags and its payments, and a fare within its
bound. -/
structure Metered (r r' : SeatRecord) : Prop where
  state : r'.state = r.state
  exclusive : r'.exclusive = r.exclusive
  extras : r'.extras = r.extras
  paid : r'.paid = r.paid
  tips : r'.tips = r.tips
  payments : r'.payments = r.payments
  waived : r'.waived = r.waived
  fare : r.fare ≤ maxFare → r'.fare ≤ maxFare

theorem Metered.refl (r : SeatRecord) : Metered r r := ⟨rfl, rfl, rfl, rfl, rfl, rfl, rfl, id⟩

theorem Metered.trans {a b c : SeatRecord} (h : Metered a b) (k : Metered b c) : Metered a c :=
  ⟨k.state.trans h.state, k.exclusive.trans h.exclusive, k.extras.trans h.extras, k.paid.trans h.paid,
    k.tips.trans h.tips, k.payments.trans h.payments, k.waived.trans h.waived, k.fare ∘ h.fare⟩

/-- What a step does to the progress and the band is no matter of money. -/
theorem Metered.of_progress (r : SeatRecord) (progress band : Nat) (used : List Nat) :
    Metered r { r with progress := progress, activeBand := band, bandsUsed := used } :=
  ⟨rfl, rfl, rfl, rfl, rfl, rfl, rfl, id⟩

theorem countStep_metered (amount : Nat) (r : SeatRecord) : Metered r (countStep amount r) := by
  unfold countStep chargeStep
  split
  · exact ⟨rfl, rfl, rfl, rfl, rfl, rfl, rfl, id⟩
  · dsimp only
    split
    · exact ⟨rfl, rfl, rfl, rfl, rfl, rfl, rfl, fun _ => le_rfl⟩
    · next within => exact ⟨rfl, rfl, rfl, rfl, rfl, rfl, rfl, fun _ => Nat.le_of_not_lt within⟩

theorem transferBand_metered (t : Tariff) (selected : Nat) (b : Band) (r : SeatRecord) :
    Metered r (transferBand t selected b r) := by
  unfold transferBand
  split
  · exact .refl r
  · split
    · exact .refl r
    · exact .of_progress _ _ _ _

theorem reachStep_metered (t : Tariff) (selected : Nat) (b : Band) (r : SeatRecord) :
    Metered r (reachStep t selected b r) :=
  ((Metered.of_progress r (r.progress - b.size) r.activeBand r.bandsUsed).trans
    (countStep_metered _ _)).trans (transferBand_metered _ _ _ _)

theorem reachSteps_metered (t : Tariff) (selected fuel : Nat) (r : SeatRecord) :
    Metered r (reachSteps t selected fuel r) := by
  induction fuel generalizing r with
  | zero => exact .refl r
  | succ fuel ih =>
    unfold reachSteps
    split
    · exact .refl r
    · split
      · exact .refl r
      · exact (reachStep_metered _ _ _ r).trans (ih _)

theorem accrueSeat_metered (t : Tariff) (selected dp k : Nat) (held : Bool) (r : SeatRecord) :
    Metered r (accrueSeat t selected held dp k r) := by
  have marked : Metered r (markSeat t dp k r) := ⟨rfl, rfl, rfl, rfl, rfl, rfl, rfl, id⟩
  unfold accrueSeat
  split
  · dsimp only
    split
    · exact marked.trans ⟨rfl, rfl, rfl, rfl, rfl, rfl, rfl, id⟩
    · split
      · exact marked.trans ⟨rfl, rfl, rfl, rfl, rfl, rfl, rfl, id⟩
      · refine marked.trans ?_
        unfold progressSeat
        split
        · exact .refl _
        · exact (Metered.of_progress _ _ _ _).trans (reachSteps_metered _ _ _ _)
  · exact .refl r

theorem accrueSeat_of_not_hired {r : SeatRecord} (h : r.state ≠ .hired) (t : Tariff)
    (selected dp k : Nat) (held : Bool) : accrueSeat t selected held dp k r = r := by
  simp [accrueSeat, SeatRecord.hired, h]

/-- A HIRED seat has no payment yet, so its fare covers what is paid. -/
theorem seatMoney.meter {r r' : SeatRecord} (h : seatMoney r) (hired : r.state = .hired)
    (m : Metered r r') : seatMoney r' := by
  obtain ⟨fare, extras, paid, tips, places, -, waived, unpaid⟩ := h
  have none_ := unpaid hired
  refine ⟨m.fare fare, m.extras ▸ extras, ?_, ?_, ?_, ?_, m.waived ▸ waived, fun _ => ?_⟩
  · rw [m.paid, m.payments, paid]
  · rw [m.tips, m.payments, tips]
  · rw [m.payments]; exact places
  · rw [m.paid, paid, none_]; exact Nat.zero_le _
  · rw [m.payments, none_]

theorem Extras.add_total (x : Extras) (k : ExtraKind) (n : Nat) : (x.add k n).total = x.total + n := by
  cases k <;> simp only [Extras.add, Extras.total] <;> omega

theorem applyExtra_due_ge (k : ExtraKind) (n : Nat) (r : SeatRecord) : r.due ≤ (applyExtra k n r).due := by
  simp only [applyExtra, SeatRecord.due, Extras.add_total]
  omega

theorem applyExtra_zero (k : ExtraKind) (r : SeatRecord) : applyExtra k 0 r = r := by
  have same : r.extras.add k 0 = r.extras := by cases k <;> rfl
  simp [applyExtra, extraApplied, same]

theorem seatMoney.extra {r : SeatRecord} (h : seatMoney r) (k : ExtraKind) (n : Nat) :
    seatMoney (applyExtra k n r) := by
  obtain ⟨fare, extras, paid, tips, places, covered, waived, unpaid⟩ := h
  refine ⟨fare, ?_, paid, tips, places, ?_, waived, unpaid⟩
  · simp only [applyExtra, Extras.add_total, extraApplied]; omega
  · simp only [applyExtra, Extras.add_total]; omega

/-! ### Seats that go on with their trips -/

theorem GoesOn.of_extra {k : ExtraKind} {n : Nat} (record : t.seat q = applyExtra k n (s.seat q))
    (before : (s.seat q).state ≠ .vacant) (charge : t.charges.get q = s.charges.get q) :
    GoesOn quiet s t q where
  before := before
  after := by rw [record]; exact before
  exclusive := by rw [record]; rfl
  owes h := by
    rw [record]
    exact fun due => Nat.lt_of_lt_of_le (h due) (applyExtra_due_ge k n _)
  money funded := record ▸ (funded.seat q).extra k n
  backed _ funded := by
    intro c hc
    obtain ⟨paying, within, room⟩ := funded.backed q c (charge ▸ hc)
    rw [record]
    exact ⟨paying, within.trans (applyExtra_due_ge k n _), room⟩

/-- A HIRED seat that stays so, or that a RESUME of a seat in DUE makes so, has no charge. -/
theorem GoesOn.of_hired (open_ : (s.seat q).state = .hired ∨ (s.seat q).state = .due)
    (hired : (t.seat q).state = .hired) (exclusive : (t.seat q).exclusive = (s.seat q).exclusive)
    (money : seatMoney (s.seat q) → seatMoney (t.seat q))
    (charge : t.charges.get q = s.charges.get q) : GoesOn quiet s t q where
  before := by rcases open_ with h | h <;> rw [h] <;> decide
  after := by rw [hired]; decide
  exclusive := exclusive
  owes _ := by rw [OwesIfDue, hired]; rintro (due | paying) <;> contradiction
  money funded := money (funded.seat q)
  backed _ funded := chargeBacked_of_none (ChargeKept.eq_none (.inl charge) funded
    (by rcases open_ with h | h <;> rw [h] <;> decide))

theorem deliverFare_moves (dp : Nat) (s : State) : Moves quiet s (deliverFare dp s) := by
  have accrued : Move quiet s (s.setSeats (s.seats.map
      (accrueSeat s.tariff s.band.selected s.hold.held dp (riders s.seats)))) := by
    refine ⟨rfl, fun q => ?_, .inl, fun _ => id⟩
    have record : (s.setSeats (s.seats.map
        (accrueSeat s.tariff s.band.selected s.hold.held dp (riders s.seats)))).seat q
          = accrueSeat s.tariff s.band.selected s.hold.held dp (riders s.seats) (s.seat q) :=
      PerSeat.get_map _ _ q
    by_cases hired : (s.seat q).state = .hired
    · have m := record ▸ accrueSeat_metered s.tariff s.band.selected dp (riders s.seats) s.hold.held (s.seat q)
      exact .goesOn (.of_hired (.inl hired) (m.state.trans hired) m.exclusive
        (fun money => money.meter hired m) rfl)
    · exact .stays (record.trans (accrueSeat_of_not_hired hired _ _ _ _ _)) (.inl rfl)
  exact accrued.moves.trans (compareDisplays_only _).moves

theorem splitSeats_get (v : PerSeat SeatRecord) (k : ExtraKind) (n : Nat) (q : Seat) :
    (splitSeats v k n).get q = splitSeat v k n q := by cases q <;> rfl

/-- A split reaches the HIRED seats (R75, R76). -/
theorem splitExtra_moves (k : ExtraKind) (n : Nat) (s : State) :
    Moves quiet s (compareIfChanged s (s.setSeats (splitSeats s.seats k n))) := by
  have split : Move quiet s (s.setSeats (splitSeats s.seats k n)) := by
    refine ⟨rfl, fun q => ?_, .inl, fun _ => id⟩
    have record : (s.setSeats (splitSeats s.seats k n)).seat q
        = applyExtra k (splitShare s.seats n q) (s.seat q) := splitSeats_get _ _ _ q
    by_cases hired : (s.seat q).state = .hired
    · exact .goesOn (.of_extra record (by rw [hired]; decide) rfl)
    · have none_ : splitShare s.seats n q = 0 := by
        have : (s.seats.get q).hired = false := decide_eq_false hired
        simp [splitShare, this]
      rw [none_, applyExtra_zero] at record
      exact .stays record (.inl rfl)
  exact split.moves.trans (compareIfChanged_only _ _).moves

theorem hire_moves {pool : Bool} (free : hireRefusal s q pool = none) :
    Moves quiet s (changeSeat q (hiredSeat s pool) s) := by
  have wrote := changeSeat_wrote q (hiredSeat s pool) s
  exact wrote.moves (.hires pool free wrote.seat_self (fun _ apart => wrote.seat_of_ne apart)
    (.inl (by rw [changeSeat_charges])))

/-- A RESUME needs a DUE seat without a payment, a shift that is not CLOSED and the hold RUNNING (R45). -/
theorem resumeRefusal_none (h : resumeRefusal s q = none) :
    (s.seat q).state = .due ∧ (s.seat q).payments = [] := by
  unfold resumeRefusal at h
  dsimp only at h
  split at h
  · cases h
  · split at h
    · cases h
    · next due =>
      split at h
      · cases h
      · next unpaid => exact ⟨not_not.1 due, not_not.1 unpaid⟩

theorem resumedSeat_eq (s : State) (r : SeatRecord) :
    ∃ band used, resumedSeat s r =
      { r with state := .hired, fresh := true, stopClock := none, activeBand := band, bandsUsed := used } := by
  unfold resumedSeat resumeBand
  split
  · exact ⟨_, _, rfl⟩
  · exact ⟨_, _, rfl⟩

theorem resume_moves (free : resumeRefusal s q = none) :
    Moves quiet s (changeSeat q (resumedSeat s (s.seat q)) s) := by
  obtain ⟨due, unpaid⟩ := resumeRefusal_none free
  obtain ⟨band, used, record⟩ := resumedSeat_eq s (s.seat q)
  have wrote := changeSeat_wrote q (resumedSeat s (s.seat q)) s
  refine wrote.moves (.goesOn (.of_hired (.inr due) ?_ ?_ ?_ (by rw [changeSeat_charges])))
  · rw [wrote.seat_self, record]
  · rw [wrote.seat_self, record]
  · intro money
    obtain ⟨fare, extras, paid, tips, places, covered, waived, -⟩ := money
    rw [wrote.seat_self, record]
    exact ⟨fare, extras, paid, tips, places, covered, waived, fun _ => unpaid⟩

/-! ### Trips that end in DUE -/

/-- Everything but the charge of a seat, its payer and what is told of it stands as before. -/
structure Prepared (s v : State) (q : Seat) : Prop where
  tariff : v.tariff = s.tariff
  seats : v.seats = s.seats
  accounts : v.accounts = s.accounts
  others : ∀ p, p ≠ q → v.charges.get p = s.charges.get p

theorem Prepared.of_frame {ps : List Part} (h : Frame ps s v) (sub : ps ⊆ calmParts := by decide) :
    Prepared s v q where
  tariff := h .tariff fun m => absurd (sub m) (by decide)
  seats := h .seats fun m => absurd (sub m) (by decide)
  accounts := h .accounts fun m => absurd (sub m) (by decide)
  others p _ := by rw [show v.charges = s.charges from h .charges fun m => absurd (sub m) (by decide)]

theorem Prepared.trans (h : Prepared s v q) (k : Prepared v u q) : Prepared s u q where
  tariff := k.tariff.trans h.tariff
  seats := k.seats.trans h.seats
  accounts := k.accounts.trans h.accounts
  others p apart := (k.others p apart).trans (h.others p apart)

theorem setCharge_prepared (q : Seat) (c : Option Charge) (e : Option Tag) (s : State) :
    Prepared s (setCharge q c e s) q where
  tariff := rfl
  seats := rfl
  accounts := rfl
  others _ apart := PerSeat.get_set_of_ne _ _ apart

theorem Prepared.seat (h : Prepared s v q) (p : Seat) : v.seat p = s.seat p := by
  rw [State.seat, h.seats, State.seat]

theorem Prepared.wrote {r : SeatRecord} (h : Prepared s v q) (w : Wrote v u q r) : Wrote s u q r where
  tariff := w.tariff.trans h.tariff
  seats := by rw [w.seats, h.seats]
  accounts := w.accounts.trans h.accounts
  others p apart := (w.others p apart).trans (h.others p apart)

/-- A charge that ends leaves every seat as it is. -/
theorem Prepared.moves (h : Prepared s v q) (ended : v.charges.get q = none) : Moves quiet s v := by
  refine (Move.of_stays h.tariff h.seats (fun p => ?_) (.of_eq h.accounts)).moves
  by_cases same : p = q
  · exact .inr (same ▸ ended)
  · exact .inl (h.others p same)

/-- A PAYING seat whose charge has ended returns to DUE (R50). -/
theorem leavePaying_moves (h : Prepared s v q) (ended : v.charges.get q = none) :
    Moves quiet s (leavePaying q v) := by
  unfold leavePaying
  dsimp only
  split
  · next paying =>
    rw [h.seat] at paying ⊢
    have wrote := h.wrote (changeSeat_wrote q { s.seat q with state := .due } v)
    have seat := wrote.seat_self
    refine wrote.moves (.goesOn ⟨by rw [paying]; decide, by rw [seat]; nofun, by rw [seat], ?_, ?_, ?_⟩)
    · intro owes
      rw [seat]
      exact fun _ => owes (.inr paying)
    · intro funded
      rw [seat]
      exact (funded.seat q).withState (by decide)
    · exact fun _ _ => chargeBacked_of_none (by rw [changeSeat_charges]; exact ended)
  · exact h.moves ended

/-- A payment's credit to a PAYING seat whose charge has ended (R51). -/
theorem creditCard_moves {p : Payment} (h : Prepared s v q) (ended : v.charges.get q = none)
    (within : (s.seat q).state = .paying → Funded s →
      p.amount ≤ (s.seat q).due ∧ (s.seat q).payments.length < paymentPlaces) :
    Moves quiet s (creditCard q p v) := by
  unfold creditCard
  dsimp only
  split
  · next paying =>
    rw [h.seat] at paying ⊢
    refine (h.wrote (changeSeat_wrote q { addPayment p (s.seat q) with state := .due } v)).closeIfPaid_moves
      ⟨by rw [paying]; decide, rfl, rfl, fun funded => ?_, fun _ _ => by rw [changeSeat_charges]; exact ended⟩
    obtain ⟨amount, room⟩ := within paying funded
    exact ((funded.seat q).pay (by rw [paying]; decide) amount room).withState (by decide)
  · exact h.moves ended

/-- A payment's credit to a DUE seat (R48, R51). -/
theorem payDue_moves {p : Payment} (h : Prepared s v q) (kept : v.charges = s.charges)
    (due : (s.seat q).state = .due) (within : p.amount ≤ (s.seat q).due)
    (room : (s.seat q).payments.length < paymentPlaces) :
    Moves quiet s (closeIfPaid q (v.setSeat q (addPayment p (s.seat q)))) := by
  refine (h.wrote (setSeat_wrote v q (addPayment p (s.seat q)))).closeIfPaid_moves
    ⟨by rw [due]; decide, due, rfl, fun funded => ?_, fun _ funded => ?_⟩
  · exact (funded.seat q).pay (by rw [due]; decide) within room
  · rw [State.setSeat_charges, kept]
    exact ChargeKept.eq_none (t := s) (.inl rfl) funded (by rw [due]; decide)

theorem creditAccount_moves {p : Payment} (h : Prepared s v q) (kept : v.charges = s.charges)
    (due : (s.seat q).state = .due) (within : p.amount ≤ (s.seat q).due)
    (room : (s.seat q).payments.length < paymentPlaces) : Moves quiet s (creditAccount q p v) := by
  unfold creditAccount
  dsimp only
  rw [h.seat, if_pos due]
  exact payDue_moves h kept due within room

theorem settle_moves {i : Fin 8} {p : Payer} (h : examine s q = some (i, p)) (id : Nat) :
    Moves quiet s (settle q i p id s) := by
  obtain ⟨due, -, room, -⟩ := examine_some h
  exact creditAccount_moves (.of_frame (settlePayer_frame _ _ s))
    (settlePayer_frame _ _ s .charges (by decide)) due (Nat.min_le_left _ _) room

/-- A charge start as far as the CHARGE_REQUEST: its tag is taken and the frame queued (R102). -/
def chargeAsked (q : Seat) (p : Payer) (reader : Nat) (s : State) : State :=
  send reader (.chargeRequest (newTag s.tags) q (chargeAmount (s.seat q).due p)
      (tipCeiling s.tariff (chargeAmount (s.seat q).due p) p))
    (s.setTags { s.tags with counter := newTag s.tags })

/-- The main-domain part of the charge that a charge start gives a seat (R96, R102). -/
def chargeGiven (q : Seat) (i : Fin 8) (p : Payer) (s : State) : Charge :=
  let amount := chargeAmount (s.seat q).due p
  { index := i, requested := amount, ceiling := tipCeiling s.tariff amount p,
    timer := s.tariff.chargeTimeout }

/-- A charge start as far as the payer: the seat has its charge and its slot (R102). -/
def chargeBegun (q : Seat) (i : Fin 8) (p : Payer) (reader : Nat) (s : State) : State :=
  beginCharge i q (setCharge q (some (chargeGiven q i p s))
    (some { tag := newTag s.tags, reader := reader }) (chargeAsked q p reader s))

theorem startCharge_eq (q : Seat) (i : Fin 8) (p : Payer) (reader : Nat) (s : State) :
    startCharge q i p reader s = enterPaying q (chargeBegun q i p reader s) := by
  have tariff : (chargeAsked q p reader s).tariff = s.tariff := (send_only _ _ _).tariff
  have given : chargeGiven q i p s = { chargeGiven q i p s with
      timer := (chargeAsked q p reader s).tariff.chargeTimeout } := by rw [tariff]; rfl
  rw [chargeBegun, given]
  rfl

theorem chargeBegun_prepared (q : Seat) (i : Fin 8) (p : Payer) (reader : Nat) (s : State) :
    Prepared s (chargeBegun q i p reader s) q :=
  (((Prepared.of_frame (setTags_frame s _)).trans (.of_frame (send_frame _ _ _))).trans
    (setCharge_prepared q _ _ (chargeAsked q p reader s))).trans (.of_frame (beginCharge_frame i q _))

theorem chargeBegun_charges (q : Seat) (i : Fin 8) (p : Payer) (reader : Nat) (s : State) :
    (chargeBegun q i p reader s).charges = s.charges.set q (some (chargeGiven q i p s)) := by
  have asked : (chargeAsked q p reader s).charges = s.charges := (send_only _ _ _).charges
  rw [← asked]
  exact beginCharge_frame i q _ .charges (by decide)

/-- A seat that passes the examination becomes PAYING as its charge starts (R50, R102). -/
theorem enterPaying_of_examined {i : Fin 8} {p : Payer} (h : examine s q = some (i, p))
    (prepared : Prepared s v q) :
    enterPaying q v = changeSeat q { s.seat q with state := .paying } v := by
  obtain ⟨due, owing, room, -⟩ := examine_some h
  unfold enterPaying
  dsimp only
  rw [prepared.seat, if_pos ⟨due, owing, room⟩]

/-- A card charge begins for at most what its seat owes (R102). -/
theorem startCharge_moves {i : Fin 8} {p : Payer} (h : examine s q = some (i, p)) (reader : Nat) :
    Moves quiet s (startCharge q i p reader s) := by
  have prepared := chargeBegun_prepared q i p reader s
  rw [startCharge_eq, enterPaying_of_examined h prepared]
  obtain ⟨due, owing, room, -⟩ := examine_some h
  have wrote := prepared.wrote (changeSeat_wrote q { s.seat q with state := .paying } _)
  have seat := wrote.seat_self
  refine wrote.moves (.goesOn ⟨by rw [due]; decide, by rw [seat]; nofun, by rw [seat], ?_, ?_, ?_⟩)
  · rw [seat]
    exact fun _ _ => owing
  · intro funded
    rw [seat]
    exact (funded.seat q).withState (by decide)
  · intro _ _ c hc
    rw [changeSeat_charges, chargeBegun_charges, PerSeat.get_set_self] at hc
    cases hc
    rw [seat]
    exact ⟨rfl, Nat.min_le_left _ _, room⟩

theorem passSeat_moves (q : Seat) (fuel : Nat) (s : State) : Moves quiet s (passSeat q fuel s) := by
  induction fuel generalizing s with
  | zero => exact .refl s
  | succ n ih =>
    unfold passSeat
    split
    · exact .refl s
    · next found =>
      split
      · exact startCharge_moves found _
      · exact (settle_moves found _).trans (ih _)

theorem chargePass_moves (s : State) : Moves quiet s (chargePass s) :=
  foldl_moves (fun u q => passSeat_moves q passFuel u) allSeats s

theorem passCompare_moves (s : State) : Moves quiet s (compareDisplays (chargePass s)) :=
  (chargePass_moves s).trans (compareDisplays_only _).moves

theorem passAndCompare_moves (s : State) : Moves quiet s (passAndCompare s) :=
  (chargePass_moves s).trans (compareIfChanged_only _ _).moves

/-! ### Charges that end (R104 to R111) -/

theorem setCharge_none_get (q : Seat) (e : Option Tag) (s : State) :
    (setCharge q none e s).charges.get q = none := PerSeat.get_set_self _ _ _

/-- A charge that ends leaves its slot empty; what follows leaves the charges as they are. -/
theorem Prepared.ends {ps : List Part} {e : Option Tag} (h : Prepared s t q)
    (f : Frame ps (setCharge q none e t) v) (sub : ps ⊆ calmParts := by decide) :
    Prepared s v q ∧ v.charges.get q = none := by
  refine ⟨(h.trans (setCharge_prepared q none e t)).trans (.of_frame f sub), ?_⟩
  rw [show v.charges = (setCharge q none e t).charges from f .charges fun m => absurd (sub m) (by decide)]
  exact setCharge_none_get q e t

theorem prepared_refl (s : State) (q : Seat) : Prepared s s q := ⟨rfl, rfl, rfl, fun _ _ => rfl⟩

theorem endWithoutResult_moves (q : Seat) (s : State) : Moves quiet s (endWithoutResult q s) := by
  unfold endWithoutResult
  split
  · next c e _ _ =>
    dsimp only
    set v := setCharge q none none s
    have told : Frame (.tags :: .payers :: sendParts) v (endCharge c.index 0 false
        (send e.reader (.chargeCancel e.tag) (v.setTags { v.tags with late := addLate e v.tags.late }))) :=
      ((setTags_frame v _).comp (send_frame _ _ _) (rs := .tags :: .payers :: sendParts)).comp
        (endCharge_frame _ _ _ _)
    obtain ⟨prepared, ended⟩ := (prepared_refl s q).ends told
    exact (leavePaying_moves prepared ended).trans (passCompare_moves _)
  · exact .refl s

theorem readerSilent_moves (reader : Nat) (s : State) : Moves quiet s (readerSilent reader s) := by
  unfold readerSilent
  split
  · exact endWithoutResult_moves _ s
  · exact .refl s

theorem decline_moves (q : Seat) (c : Charge) (s : State) : Moves quiet s (decline q c s) := by
  obtain ⟨prepared, ended⟩ := (prepared_refl s q).ends (endCharge_frame c.index 0 false (setCharge q none none s))
  exact (leavePaying_moves prepared ended).trans (passCompare_moves _)

/-- An approval credits no more than was asked, which its seat still owes (R105, R106). -/
theorem approve_moves {c : Charge} (charge : s.charges.get q = some c) (e : Tag) (amount tip : Nat) :
    Moves quiet s (approve q c e amount tip s) := by
  unfold approve
  dsimp only
  refine Moves.trans ?_ (passCompare_moves _)
  have adjusted : Prepared s (if approvedAmount c amount < amount ∨ approvedTip c amount tip < tip then
      send e.reader (.adjust e.tag (approvedAmount c amount) (approvedTip c amount tip)) s else s) q :=
    .of_frame (Frame.ite (send_frame _ _ s) (.refl _ s))
  obtain ⟨prepared, ended⟩ := adjusted.ends (e := none) (endCharge_frame c.index
    (approvedAmount c amount + approvedTip c amount tip) (approvedAmount c amount = c.requested) _)
  split
  · refine creditCard_moves prepared ended fun _ funded => ?_
    obtain ⟨-, within, room⟩ := funded.backed q c charge
    exact ⟨(Nat.min_le_right _ _).trans within, room⟩
  · exact leavePaying_moves prepared ended

theorem lateResult_moves (e : Tag) (approved : Bool) (s : State) : Moves quiet s (lateResult e approved s) :=
  (Moves.ite ((send_frame _ _ s).moves.trans (countVoid_moves _)) (.refl s)).trans (setTags_frame _ _).moves

theorem takeResult_moves (src tag outcome amount tip : Nat) (s : State) :
    Moves quiet s (takeResult src tag outcome amount tip s) := by
  have raised := raiseCause_moves (quiet := quiet) .source src s
  unfold takeResult
  refine .ite (.refl s) ?_
  split
  · unfold chargeAnswer
    split
    · next charge _ => exact .ite (.ite (approve_moves charge _ _ _) (decline_moves _ _ s)) raised
    · exact .refl s
  · split
    · exact .ite (lateResult_moves _ _ s) raised
    · exact .refl s

end Sys2Proof.Machine

/-! PROOFS. Every command moves the seats: the console's, the bus's, the timers' and the other blocks' (R41 to R183). -/

namespace Sys2Proof.Machine

-- One theorem at a time: the memory limit of the check counts the stack of every thread.
set_option Elab.async false

variable {quiet : Prop} {s t u : State} {q : Seat}

/-! ### Console commands (R41 to R49, R75, R85 to R88, R110, R173, R174) -/

/-- A stopped trip closes if it owes nothing (R44). -/
theorem stopSeat_moves (hired : (s.seat q).state = .hired) : Moves quiet s (stopSeat q s) := by
  have stopped := (changeSeat_wrote q (stoppedSeat s.clock.time (s.seat q)) s).closeIfPaid_moves
    (quiet := quiet) ⟨by rw [hired]; decide, rfl, rfl,
      fun funded => (funded.seat q).withState (x := .due) (by decide),
      fun _ funded => ChargeKept.eq_none (.inl (by rw [changeSeat_charges])) funded (by rw [hired]; decide)⟩
  exact stopped.trans (passCompare_moves _)

/-- A cancelled seat closes at no cost and without a payment (R46). -/
theorem cancel_moves (hired : (s.seat q).state = .hired) (extras : (s.seat q).extras.total = 0) :
    Moves quiet s (closeSeat q .cancelled (s.setSeat q { s.seat q with fare := 0 })) := by
  refine (setSeat_wrote s q _).close_moves (fun funded => ?_) fun _ funded =>
    ChargeKept.eq_none (t := s) (.inl rfl) funded (by rw [hired]; decide)
  obtain ⟨-, -, -, -, -, -, waived, unpaid⟩ := funded.seat q
  simp only [Settled, extras, waived, unpaid hired]
  rfl

/-- A waived seat closes with its due written off (R49). -/
theorem waive_moves (due : (s.seat q).state = .due) :
    Moves quiet s (closeSeat q .settled
      (s.setSeat q { s.seat q with waived := (s.seat q).waived + (s.seat q).due })) := by
  refine (setSeat_wrote s q _).close_moves (fun funded => ?_) fun _ funded =>
    ChargeKept.eq_none (t := s) (.inl rfl) funded (by rw [due]; decide)
  obtain ⟨-, -, paid, -, -, covered, waived, -⟩ := funded.seat q
  simp only [Settled, SeatRecord.due] at *
  omega

theorem addExtra_moves (occupied : (s.seat q).vacant = false) (k : ExtraKind) (n : Nat) :
    Moves quiet s (addExtra q k n s) := by
  have wrote := setSeat_wrote s q (applyExtra k n (s.seat q))
  have added : Moves quiet s (s.setSeat q (applyExtra k n (s.seat q))) :=
    wrote.moves (.goesOn (.of_extra wrote.seat_self (of_decide_eq_false occupied) rfl))
  exact (Moves.ite (added.trans (chargePass_moves _)) added).trans (compareIfChanged_only s _).moves

/-- CASH needs a DUE seat with room for a payment (R48). -/
theorem cashRefusal_none {r : SeatRecord} (h : cashRefusal r = none) :
    r.state = .due ∧ r.payments.length < paymentPlaces := by
  unfold cashRefusal at h
  split at h
  · cases h
  · split at h
    · cases h
    · next due =>
      split at h
      · cases h
      · next room => exact ⟨not_not.1 due, Nat.lt_of_not_le room⟩

theorem creditCash_moves (free : cashRefusal (s.seat q) = none) (tendered tip : Nat) :
    Moves quiet s (creditCash q (cashPayment tendered tip (s.seat q)) s) := by
  obtain ⟨due, room⟩ := cashRefusal_none free
  have paid : Moves quiet s (closeIfPaid q
      (s.setSeat q (addPayment (cashPayment tendered tip (s.seat q)) (s.seat q)))) :=
    payDue_moves (prepared_refl s q) rfl due (Nat.min_le_right _ _) room
  exact (paid.trans (.ite (chargePass_moves _) (.refl _))).trans (compareDisplays_only _).moves

theorem performed_moves {src : Nat} {c : Command} (h : Performed src c s t) : Moves quiet s t := by
  cases c with
  | shiftOpen driver =>
    obtain ⟨-, rfl⟩ := h
    refine changeShift_moves (fun _ => ?_) fun closed => ?_
    · exact (rfl : Balanced noTotals)
    · cases closed
  | shiftClose =>
    rcases h with ⟨_, ⟨vacant, rfl⟩ | ⟨_, rfl⟩⟩
    · exact closeShift_moves ((allVacant_iff _).1 vacant)
    · exact startClosing_moves s
  | hire seat pool =>
    obtain ⟨q, p, free, rfl⟩ := h
    exact (hire_moves free).trans (compareDisplays_only _).moves
  | stop seat =>
    rcases h with rfl | ⟨q, hired, e⟩
    · exact .refl _
    · rw [e]
      exact stopSeat_moves hired
  | resume seat =>
    obtain ⟨q, free, rfl⟩ := h
    exact (resume_moves free).trans (compareDisplays_only _).moves
  | cancel seat =>
    obtain ⟨q, hired, extras, rfl⟩ := h
    exact (cancel_moves hired extras).trans (compareDisplays_only _).moves
  | addExtra seat kind amount =>
    obtain ⟨q, k, n, occupied, rfl⟩ := h
    exact addExtra_moves occupied k n
  | splitExtra kind amount =>
    obtain ⟨k, n, rfl⟩ := h
    exact splitExtra_moves k n s
  | cash seat tendered tip =>
    obtain ⟨q, tendered, tip, free, rfl⟩ := h
    exact creditCash_moves free tendered tip
  | waive seat =>
    obtain ⟨q, due, rfl⟩ := h
    exact (waive_moves due).trans (compareDisplays_only _).moves
  | accountMap scope account limit tips =>
    obtain ⟨i, _, _, _, _, _, _, rfl⟩ := h
    exact (setPayers_frame s _).moves.trans (passAndCompare_moves _)
  | unmap index =>
    obtain ⟨i, _, _, _, rfl⟩ := h
    exact (setPayers_frame s _).moves.trans (passAndCompare_moves _)
  | flush =>
    rcases h with rfl | rfl
    · exact (setPayers_frame s _).moves
    · exact (setPayers_frame s _).moves.trans (passAndCompare_moves _)
  | abortCharge seat => obtain ⟨q, _, rfl⟩ := h; exact endWithoutResult_moves q s
  | holdTrigger => subst h; exact raiseCause_moves _ _ s
  | reset | readTotals | readTrip | probeSeat | probeIndex | readHold | setClock | setBand | intercomMute
    | intercomTarget | signMode | clearCause | holdRelease =>
    exact (performed_frame h).moves (by simp only [commandParts]; decide)

theorem perform_moves (src : Nat) (c : Command) (s : State) : Moves quiet s (perform src c s).1 := by
  rcases perform_cases src c s with e | h
  · rw [e]
    exact .refl s
  · exact performed_moves h

theorem takeEntry_moves (v : Option Bool) (e : FifoEntry) (s : State) :
    Moves quiet s (takeEntry v e s) := by
  refine Moves.trans ?_ (answerCommand_frame e _).moves
  unfold performDecoded
  split
  · exact (withService_frame_any v _ s).moves.trans (perform_moves _ _ _)
  · exact .refl s

theorem takeCommands_moves (v : Option Bool) (s : State) : Moves quiet s (takeCommands v s) :=
  drain_induct (P := Moves quiet s)
    (fun e _ u h _ _ => (h.trans (setLine_frame u _).moves).trans (takeEntry_moves v e _)) _ s (.refl s)

theorem arrive_moves (e : FifoEntry) (s : State) : Moves quiet s (arrive e s) :=
  .ite (setLine_frame s _).moves
    ((enqueue_only _ s).moves.trans (.ite (setDraws_frame _ _).moves (.refl _)))

theorem consoleRow_moves (v : Option Bool) (seq : Byte) (c : Command) (s : State) :
    Moves quiet s (consoleRow v seq c s) := by
  unfold consoleRow
  split
  · split
    · exact (arrive_moves _ s).trans (takeCommands_moves v _)
    · exact .refl s
  · exact .refl s

/-! ### Events (R21 to R36, R122 to R131, R148 to R158, R188 to R195) -/

theorem reportCondition_moves (c : Cause) (b : Bool) (s : State) : Moves quiet s (reportCondition c b s) :=
  (reportCondition_frame c b s).moves

/-- A cause raised with its condition present. -/
theorem raiseReport_moves (c : Cause) (src : Nat) (b : Bool) (s : State) :
    Moves quiet s (reportCondition c b (raiseCause c src s)) :=
  (raiseCause_moves c src s).trans (reportCondition_moves c b _)

theorem expireInterval_moves (s : State) : Moves quiet s (expireInterval s) := by
  have taken : Moves quiet s (takeCount s) := by
    have reset : Moves quiet s (s.setMotion { s.motion with counter := 0 }) := (setMotion_frame s _).moves
    exact .ite (reset.trans (raiseCause_moves _ _ _)) reset
  have told : ∀ dp u, Moves quiet u (tellCount dp u) := fun dp u => by
    have speed : Moves quiet u (updateSpeed dp (deliverDistance dp u)) :=
      ((setAccounts_frame u _).moves_of_ledger (deliverDistance_ledger dp u)).trans
        (setMotion_frame _ _).moves
    exact .ite ((speed.trans (setMotion_frame _ _).moves).trans (reportCondition_moves _ _ _)) speed
  rw [expireInterval_eq]
  exact .ite ((taken.trans (deliverFare_moves _ _)).trans (told _ _)) (.refl s)

theorem settleTamper_moves (s : State) : Moves quiet s (settleTamper s) := by
  have effect : ∀ b u, Moves quiet u (tamperEffect b u) := fun b u =>
    .ite (.ite (raiseReport_moves _ _ _ u) (reportCondition_moves _ _ u))
      (.ite (setHold_frame u _).moves (.refl u))
  exact .ite ((setTamperFilter_frame s _).moves.trans (effect _ _)) (.refl s)

theorem lampBoundary_moves (sense : BitVec 8) (s : State) : Moves quiet s (lampBoundary sense s) := by
  have pin := (setPins_frame s { s.pins with sense := sense }).moves (quiet := quiet)
  have reported : ∀ before after u, Moves quiet u (reportLamps before after u) := fun before after u => by
    have raised := foldl_moves (f := raiseLamp before after)
      (fun v _ => .ite (raiseReport_moves (quiet := quiet) _ _ _ v) (.refl v)) reportedChannels u
    exact .ite (raised.trans (reportCondition_moves _ _ _)) raised
  exact .ite (((pin.trans (setSign_frame _ _).moves).trans (reported _ _ _)).trans
    (setSign_frame _ _).moves) pin

theorem navSpeed_moves (valid : Bool) (speed : Nat) (s : State) :
    Moves quiet s (navSpeed valid speed s) := by
  have count : ∀ n, Moves quiet s (s.setMotion { s.motion with plausibility := n }) :=
    fun _ => (setMotion_frame s _).moves
  exact .ite (count 0) (.ite ((count 0).trans (reportCondition_moves _ _ _)) (.ite (count 0)
    (.ite (.ite ((count _).trans (raiseReport_moves _ _ _ _)) (count _)) (.refl s))))

theorem hear_moves (e : Station) (s : State) : Moves quiet s (hear e s) := by
  have heard := (setTimer_effect e.addr (some presenceTime) s).frame.moves (quiet := quiet)
  refine .ite heard (heard.trans ?_)
  unfold presentNotice
  split
  · exact passAndCompare_moves _
  · split
    · exact (setDisplay_only _ _).moves.trans (compareDisplay_only _ _).moves
    · exact .refl _
  all_goals exact .refl _

theorem silentNotice_moves (e : Station) (s : State) : Moves quiet s (silentNotice e s) := by
  unfold silentNotice
  split
  · exact readerSilent_moves _ s
  · split
    · exact (takeRelease_frame _ s).moves
    · exact .refl s
  · exact (takeRelease_frame _ s).moves
  · exact (setMotion_frame s _).moves
  all_goals exact .refl s

theorem presenceExpires_moves (addr : Nat) (s : State) : Moves quiet s (presenceExpires addr s) := by
  unfold presenceExpires
  split
  · exact .ite ((setTimer_effect _ _ s).frame.moves.trans (silentNotice_moves _ _)) (.refl s)
  · exact .refl s

theorem presentCard_moves (reader : Nat) (sc : Scope) (ref limit : Nat) (s : State) :
    Moves quiet s (presentCard reader sc ref limit s) := by
  have reply : ∀ code index, Moves quiet s (cardReply reader code index s) :=
    fun _ _ => (send_only _ _ s).moves
  unfold presentCard
  refine .ite (reply _ _) (.ite (reply _ _) ?_)
  split
  · exact reply _ _
  · refine .ite (reply _ _) ?_
    split
    · exact reply _ _
    · exact ((setPayers_frame s _).moves.trans (send_only _ _ _).moves).trans (passAndCompare_moves _)

theorem deliver_moves (e : Station) (kind : Nat) (payload : List Byte) (s : State) :
    Moves quiet s (deliver e kind payload s) := by
  unfold deliver
  split
  · exact arrive_moves _ s
  · exact (deliverTalk_effect e _ s).frame.moves
  · unfold deliverCard
    split
    · exact presentCard_moves _ _ _ _ s
    · exact .refl s
  · exact takeResult_moves _ _ _ _ _ s
  · exact (navSpeed_moves _ _ s).trans (setSign_frame _ _).moves
  · exact (raiseCause_moves _ _ s).trans (setMonitor_frame _ _).moves
  · exact .refl s

theorem receiveFrame_moves (v : Option Bool) (f : RxFrame) (s : State) :
    Moves quiet s (receiveFrame v f s) := by
  have taken : Moves quiet s (takeFrame f s) := by
    unfold takeFrame
    split
    · exact (hear_moves _ s).trans (deliver_moves _ _ _ _)
    · exact raiseCause_moves _ _ s
  have overheard : Moves quiet s (overhear f s) := by
    unfold overhear
    split
    · exact hear_moves _ s
    · exact .refl s
  exact .ite ((Moves.ite taken overheard).trans (takeCommands_moves v _)) (.refl s)

theorem receiveBytes_moves (bytes : List Byte) (s : State) : Moves quiet s (receiveBytes bytes s) := by
  unfold receiveBytes
  split
  · exact receiveFrame_moves none _ s
  · exact .refl s

theorem transmissionFails_moves (s : State) : Moves quiet s (transmissionFails s) := by
  unfold transmissionFails
  split
  · exact .refl s
  · exact ((setLine_frame s _).moves.trans (discardNotice_only _ _).moves).trans
      (takeCommands_moves none _)

theorem transmissionEnds_moves (s : State) : Follows (Moves quiet) s (transmissionEnds s) := by
  unfold transmissionEnds
  split
  · exact .runs (.refl s)
  · have sent : Moves quiet s (s.setLine { s.line with transmitting := none }) := (setLine_frame s _).moves
    dsimp only
    split
    · unfold answerSent
      split
      · exact .starts _ (setLine_frame s _).mono rfl
      · exact .runs ((sent.trans (setLine_frame _ _).moves).trans (takeCommands_moves none _))
    · exact .runs sent

theorem event_moves {c : Instr} (event : Laws.commandOf c = none) (h : exec c s = .next t) :
    Follows (Moves quiet) s t := by
  have taken : ∀ {u : State}, Moves quiet s u → Follows (Moves quiet) s (takeCommands none u) :=
    fun x => .runs (x.trans (takeCommands_moves none _))
  have supply := supply_follows (R := Moves quiet) (c := c) (s := s) (t := t) (fun _ f => f.moves)
  cases c <;> cases h
  case pgoodRise | pgoodFall | rstAssert | rstRelease | vbakLoss | imageReadTimeout | loadCompletion =>
    exact supply (by simp) rfl
  case resetTimerExpiry =>
    unfold resetExpires
    split
    · exact .starts s (.refl _ s) rfl
    · exact .runs (.refl s)
  case clockTick => exact .runs ((setClock_frame s _).moves.trans (passMinute_frame _).moves)
  case minuteBoundary => exact .runs (passMinute_frame s).moves
  case pulseChange l =>
    have pin := (setPins_frame s { s.pins with pulse := l }).moves (quiet := quiet)
    unfold pulseLevel
    dsimp only
    split
    · exact .runs pin
    · exact .runs (pin.trans (setMotion_frame _ _).moves)
  case settledEdge => exact .runs (.ite (setMotion_frame s _).moves (.refl s))
  case intervalExpiry => exact taken (expireInterval_moves s)
  case tamperChange => exact .runs ((setPins_frame s _).moves.trans (setTamperFilter_frame _ _).moves)
  case tamperSettled => exact taken (settleTamper_moves s)
  case lineIdle others => exact .runs (contend_frame others s).moves
  case transmissionComplete => exact transmissionEnds_moves s
  case transmissionAbandoned => exact .runs (transmissionFails_moves s)
  case frameDiscarded bytes => exact .runs (receiveBytes_moves bytes s)
  case presenceTimeout a => exact taken (presenceExpires_moves a.toNat s)
  case statusTimerExpiry =>
    exact .runs (.ite ((queueStatus_only s).moves.trans (takeCommands_moves none _)) (.refl s))
  case chargeTimerExpiry q => exact taken (endWithoutResult_moves q s)
  case pressLapse k => exact taken (takeRelease_frame k s).moves
  case guardExpiry => exact taken (guardExpires_frame s).moves
  case talkLimitExpiry => exact taken (talkLimitExpires_frame s).moves
  case lampPeriodBoundary sense => exact taken (lampBoundary_moves sense s)
  case frameToOtherStation | command | talk | cardPresented | chargeResult | navReport | faultReport
      | heartbeat => exact .runs (receiveFrame_moves _ _ s)
  all_goals cases event

/-- What every command of the table does to the seats and the shift, unless it stops, starts or loads the
main domain. -/
theorem exec_moves {c : Instr} (h : exec c s = .next t) : Follows (Moves quiet) s t := by
  rcases row_or_event c with ⟨service, seq, x, rfl⟩ | event
  · rw [exec_rowOf] at h
    cases h
    exact .runs (consoleRow_moves _ seq x s)
  · exact event_moves event h

end Sys2Proof.Machine

/-! PROOFS. The seat records and the books at every step: load completion, stops and starts, and the laws they keep (R1 to
R6, R38 to R52, R57, R58, R168, R169). -/

namespace Sys2Proof.Machine

-- One theorem at a time: the memory limit of the check counts the stack of every thread.
set_option Elab.async false

variable {quiet : Prop} {s t u : State} {q : Seat}

/-! ### Load completion (R5, R57, R58, R119) -/

theorem warmSeat_of_vacant {r : SeatRecord} (time : DayTime) (state : r.state = .vacant) :
    warmSeat time r = r := by
  simp [warmSeat, state]

theorem warmSeat_of_due {r : SeatRecord} (time : DayTime) (state : r.state = .due) :
    warmSeat time r = { r with progress := 0, fresh := false } := by
  simp [warmSeat, state]

theorem warmSeat_of_open {r : SeatRecord} (time : DayTime) (state : r.state = .hired ∨ r.state = .paying) :
    warmSeat time r = { r with
      state := .due, progress := 0, fresh := false, brk := true, stopClock := some time } := by
  rcases state with state | state <;> simp [warmSeat, state]

/-- A retained record at a warm start: a trip under way turns to DUE and closes if it owes nothing (R57, R58).
No charge is in flight then, which `quiet` says. -/
theorem warmStartSeat_moves (calm : quiet → s.charges.get q = none) :
    Moves quiet s (warmStartSeat s q) := by
  unfold warmStartSeat openFare
  dsimp only
  split
  · next open_ =>
    have before : (s.seat q).state = .hired ∨ (s.seat q).state = .paying := by
      simpa only [Bool.or_eq_true, decide_eq_true_eq] using open_
    refine (changeSeat_wrote q _ s).closeIfPaid_moves ⟨?_, ?_, ?_, fun funded => ?_, fun known _ => ?_⟩
    · rcases before with h | h <;> rw [h] <;> decide
    · rw [warmSeat_of_open _ before]
    · rw [warmSeat_of_open _ before]
    · rw [warmSeat_of_open _ before]
      exact (funded.seat q).withState (x := .due) (by decide)
    · rw [changeSeat_charges]
      exact calm known
  · next rests =>
    have wrote := setSeat_wrote s q (warmSeat s.clock.time (s.seat q))
    have seat := wrote.seat_self
    cases state : (s.seat q).state with
    | vacant =>
      exact wrote.moves (.stays (seat.trans (warmSeat_of_vacant _ state)) (.inl rfl))
    | due =>
      rw [warmSeat_of_due _ state] at wrote seat ⊢
      refine wrote.moves (.goesOn ⟨by rw [state]; decide, ?_, by rw [seat], ?_, ?_, fun _ funded => ?_⟩)
      · rw [seat, state]; decide
      · rw [seat]; exact id
      · rw [seat]; exact fun funded => funded.seat q
      · exact chargeBacked_of_none (ChargeKept.eq_none (s := s) (.inl rfl) funded (by rw [state]; decide))
    | hired => simp [state] at rests
    | paying => simp [state] at rests

/-- A start finds no charge in flight (R4). -/
def NoCharges (s : State) : Prop := ∀ q, s.charges.get q = none

theorem NoCharges.of_frame {ps : List Part} (h : NoCharges s) (f : Frame ps s t)
    (sub : Part.charges ∉ ps := by decide) : NoCharges t := by
  have same : t.charges = s.charges := f .charges sub
  intro q
  rw [same]
  exact h q

theorem foldl_warmStart_moves (seats : List Seat) (calm : quiet → NoCharges s) :
    Moves quiet s (seats.foldl warmStartSeat s) := by
  induction seats generalizing s with
  | nil => exact .refl s
  | cons q seats ih =>
    exact (warmStartSeat_moves fun known => calm known q).trans
      (ih fun known => (calm known).of_frame (warmStartSeat_frame s q))

theorem resumeTrips_moves (calm : quiet → NoCharges s) : Moves quiet s (resumeTrips s) :=
  ((foldl_warmStart_moves allSeats calm).trans (.ite (raiseCause_moves _ _ _) (.refl _))).trans
    (retireSlots_frame _).moves

theorem monitorStartWork_moves (s : State) : Moves quiet s (monitorStartWork s) := by
  have raise : ∀ c u, Moves quiet u (raiseIfPresent c u) :=
    fun c u => .ite (raiseCause_moves _ _ u) (.refl u)
  have enter : ∀ u, Moves quiet u (enterIfCalled u) := fun u => by
    unfold enterIfCalled
    refine .ite (.refl u) ?_
    split
    · exact enterHeld_moves _ _ u
    · exact .refl u
  have reported : Moves quiet s (causesReported s) := by
    have conditions : Moves quiet s (startConditions s) := (setMonitor_frame s _).moves
    exact .ite (conditions.trans (clearStatus_frame _ _).moves) conditions
  exact (((reported.trans (raise _ _)).trans (raise _ _)).trans (raise _ _)).trans (enter _)

theorem retainedWork_moves (calm : quiet → NoCharges s) : Moves quiet s (retainedWork s) := by
  have drawn := setDraws_frame s (s.draws + 1)
  have started := fun known => (calm known).of_frame drawn
  unfold retainedWork warmWork
  split
  · exact monitorStartWork_moves s
  · refine .ite (.ite ?_ ?_) ((foldl_warmStart_moves allSeats calm).trans (monitorStartWork_moves _))
    · exact (drawn.moves.trans (monitorStartWork_moves _)).trans
        (resumeTrips_moves fun known => (started known).of_frame (monitorStartWork_frame _))
    · exact (drawn.moves.trans (resumeTrips_moves started)).trans (monitorStartWork_moves _)

/-- What the start work does to the seats and the shift once step 4's outcome is in force. -/
theorem startWork_moves {l : Loaded} (calm : quiet → NoCharges s) :
    Moves quiet (putInForce l s) (startWork l s) := by
  have told := intercomStartWork_frame (putInForce l s)
  have inForce := fun known => ((calm known).of_frame (putInForce_frame l s)).of_frame told
  exact ((told.moves.trans (retainedWork_moves inForce)).trans (computeSign_frame _).moves).trans
    (queueStatus_frame _).moves

/-! ### Stops and starts (R1 to R4) -/

theorem stopMain_seats (s : State) :
    (stopMain s).seats = s.seats ∧ (stopMain s).accounts = s.accounts := by
  rw [stopMain_eq]
  exact ⟨rfl, rfl⟩

/-- A start keeps the retained records, or begins with every seat VACANT and the shift CLOSED (R4). -/
theorem beginStart_seats (s : State) :
    (beginStart s).seats = s.seats ∧ (beginStart s).accounts = s.accounts ∨
      (beginStart s).seats = seatsOf vacantSeat ∧ (beginStart s).accounts = accountsCold := by
  cases marker : s.markerValid with
  | true => rw [beginStart_of_valid marker]; exact .inl ⟨rfl, rfl⟩
  | false => rw [beginStart_of_failed marker]; exact .inr ⟨rfl, rfl⟩

/-! ### The laws of the seat records -/

/-- A law of the seats and the shift's state, which holds where every seat is VACANT and which every change
of the running part keeps. -/
structure SeatLaw (law : State → Prop) : Prop where
  congr : ∀ {s t : State}, t.seats = s.seats → t.accounts = s.accounts → law s → law t
  vacant : ∀ {s : State}, s.seats = seatsOf vacantSeat → law s
  kept : ∀ s t : State, Move False s t → law s → law t

theorem SeatLaw.exec {law : State → Prop} (h : SeatLaw law) {c : Instr} (before : law s)
    (e : exec c s = .next t) : law t := by
  cases exec_moves (quiet := False) e with
  | runs moves => exact moves.keep h.kept before
  | stops u pins e =>
    subst e
    obtain ⟨seats, accounts⟩ := stopMain_seats u
    exact h.congr (seats.trans (pins .seats (by decide))) (accounts.trans (pins .accounts (by decide))) before
  | starts u moved e =>
    subst e
    rcases beginStart_seats u with ⟨seats, accounts⟩ | ⟨seats, -⟩
    · exact h.congr (seats.trans (moved .seats (by decide))) (accounts.trans (moved .accounts (by decide))) before
    · exact h.vacant seats
  | loads bytes reading e =>
    subst e
    exact (startWork_moves False.elim).keep h.kept
      (h.congr (putInForce_seats _ s) (putInForce_accounts _ s) before)
  | backup e => subst e; exact h.congr (s := s) rfl rfl before

theorem SeatLaw.keptByStep {law : State → Prop} (h : SeatLaw law) : KeptByStep law :=
  keptByStep_of (fun s _ before => h.congr (s := s) rfl rfl before) fun _ _ _ => h.exec

theorem seat_of_seats (h : t.seats = s.seats) (q : Seat) : t.seat q = s.seat q := by
  rw [State.seat, State.seat, h]

theorem seat_of_vacant (h : s.seats = seatsOf vacantSeat) (q : Seat) : s.seat q = vacantSeat := by
  rw [State.seat, h, seatsOf_get]

theorem vacantLaw_seatLaw : SeatLaw VacantLaw where
  congr seats _ h q := by rw [seat_of_seats seats]; exact h q
  vacant seats q _ := seat_of_vacant seats q
  kept _ _ move := move.vacantLaw

theorem shiftLaw_seatLaw : SeatLaw ShiftLaw where
  congr seats accounts h closed q := by rw [seat_of_seats seats]; exact h (accounts ▸ closed) q
  vacant seats _ q := by rw [seat_of_vacant seats]; rfl
  kept _ _ move := move.shiftLaw

theorem exclusiveLaw_seatLaw : SeatLaw ExclusiveLaw where
  congr seats _ h q p := by rw [seat_of_seats seats, seat_of_seats seats]; exact h q p
  vacant seats q p _ _ _ := by rw [seat_of_vacant seats]; rfl
  kept _ _ move := move.exclusiveLaw

theorem dueLaw_seatLaw : SeatLaw DueLaw where
  congr seats _ h q := by rw [seat_of_seats seats]; exact h q
  vacant seats q := by rw [seat_of_vacant seats]; rintro (due | paying) <;> contradiction
  kept _ _ move := move.dueLaw

/-- Settles O9: each of the four laws is kept by every move of the seats. -/
theorem stepKeepsSeatRecords : Obligations.StepKeepsSeatRecords :=
  ⟨vacantLaw_seatLaw.keptByStep, shiftLaw_seatLaw.keptByStep, exclusiveLaw_seatLaw.keptByStep,
    dueLaw_seatLaw.keptByStep⟩

/-! ### The books -/

theorem Funded.of_idle (money : ∀ q, seatMoney (s.seat q)) (idle : NoCharges s)
    (bands : ∀ b ∈ s.tariff.bands, b.flagFall ≤ maxFare) : Funded s :=
  ⟨money, fun q => chargeBacked_of_none (idle q), bands⟩

/-- An accepted image's flag falls are within 9999, and a rejected one has no band (R10). -/
theorem loadImage_flagFall (image : List Byte) :
    ∀ b ∈ (loadImage image).tariff.bands, b.flagFall ≤ maxFare := by
  intro b mem
  obtain ⟨-, ok, -⟩ := band_of_good mem
  exact ((bandOk_iff b).1 ok).1.trans (by decide)

/-- A stop and a start leave no charge and no band (R1, R4). -/
theorem books_of_start (charges : t.charges = seatsOf none) (tariff : t.tariff = tariffStart)
    (kept : t.seats = s.seats ∧ t.accounts = s.accounts ∨
      t.seats = seatsOf vacantSeat ∧ t.accounts = accountsCold)
    (funded : Funded s) (balance : BalanceLaw s) : Funded t ∧ BalanceLaw t := by
  have idle : NoCharges t := fun q => by rw [charges, seatsOf_get]
  have bands : ∀ b ∈ t.tariff.bands, b.flagFall ≤ maxFare := by rw [tariff]; nofun
  rcases kept with ⟨seats, accounts⟩ | ⟨seats, accounts⟩
  · refine ⟨.of_idle (fun q => ?_) idle bands, ?_⟩
    · rw [seat_of_seats seats]; exact funded.seat q
    · rw [BalanceLaw, accounts]; exact balance
  · refine ⟨.of_idle (fun q => ?_) idle bands, ?_⟩
    · rw [seat_of_vacant seats]; exact seatMoney_vacant
    · rw [BalanceLaw, accounts]; rfl

theorem books_of_frame {ps : List Part} (f : Frame ps s t) (funded : Funded s) (balance : BalanceLaw s)
    (sub : ps ⊆ calmParts := by decide) : Funded t ∧ BalanceLaw t :=
  (f.moves (quiet := True) sub).books trivial funded balance

theorem exec_keeps_books {c : Instr} (start : StartLaw s) (funded : Funded s) (balance : BalanceLaw s)
    (e : exec c s = .next t) : Funded t ∧ BalanceLaw t := by
  cases exec_moves (quiet := True) e with
  | runs moves => exact moves.books trivial funded balance
  | stops u pins e =>
    subst e
    obtain ⟨funded, balance⟩ := books_of_frame pins funded balance
    exact books_of_start (by rw [stopMain_eq]; rfl) (by rw [stopMain_eq]; rfl) (.inl (stopMain_seats u))
      funded balance
  | starts u moved e =>
    subst e
    obtain ⟨funded, balance⟩ := books_of_frame moved funded balance
    refine books_of_start ?_ (beginStart_main u).1 (beginStart_seats u) funded balance
    cases marker : u.markerValid with
    | true => rw [beginStart_of_valid marker]; rfl
    | false => rw [beginStart_of_failed marker]; rfl
  | loads bytes reading e =>
    subst e
    obtain ⟨main, read, -⟩ := start
    obtain ⟨-, -, -, -, -, charges, -⟩ := main (read reading)
    have idle : NoCharges s := fun q => by rw [charges, seatsOf_get]
    have seats := putInForce_seats (loadImage bytes) s
    refine (startWork_moves (quiet := True) fun _ => idle).books trivial
      (.of_idle (fun q => ?_) (idle.of_frame (putInForce_frame _ s)) ?_) ?_
    · rw [seat_of_seats seats]; exact funded.seat q
    · rw [putInForce_tariff]; exact loadImage_flagFall bytes
    · rw [BalanceLaw, putInForce_accounts]; exact balance
  | backup e => subst e; exact ⟨⟨funded.seat, funded.backed, funded.bands⟩, balance⟩

/-- Settles O10: a trip's money is in order at every move, and a close adds as much to the payments and
waivers as to the fares and extras. -/
theorem stepKeepsBooksBalanced : Obligations.StepKeepsBooksBalanced := by
  refine keptByStep_of (fun _ _ h => h) fun c s t h e => ?_
  obtain ⟨start, funded, vacant, balance⟩ := (booksLaw_iff s).1 h
  obtain ⟨funded', balance'⟩ := exec_keeps_books start funded balance e
  exact (booksLaw_iff t).2 ⟨exec_keeps_startLaw start e, funded', vacantLaw_seatLaw.exec vacant e, balance'⟩

end Sys2Proof.Machine

/-! PROOFS. HIRE, STOP and RESUME: the checks in their order, and the record each sets (R41, R42, R44, R45, R52). -/

namespace Sys2Proof.Machine

-- One theorem at a time: the memory limit of the check counts the stack of every thread.
set_option Elab.async false

variable {s t : State} {q : Seat}

/-! ### Operands (R190) -/

theorem seatArg_none {b : Byte} (h : seatOfNumber b.toNat = none) : seatArg b = none := h

theorem seatArg_some {b : Byte} (h : seatOfNumber b.toNat = some q) : seatArg b = some q := h

theorem byte_seatNumber {b : Byte} (h : seatOfNumber b.toNat = some q) : byte (seatNumber q) = b := by
  rw [← seatNumber_of_seatOfNumber h]
  exact (BitVec.ofNat_toNat 8 b).trans (BitVec.setWidth_eq b)

theorem flagArg_of_le {b : Byte} (h : b.toNat ≤ 1) : flagArg b = some (decide (b.toNat = 1)) := by
  unfold flagArg
  interval_cases b.toNat <;> rfl

theorem flagArg_of_gt {b : Byte} (h : 1 < b.toNat) : flagArg b = none := by
  unfold flagArg
  split
  · next zero => omega
  · next one => omega
  · rfl

/-! ### HIRE (R41, R42) -/

theorem hireCommand_range {seat pool : Byte} (h : seatOfNumber seat.toNat = none ∨ 1 < pool.toNat) :
    hireCommand seat pool s = refuse s .range := by
  unfold hireCommand
  split
  · next q p seated flag =>
    rcases h with none_ | more
    · exact nomatch (seatArg_none none_).symm.trans seated
    · exact nomatch (flagArg_of_gt more).symm.trans flag
  · rfl

theorem hireCommand_refused {seat pool : Byte} {code : ResultCode} (seated : seatOfNumber seat.toNat = some q)
    (flag : pool.toNat ≤ 1) (e : hireRefusal s q (decide (pool.toNat = 1)) = some code) :
    hireCommand seat pool s = refuse s code := by
  unfold hireCommand
  rw [seatArg_some seated, flagArg_of_le flag]
  dsimp only
  rw [e]

theorem hireCommand_done {seat pool : Byte} (seated : seatOfNumber seat.toNat = some q)
    (flag : pool.toNat ≤ 1) (e : hireRefusal s q (decide (pool.toNat = 1)) = none) :
    hireCommand seat pool s =
      done (compareDisplays (changeSeat q (hiredSeat s (decide (pool.toNat = 1))) s))
        (seat :: byte s.band.selected :: bigEndian (hireTerms s.tariff s.band.selected).1 3) := by
  unfold hireCommand
  rw [seatArg_some seated, flagArg_of_le flag]
  dsimp only
  rw [e, byte_seatNumber seated]
  rfl

theorem hireTerms_of_band {t : Tariff} {n : Nat} {b : Band} (h : bandAt t n = some b) :
    hireTerms t n = (b.flagFall, b.freeSteps) := by
  rw [hireTerms, h]

/-- An open shift that is not HELD, and a VACANT seat: the checks of HIRE before the exclusive flags. -/
structure MayHire (s : State) (q : Seat) : Prop where
  opened : s.accounts.shift.state = .opened
  running : s.hold.held = false
  vacant : (s.seat q).state = .vacant

theorem MayHire.refusal (h : MayHire s q) (pool : Bool) :
    hireRefusal s q pool =
      if (pool = false ∧ othersOccupied s.seats q = true) ∨ exclusiveOccupied s.seats = true then
        some .exclusive
      else none := by
  obtain ⟨opened, running, vacant⟩ := h
  cases pool <;> simp [hireRefusal, opened, running, vacant, SeatRecord.vacant]
  grind

/-- The seats after a change of one, displays compared. -/
theorem shown_seats (q : Seat) (r : SeatRecord) (s : State) :
    (compareDisplays (changeSeat q r s)).seats = s.seats.set q r :=
  (compareDisplays_only _).seats.trans (changeSeat_seats q r s)

/-- Settles O29: HIRE's checks are `hireRefusal`, one branch each, and the record is `hiredSeat`'s at the
selected band. -/
theorem hireStartsTrip : Obligations.HireStartsTrip := by
  intro s a seq seat pool ready
  have row : ∀ {t code data}, hireCommand seat pool s = (t, ⟨code, data⟩) →
      exec (.hire seq seat pool) s = .next (answered a seq (.hire seat pool) code data t) :=
    fun e => exec_row_of_perform (service := false) (c := .hire seat pool) ready rfl e
  refine ⟨fun out => row (hireCommand_range out), fun q seated flag => ?_⟩
  have refused : ∀ {code}, hireRefusal s q (decide (pool.toNat = 1)) = some code →
      exec (.hire seq seat pool) s = .next (answered a seq (.hire seat pool) code [] s) :=
    fun e => row (hireCommand_refused seated flag e)
  refine ⟨fun shift => refused ?_, fun opened held => refused ?_, fun opened running =>
    ⟨fun occupied => refused ?_, fun vacant => ⟨fun beside => refused ?_, fun free lone b band => ?_⟩⟩⟩
  · rw [hireRefusal, if_pos shift]
  · rw [hireRefusal, if_neg (not_not_intro opened), if_pos held]
  · simp [hireRefusal, opened, running, SeatRecord.vacant, occupied]
  · rw [(MayHire.mk opened running vacant).refusal, if_pos]
    rw [othersOccupied_iff, exclusiveOccupied_iff, decide_eq_false_iff_not]
    exact beside.imp_left fun ⟨zero, other⟩ => ⟨by omega, other⟩
  · have open_ : hireRefusal s q (decide (pool.toNat = 1)) = none := by
      rw [(MayHire.mk opened running vacant).refusal, if_neg]
      rw [othersOccupied_iff, exclusiveOccupied_iff, decide_eq_false_iff_not]
      rintro (⟨zero, p, ne, occupied⟩ | ⟨p, exclusive, occupied⟩)
      · exact occupied (free.resolve_left zero p ne)
      · exact occupied (lone p exclusive)
    have done_ := hireCommand_done seated flag open_
    rw [hireTerms_of_band band] at done_
    refine ⟨_, row done_, ?_⟩
    rw [shown_seats, hiredSeat, hireTerms_of_band band]
    have exclusive : (!decide (pool.toNat = 1)) = decide (pool.toNat = 0) := by
      rw [← decide_not, decide_eq_decide]
      omega
    rw [exclusive]

/-! ### STOP (R44) -/

theorem stopCommand_none {seat : Byte} (h : seatOfNumber seat.toNat = none) :
    stopCommand seat s = refuse s .range := by
  rw [stopCommand, seatArg_none h]

/-- STOP by the seat's state. -/
theorem stopCommand_eq {seat : Byte} (h : seatOfNumber seat.toNat = some q) :
    stopCommand seat s = match (s.seat q).state with
      | .hired => done (stopSeat q s) (bigEndian (s.seat q).due 3)
      | .due => done s (bigEndian (s.seat q).due 3)
      | .paying => refuse s .busy
      | .vacant => refuse s .state := by
  rw [stopCommand, seatArg_some h] <;> rfl

theorem changeSeat_seat (q : Seat) (r : SeatRecord) (s : State) : (changeSeat q r s).seat q = r := by
  rw [State.seat, changeSeat_seats, PerSeat.get_set_self]

/-- A DUE record's announced change closes exactly if nothing is owed. -/
theorem closeIfPaid_of_due (h : (s.seat q).state = .due) :
    closeIfPaid q s = if (s.seat q).due = 0 then closeSeat q .settled s else s := by
  unfold closeIfPaid
  simp only [h, true_and]

theorem payersAtClose_of_none (q : Seat) (others : Bool) (h : s.payers = indexesOf none) :
    (payersAtClose q others s).payers = indexesOf none := by
  have removed : ∀ (sc : Scope) (t : State), t.payers = indexesOf none →
      (removeScope sc t).payers = indexesOf none := fun sc t none_ => by
    have absent : findScope (indexesOf none) sc = none := findScope_eq_none.2 fun i p e => by simp at e
    unfold removeScope
    rw [none_, absent]
    exact none_
  unfold payersAtClose
  dsimp only
  split
  · exact removed _ _ h
  · exact removed _ _ (removed _ _ h)

/-- Without a payer the pass after a change leaves the seats. -/
theorem pass_seats_of_no_payer (h : s.payers = indexesOf none) :
    (compareDisplays (chargePass s)).seats = s.seats := by
  rw [(compareDisplays_only _).seats, chargePass_of_no_payer h]

theorem closeSeat_no_payer (q : Seat) (e : TripEnd) (h : s.payers = indexesOf none) :
    (closeSeat q e s).payers = indexesOf none := by
  rw [closeSeat_payers, payersAtClose_of_none q _ h]

/-- What a stopped or paid seat's record becomes without a payer: its VACANT values once nothing is owed. -/
theorem closeOrKeep_seats (q : Seat) (n : Nat) (h : s.payers = indexesOf none) :
    (compareDisplays (chargePass (if n = 0 then closeSeat q .settled s else s))).seats =
      if n = 0 then s.seats.set q vacantSeat else s.seats := by
  split
  · rw [pass_seats_of_no_payer (closeSeat_no_payer q _ h), closeSeat_seats]
  · rw [pass_seats_of_no_payer h]

theorem stopSeat_eq (q : Seat) (s : State) :
    stopSeat q s =
      let u := changeSeat q (stoppedSeat s.clock.time (s.seat q)) s
      compareDisplays (chargePass (if (s.seat q).due = 0 then closeSeat q .settled u else u)) := by
  have seat := changeSeat_seat q (stoppedSeat s.clock.time (s.seat q)) s
  rw [stopSeat, closeIfPaid_of_due (by rw [seat]; rfl), seat]
  rfl

theorem stop_ends_metering : Claims.StopEndsMetering := by
  intro s a seq seat ready
  have row : ∀ {t code data}, stopCommand seat s = (t, ⟨code, data⟩) →
      exec (.stop seq seat) s = .next (answered a seq (.stop seat) code data t) :=
    fun e => exec_row_of_perform (service := false) (c := .stop seat) ready rfl e
  refine ⟨fun out => row (stopCommand_none out), fun q seated => ⟨fun due => row ?_, fun paying => row ?_,
    fun vacant => row ?_, fun hired => ⟨changeSeat_seats _ _ _, row ?_, fun none_ => ?_⟩⟩⟩
  · rw [stopCommand_eq seated, due]; rfl
  · rw [stopCommand_eq seated, paying]; rfl
  · rw [stopCommand_eq seated, vacant]; rfl
  · rw [stopCommand_eq seated, hired, stopSeat_eq]; rfl
  · rw [closeOrKeep_seats _ _ ((changeSeat_payers _ _ _).trans none_), changeSeat_seats, PerSeat.set_set]
    split <;> rfl

/-! ### RESUME (R45) -/

theorem resumeCommand_none {seat : Byte} (h : seatOfNumber seat.toNat = none) :
    resumeCommand seat s = refuse s .range := by
  rw [resumeCommand, seatArg_none h]

theorem resumeCommand_refused {seat : Byte} {code : ResultCode} (h : seatOfNumber seat.toNat = some q)
    (e : resumeRefusal s q = some code) : resumeCommand seat s = refuse s code := by
  rw [resumeCommand, seatArg_some h]
  dsimp only
  rw [e]

theorem resumedSeat_fare (s : State) (r : SeatRecord) : (resumedSeat s r).fare = r.fare := by
  unfold resumedSeat resumeBand
  split <;> rfl

theorem resumeCommand_done {seat : Byte} (h : seatOfNumber seat.toNat = some q)
    (e : resumeRefusal s q = none) :
    resumeCommand seat s =
      done (compareDisplays (changeSeat q (resumedSeat s (s.seat q)) s)) (bigEndian (s.seat q).fare 3) := by
  rw [resumeCommand, seatArg_some h]
  dsimp only
  rw [e]
  dsimp only
  rw [resumedSeat_fare]

theorem resume_returns_to_metering : Claims.ResumeReturnsToMetering := by
  intro s a seq seat ready
  have row : ∀ {t code data}, resumeCommand seat s = (t, ⟨code, data⟩) →
      exec (.resume seq seat) s = .next (answered a seq (.resume seat) code data t) :=
    fun e => exec_row_of_perform (service := false) (c := .resume seat) ready rfl e
  refine ⟨fun out => row (resumeCommand_none out), fun q seated => ?_⟩
  have refused : ∀ {code}, resumeRefusal s q = some code →
      exec (.resume seq seat) s = .next (answered a seq (.resume seat) code [] s) :=
    fun e => row (resumeCommand_refused seated e)
  refine ⟨fun paying => refused ?_, fun other => refused ?_, fun due => ⟨fun paid => refused ?_,
    fun unpaid => ⟨fun closed => refused ?_, fun shift held => refused ?_, fun shift running => ?_⟩⟩⟩
  · simp [resumeRefusal, paying]
  · rcases other with state | state <;> simp [resumeRefusal, state]
  · simp [resumeRefusal, due, paid]
  · simp [resumeRefusal, due, unpaid, closed]
  · simp [resumeRefusal, due, unpaid, shift, held]
  · have free : resumeRefusal s q = none := by simp [resumeRefusal, due, unpaid, shift, running]
    refine ⟨_, row (resumeCommand_done seated free), fun defined => ?_, fun undefined => ?_⟩
    · rw [shown_seats, resumedSeat, resumeBand, if_neg (by exact not_lt_of_ge defined)]
    · rw [shown_seats, resumedSeat, resumeBand, if_pos (by exact undefined)]
      rfl

/-- Settles O30: STOP by the seat's state, and RESUME by the first check that fails. -/
theorem stopAndResume : Obligations.StopAndResume := ⟨stop_ends_metering, resume_returns_to_metering⟩

end Sys2Proof.Machine

/-! PROOFS. CANCEL, WAIVE, the extras and CASH: every form, the close, and the shares of a split (R46 to R49, R52, R75, R76). -/

namespace Sys2Proof.Machine

-- One theorem at a time: the memory limit of the check counts the stack of every thread.
set_option Elab.async false

variable {s t : State} {q : Seat}

/-! ### CANCEL and WAIVE (R46, R49, R52) -/

/-- A close adds its trip to the lifetime totalizers, whatever it does to the shift (R178). -/
theorem closeSeat_totalizers (q : Seat) (e : TripEnd) (s : State) :
    (closeSeat q e s).accounts.totalizers =
      addLifetime (composeTrip q e (s.seat q)) s.accounts.totalizers := by
  rw [closeSeat_accounts]
  obtain ⟨st, cc, same⟩ := afterTrip_accounts (othersOccupied s.seats q)
    (s.setAccounts (recordTrip (composeTrip q e (s.seat q)) s.accounts s.tariff.identity))
  rw [same]
  rfl

/-- A record written and its seat closed at once: the other seats stay. -/
theorem closeSeat_setSeat_seats (q : Seat) (e : TripEnd) (r : SeatRecord) (s : State) :
    (compareDisplays (closeSeat q e (s.setSeat q r))).seats = s.seats.set q vacantSeat := by
  rw [(compareDisplays_only _).seats, closeSeat_seats]
  exact PerSeat.set_set _ _ _ _

theorem closeSeat_setSeat_lifetime (q : Seat) (e : TripEnd) (r : SeatRecord) (s : State) :
    let z := (compareDisplays (closeSeat q e (s.setSeat q r))).accounts.totalizers
    z.trips = min max32 (s.accounts.totalizers.trips + 1) ∧
      z.fare = min max32 (s.accounts.totalizers.fare + r.fare) := by
  dsimp only
  rw [(compareDisplays_only _).accounts, closeSeat_totalizers, State.setSeat_seat_self]
  exact ⟨rfl, rfl⟩

theorem cancelCommand_none {seat : Byte} (h : seatOfNumber seat.toNat = none) :
    cancelCommand seat s = refuse s .range := by
  rw [cancelCommand, seatArg_none h]

/-- A HIRED record whose fare is forgone (R46). -/
def forgoneSeat (r : SeatRecord) : SeatRecord := { r with fare := 0 }

theorem cancelCommand_eq {seat : Byte} (h : seatOfNumber seat.toNat = some q) :
    cancelCommand seat s =
      if (s.seat q).state ≠ .hired then refuse s .state
      else if 0 < chargedSteps (s.seat q) ∨ 0 < (s.seat q).extras.total then refuse s .charged
      else done (compareDisplays (closeSeat q .cancelled (s.setSeat q (forgoneSeat (s.seat q))))) [] := by
  rw [cancelCommand, seatArg_some h]
  rfl

theorem waiveCommand_none {seat : Byte} (h : seatOfNumber seat.toNat = none) :
    waiveCommand seat s = refuse s .range := by
  rw [waiveCommand, seatArg_none h]

/-- A DUE record with its due written off (R49). -/
def waivedSeat (r : SeatRecord) : SeatRecord := { r with waived := r.waived + r.due }

/-- WAIVE by the seat's state. -/
theorem waiveCommand_eq {seat : Byte} (h : seatOfNumber seat.toNat = some q) :
    waiveCommand seat s = match (s.seat q).state with
      | .paying => refuse s .busy
      | .hired | .vacant => refuse s .state
      | .due => done (compareDisplays (closeSeat q .settled (s.setSeat q (waivedSeat (s.seat q)))))
          (bigEndian (s.seat q).due 3) := by
  rw [waiveCommand, seatArg_some h] <;> rfl

/-- Settles O31: each form of the two commands, and the close of the record they write. -/
theorem cancelAndWaiveCloseSeat : Obligations.CancelAndWaiveCloseSeat := by
  intro s a seq seat ready
  have cancelRow : ∀ {t code data}, cancelCommand seat s = (t, ⟨code, data⟩) →
      exec (.cancel seq seat) s = .next (answered a seq (.cancel seat) code data t) :=
    fun e => exec_row_of_perform (service := false) (c := .cancel seat) ready rfl e
  have waiveRow : ∀ {t code data}, waiveCommand seat s = (t, ⟨code, data⟩) →
      exec (.waive seq seat) s = .next (answered a seq (.waive seat) code data t) :=
    fun e => exec_row_of_perform (service := false) (c := .waive seat) ready rfl e
  refine ⟨fun out => ⟨cancelRow (cancelCommand_none out), waiveRow (waiveCommand_none out)⟩,
    fun q seated => ⟨fun other => cancelRow ?_, fun hired => ⟨fun charged => cancelRow ?_,
      fun steps extras => ?_⟩, fun paying => waiveRow ?_, fun other => waiveRow ?_, fun due => ?_⟩⟩
  · rw [cancelCommand_eq seated, if_pos other]; rfl
  · rw [cancelCommand_eq seated, if_neg (not_not_intro hired), if_pos (by exact charged)]; rfl
  · have free : ¬(0 < chargedSteps (s.seat q) ∨ 0 < (s.seat q).extras.total) := by
      unfold chargedSteps
      omega
    have done_ := cancelCommand_eq (s := s) seated
    rw [if_neg (not_not_intro hired), if_neg free] at done_
    exact ⟨_, cancelRow done_, closeSeat_setSeat_seats _ _ _ _, closeSeat_setSeat_lifetime _ _ _ _⟩
  · rw [waiveCommand_eq seated, paying]; rfl
  · rcases other with state | state <;> rw [waiveCommand_eq seated, state] <;> rfl
  · have done_ := waiveCommand_eq (s := s) seated
    rw [due] at done_
    exact ⟨_, waiveRow done_, closeSeat_setSeat_seats _ _ _ _, closeSeat_setSeat_lifetime _ _ _ _⟩

/-! ### ADD_EXTRA (R47) -/

theorem answered_seats (a : Nat) (seq : Byte) (c : Command) (code : ResultCode) (data : List Byte)
    (t : State) : (answered a seq c code data t).seats = t.seats :=
  (enqueue_only _ _).seats

theorem kindArg_of_gt {b : Byte} (h : 3 < b.toNat) : kindArg b = none := by
  unfold kindArg
  split
  case h_5 => rfl
  all_goals omega

theorem inRange_false {lo hi n : Nat} (h : n < lo ∨ hi < n) : inRange lo hi n = false := by
  rw [← Bool.not_eq_true, inRange_iff]
  omega

/-- An extra's kind and amount outside their ranges (R47, R75). -/
def ExtraOutOfRange (kind : Byte) (amount : Word24) : Prop :=
  3 < kind.toNat ∨ amount.toNat < 1 ∨ 9999 < amount.toNat

theorem addExtraCommand_range {seat kind : Byte} {amount : Word24}
    (h : seatOfNumber seat.toNat = none ∨ ExtraOutOfRange kind amount) :
    addExtraCommand seat kind amount s = refuse s .range := by
  unfold addExtraCommand
  split
  · next q k seated kinded =>
    rcases h with none_ | more | out
    · exact nomatch (seatArg_none none_).symm.trans seated
    · exact nomatch (kindArg_of_gt more).symm.trans kinded
    · dsimp only
      rw [inRange_false out]
      rfl
  · rfl

theorem addExtraCommand_eq {seat kind : Byte} {amount : Word24} {k : ExtraKind}
    (seated : seatOfNumber seat.toNat = some q) (kinded : kindArg kind = some k)
    (within : ¬ExtraOutOfRange kind amount) :
    addExtraCommand seat kind amount s =
      if (s.seat q).state = .vacant then refuse s .state
      else done (addExtra q k amount.toNat s)
        (bigEndian (extraApplied amount.toNat (s.seat q)) 2 ++
          bigEndian ((s.seat q).extras.total + extraApplied amount.toNat (s.seat q)) 3) := by
  unfold ExtraOutOfRange at within
  have inside : inRange 1 9999 amount.toNat = true := (inRange_iff _ _ _).2 (by omega)
  unfold addExtraCommand
  rw [seatArg_some seated, kinded]
  simp only [inside, SeatRecord.vacant, applyExtra, Extras.add_total]
  simp

/-- The seats after an extra, where no pass follows or no payer serves one. -/
theorem addExtra_seats (k : ExtraKind) (n : Nat)
    (quiet : (s.seat q).state ≠ .due ∨ s.payers = indexesOf none) :
    (addExtra q k n s).seats = s.seats.set q (applyExtra k n (s.seat q)) := by
  rw [addExtra, (compareIfChanged_only _ _).seats]
  rcases quiet with other | none_
  · rw [if_neg fun h => other h.1]
    rfl
  · rw [chargePass_of_no_payer (s := s.setSeat q _) none_, ite_self]
    rfl

/-! ### SPLIT_EXTRA (R75, R76) -/

theorem splitExtraCommand_range {kind : Byte} {amount : Word24} (h : ExtraOutOfRange kind amount) :
    splitExtraCommand kind amount s = refuse s .range := by
  unfold splitExtraCommand
  dsimp only
  split
  · rfl
  · next k kinded =>
    rcases h with more | out
    · exact nomatch (kindArg_of_gt more).symm.trans kinded
    · rw [inRange_false out]
      rfl

theorem splitExtraCommand_eq {kind : Byte} {amount : Word24} {k : ExtraKind}
    (kinded : kindArg kind = some k) (within : ¬ExtraOutOfRange kind amount) :
    splitExtraCommand kind amount s =
      if riders s.seats = 0 then refuse s .state
      else done (compareIfChanged s (s.setSeats (splitSeats s.seats k amount.toNat)))
        (bigEndian (splitTotal s.seats amount.toNat) 2
          ++ (allSeats.map (fun q => bigEndian (splitApplied s.seats amount.toNat q) 2)).flatten) := by
  unfold ExtraOutOfRange at within
  have inside : inRange 1 9999 amount.toNat = true := (inRange_iff _ _ _).2 (by omega)
  unfold splitExtraCommand
  dsimp only
  rw [kinded]
  dsimp only
  rw [inside]
  rfl

theorem extras_grow_by_what_is_applied : Claims.ExtrasGrowByWhatIsApplied := by
  intro s a seq seat kind amount ready
  have addRow : ∀ {t code data}, addExtraCommand seat kind amount s = (t, ⟨code, data⟩) →
      exec (.addExtra seq seat kind amount) s =
        .next (answered a seq (.addExtra seat kind amount) code data t) :=
    fun e => exec_row_of_perform (service := false) (c := .addExtra seat kind amount) ready rfl e
  have splitRow : ∀ {t code data}, splitExtraCommand kind amount s = (t, ⟨code, data⟩) →
      exec (.splitExtra seq kind amount) s =
        .next (answered a seq (.splitExtra kind amount) code data t) :=
    fun e => exec_row_of_perform (service := false) (c := .splitExtra kind amount) ready rfl e
  refine ⟨fun out => addRow (addExtraCommand_range out), fun out => splitRow (splitExtraCommand_range out),
    fun within k kinded => ⟨fun none_ => splitRow ?_, fun ⟨q, hired⟩ => ?_,
      fun q seated => ⟨fun vacant => addRow ?_, fun occupied => ?_⟩⟩⟩
  · rw [splitExtraCommand_eq kinded within, if_pos ((riders_eq_zero _).2 none_)]
    rfl
  · have done_ := splitExtraCommand_eq (s := s) kinded within
    rw [if_neg fun none_ => (riders_eq_zero _).1 none_ q hired] at done_
    refine ⟨_, splitRow done_, fun p => ?_⟩
    rw [State.seat, (compareIfChanged_only _ _).seats]
    exact splitSeats_get _ _ _ p
  · rw [addExtraCommand_eq seated kinded within, if_pos vacant]
    rfl
  · have row := addRow ((addExtraCommand_eq seated kinded within).trans (if_neg occupied))
    exact ⟨row, fun quiet => ⟨_, row, (answered_seats _ _ _ _ _ _).trans (addExtra_seats k _ quiet)⟩⟩

/-- What the first `n` HIRED seats have of an amount: a quotient each, and the remainder's units as far
as they go (R75). -/
def dealt (amount k n : Nat) : Nat := n * (amount / k) + min n (amount % k)

theorem dealt_zero (amount k : Nat) : dealt amount k 0 = 0 := by simp [dealt]

theorem dealt_all {amount k : Nat} (h : 0 < k) : dealt amount k k = amount := by
  have less := Nat.mod_lt amount h
  rw [dealt, min_eq_right less.le]
  exact Nat.div_add_mod amount k

/-- A seat's share takes what is dealt from the HIRED seats before it to those up to it. -/
theorem dealt_add_share (v : PerSeat SeatRecord) (amount : Nat) (q : Seat) :
    dealt amount (riders v) (hiredBefore v q) + splitShare v amount q =
      dealt amount (riders v) (hiredBefore v q + (v.get q).hired.toNat) := by
  cases hired : (v.get q).hired with
  | false => simp [splitShare, hired]
  | true =>
    simp only [splitShare, hired, dealt, if_true, Bool.toNat_true, Nat.add_mul, Nat.one_mul]
    split <;> omega

theorem hiredBefore_one (v : PerSeat SeatRecord) : hiredBefore v .one = 0 := rfl

theorem hiredBefore_two (v : PerSeat SeatRecord) :
    hiredBefore v .two = hiredBefore v .one + (v.get .one).hired.toNat := by
  cases h : (v.get .one).hired <;> simp [hiredBefore, allSeats, seatNumber, h]

theorem hiredBefore_three (v : PerSeat SeatRecord) :
    hiredBefore v .three = hiredBefore v .two + (v.get .two).hired.toNat := by
  cases h : (v.get .two).hired with
  | false => simp [hiredBefore, allSeats, seatNumber, h, List.filter_cons]
  | true =>
    simp [hiredBefore, allSeats, seatNumber, h, List.filter_cons]
    split <;> rfl

theorem hiredBefore_four (v : PerSeat SeatRecord) :
    hiredBefore v .four = hiredBefore v .three + (v.get .three).hired.toNat := by
  cases h : (v.get .three).hired with
  | false => simp [hiredBefore, allSeats, seatNumber, h, List.filter_cons]
  | true =>
    simp [hiredBefore, allSeats, seatNumber, h, List.filter_cons]
    split <;> split <;> rfl

theorem riders_eq_hiredBefore (v : PerSeat SeatRecord) :
    riders v = hiredBefore v .four + (v.get .four).hired.toNat := by
  rw [hiredBefore_four, hiredBefore_three, hiredBefore_two, hiredBefore_one, Nat.zero_add]
  rfl

theorem hiredBefore_le (v : PerSeat SeatRecord) {p q : Seat} (h : seatNumber q ≤ seatNumber p) :
    hiredBefore v q ≤ hiredBefore v p := by
  refine (List.monotone_filter_right _ fun r => ?_).length_le
  simp only [Bool.and_eq_true, decide_eq_true_eq]
  exact fun ⟨before, hired⟩ => ⟨before.trans_le h, hired⟩

/-- The shares telescope: seat by seat, what is dealt grows from nothing to the amount. -/
theorem sum_splitShare (v : PerSeat SeatRecord) (amount : Nat) (h : 0 < riders v) :
    (allSeats.map (splitShare v amount)).sum = amount := by
  have one := dealt_add_share v amount .one
  have two := dealt_add_share v amount .two
  have three := dealt_add_share v amount .three
  have four := dealt_add_share v amount .four
  rw [← hiredBefore_two, hiredBefore_one, dealt_zero] at one
  rw [← hiredBefore_three] at two
  rw [← hiredBefore_four] at three
  rw [← riders_eq_hiredBefore, dealt_all h] at four
  simp only [allSeats, List.map_cons, List.map_nil, List.sum_cons, List.sum_nil]
  omega

theorem splitShare_hired {v : PerSeat SeatRecord} (amount : Nat) (h : (v.get q).state = .hired) :
    splitShare v amount q =
      amount / riders v + if hiredBefore v q < amount % riders v then 1 else 0 := by
  have hired : (v.get q).hired = true := decide_eq_true h
  rw [splitShare, if_pos hired]

theorem split_shares_sum_to_amount : Claims.SplitSharesSumToAmount := by
  intro v amount some_
  refine ⟨sum_splitShare v amount some_, fun q => ⟨fun other => ?_, fun hired => ⟨?_, fun p also lower => ?_⟩⟩⟩
  · rw [splitShare, if_neg (by simpa [SeatRecord.hired] using other)]
  · rw [splitShare_hired amount hired]
    split
    · exact .inr rfl
    · exact .inl rfl
  · have before := hiredBefore_le v lower
    rw [splitShare_hired amount hired, splitShare_hired amount also]
    split <;> split <;> omega

/-- Settles O34: the extras of every form, and the shares of a split. -/
theorem extrasAndSplitShares : Obligations.ExtrasAndSplitShares :=
  ⟨extras_grow_by_what_is_applied, split_shares_sum_to_amount⟩

/-! ### CASH (R48) -/

theorem cashCommand_range {seat : Byte} {tendered tip : Word24}
    (h : seatOfNumber seat.toNat = none ∨ tendered.toNat < 1 ∨ 999999 < tendered.toNat ∨ 999999 < tip.toNat) :
    cashCommand seat tendered tip s = refuse s .range := by
  unfold cashCommand
  split
  · rfl
  · next q seated =>
    rw [if_pos]
    rw [Bool.or_eq_true, Bool.not_eq_true', Bool.not_eq_true']
    rcases h with none_ | low | high | tip
    · exact nomatch (seatArg_none none_).symm.trans seated
    · exact .inl (inRange_false (.inl low))
    · exact .inl (inRange_false (.inr high))
    · exact .inr (inRange_false (.inr tip))

/-- The operands of a CASH within their ranges (R48). -/
structure CashOperands (seat : Byte) (tendered tip : Word24) (q : Seat) : Prop where
  seated : seatOfNumber seat.toNat = some q
  least : 1 ≤ tendered.toNat
  most : tendered.toNat ≤ 999999
  tip : tip.toNat ≤ 999999

theorem CashOperands.not_refused {seat : Byte} {tendered tip : Word24} (h : CashOperands seat tendered tip q) :
    ¬(!inRange 1 999999 tendered.toNat || !inRange 0 999999 tip.toNat) = true := by
  obtain ⟨-, least, most, small⟩ := h
  rw [(inRange_iff _ _ _).2 ⟨least, most⟩, (inRange_iff _ _ _).2 ⟨Nat.zero_le _, small⟩]
  decide

theorem cashCommand_refused {seat : Byte} {tendered tip : Word24} {code : ResultCode}
    (h : CashOperands seat tendered tip q) (e : cashRefusal (s.seat q) = some code) :
    cashCommand seat tendered tip s = refuse s code := by
  rw [cashCommand, seatArg_some h.seated]
  dsimp only
  rw [if_neg h.not_refused, e]

theorem cashCommand_done {seat : Byte} {tendered tip : Word24} (h : CashOperands seat tendered tip q)
    (e : cashRefusal (s.seat q) = none) :
    cashCommand seat tendered tip s =
      let p := cashPayment tendered.toNat tip.toNat (s.seat q)
      done (creditCash q p s)
        (bigEndian p.amount 3 ++ bigEndian (tendered.toNat - p.amount) 3 ++ bigEndian p.tip 3) := by
  rw [cashCommand, seatArg_some h.seated]
  dsimp only
  rw [if_neg h.not_refused, e]

/-- A credited seat closes exactly if it then owes nothing; else a pass is run (R48, R98). -/
theorem creditCash_eq (p : Payment) (due : (s.seat q).state = .due) :
    creditCash q p s =
      let t := s.setSeat q (addPayment p (s.seat q))
      compareDisplays (if (addPayment p (s.seat q)).due = 0 then closeSeat q .settled t else chargePass t) := by
  have state : ((s.setSeat q (addPayment p (s.seat q))).seat q).state = .due := by
    rw [State.setSeat_seat_self]
    exact due
  unfold creditCash
  rw [closeIfPaid_of_due state, State.setSeat_seat_self]
  dsimp only
  split
  · unfold passIfDue
    rw [if_neg]
    rw [State.seat, closeSeat_seats, PerSeat.get_set_self]
    decide
  · unfold passIfDue
    rw [if_pos state]

/-- Settles O35: CASH's range check, then `cashRefusal`'s branches, then the credit. -/
theorem cashIsCutToDue : Obligations.CashIsCutToDue := by
  intro s a seq seat tendered tip ready
  have row : ∀ {t code data}, cashCommand seat tendered tip s = (t, ⟨code, data⟩) →
      exec (.cash seq seat tendered tip) s =
        .next (answered a seq (.cash seat tendered tip) code data t) :=
    fun e => exec_row_of_perform (service := false) (c := .cash seat tendered tip) ready rfl e
  refine ⟨fun out => row (cashCommand_range out), fun q seated least most small => ?_⟩
  have operands : CashOperands seat tendered tip q := ⟨seated, least, most, small⟩
  have refused : ∀ {code}, cashRefusal (s.seat q) = some code →
      exec (.cash seq seat tendered tip) s =
        .next (answered a seq (.cash seat tendered tip) code [] s) :=
    fun e => row (cashCommand_refused operands e)
  refine ⟨fun paying => refused ?_, fun other => refused ?_, fun due full => refused ?_, fun due room => ?_⟩
  · simp [cashRefusal, paying]
  · rcases other with state | state <;> simp [cashRefusal, state]
  · simp [cashRefusal, due, paymentPlaces, full]
  · have free : cashRefusal (s.seat q) = none := by simp [cashRefusal, due, paymentPlaces, not_le_of_gt room]
    have done_ := row (cashCommand_done operands free)
    rw [creditCash_eq _ due] at done_
    refine ⟨fun paid => ⟨done_.trans ?_, closeSeat_setSeat_seats _ _ _ _⟩,
      fun owes => ⟨done_.trans ?_, fun none_ => pass_seats_of_no_payer none_⟩⟩
    · dsimp only
      rw [if_pos (by exact paid)]
      rfl
    · dsimp only
      rw [if_neg (by exact owes.ne')]
      rfl

end Sys2Proof.Machine

/-! PROOFS. The charge-start pass: the examination, the start of a card charge, and a settlement (R98 to R103). -/

namespace Sys2Proof.Machine

-- One theorem at a time: the memory limit of the check counts the stack of every thread.
set_option Elab.async false

variable {s t u v : State} {q : Seat} {i : Fin 8} {p : Payer}

/-! ### The examination of a seat (R99) -/

theorem examine_of_not_due (h : (s.seat q).state ≠ .due) : examine s q = none := by
  cases examined : examine s q with
  | none => rfl
  | some x => exact absurd (examine_some (i := x.1) (p := x.2) examined).1 h

theorem examine_of_no_payer (h : ∀ j, s.payers.get j = none) : examine s q = none := by
  cases examined : examine s q with
  | none => rfl
  | some x =>
    obtain ⟨-, -, -, -, found, -⟩ := examine_some (i := x.1) (p := x.2) examined
    rw [h] at found
    cases found

/-- A DUE seat that owes nothing, or whose list of payments is full, is passed over. -/
theorem examine_of_settled (h : (s.seat q).due = 0 ∨ 6 ≤ (s.seat q).payments.length) :
    examine s q = none := by
  cases examined : examine s q with
  | none => rfl
  | some x =>
    obtain ⟨-, owing, room, -⟩ := examine_some (i := x.1) (p := x.2) examined
    unfold paymentPlaces at room
    omega

/-- A seat waits whose only possible payer is CHARGING. -/
theorem examine_of_charging (only : ∀ j, j ≠ i → s.payers.get j = none) (e : s.payers.get i = some p)
    (charging : p.charging ≠ none) : examine s q = none := by
  cases examined : examine s q with
  | none => rfl
  | some x =>
    obtain ⟨-, -, -, -, found, idle, -⟩ := examine_some (i := x.1) (p := x.2) examined
    by_cases same : x.1 = i
    · rw [same, e] at found
      cases found
      exact absurd idle charging
    · rw [only _ same] at found
      cases found

theorem readerReady_card {reader ref : Nat} (kind : p.kind = .card reader ref)
    (present : readerPresent s.line.roster reader = true)
    (free : ∀ x e, s.tags.slots.get x = some e → e.reader ≠ reader) : readerReady s p = true := by
  have idle : readerBusy s.tags reader = false := by
    rw [← Bool.not_eq_true, readerBusy, PerSeat.any_iff]
    rintro ⟨x, taken⟩
    simp only [Option.any_eq_true, decide_eq_true_eq] at taken
    obtain ⟨e, slot, same⟩ := taken
    exact free x e slot same
  unfold readerReady
  rw [kind]
  dsimp only
  rw [present, idle]
  rfl

theorem readerReady_account {id : Nat} (kind : p.kind = .account id) : readerReady s p = true := by
  unfold readerReady
  rw [kind]

/-- A seat that a pass charges: DUE with a due and room for a payment, and its payer IDLE and not spent
(R98, R99). -/
structure Chargeable (s : State) (q : Seat) (i : Fin 8) (p : Payer) : Prop where
  due : (s.seat q).state = .due
  owing : 0 < (s.seat q).due
  room : (s.seat q).payments.length < 6
  resolved : resolve s.payers q = some i
  payer : s.payers.get i = some p
  idle : p.charging = none
  unspent : p.spent < p.limit

theorem Chargeable.examine (h : Chargeable s q i p) (ready : readerReady s p = true) :
    examine s q = some (i, p) := by
  obtain ⟨due, owing, room, resolved, payer, idle, unspent⟩ := h
  unfold Machine.examine
  dsimp only
  rw [if_pos ⟨due, owing, room⟩, resolved]
  dsimp only
  rw [payer]
  dsimp only
  rw [if_pos ⟨idle, Nat.sub_pos_of_lt unspent, ready⟩]

/-- The only payer serves every seat in its scope. -/
theorem resolve_only (only : ∀ j, j ≠ i → s.payers.get j = none) (e : s.payers.get i = some p)
    (scope : p.scope = .seat q ∨ p.scope = .party) : resolve s.payers q = some i := by
  have found : ∀ sc j, findScope s.payers sc = some j → j = i := fun sc j h => by
    obtain ⟨r, got, -⟩ := findScope_some h
    by_contra other
    rw [only j other] at got
    cases got
  have serves : ∀ sc, p.scope = sc → findScope s.payers sc = some i := fun sc h => by
    cases search : findScope s.payers sc with
    | none => exact absurd h (findScope_eq_none.1 search i p e)
    | some j => rw [found sc j search]
  unfold resolve
  cases own : findScope s.payers (.seat q) with
  | some j =>
    rw [found _ j own]
  | none =>
    refine serves _ (scope.resolve_left fun seat => ?_)
    rw [serves _ seat] at own
    cases own

/-! ### The pass at one seat (R98) -/

/-- A pass that changes something at one seat only. -/
theorem chargePass_at (before : ∀ x, seatNumber x < seatNumber q → examine s x = none)
    (after : ∀ x, seatNumber q < seatNumber x → examine (passSeat q passFuel s) x = none) :
    chargePass s = passSeat q passFuel s := by
  have skip := fun x h => passSeat_of_examine_none (before x h) passFuel
  have rest := fun x h => passSeat_of_examine_none (after x h) passFuel
  change passSeat .four passFuel (passSeat .three passFuel (passSeat .two passFuel (passSeat .one passFuel s))) = _
  cases q with
  | one => rw [rest .two (by decide), rest .three (by decide), rest .four (by decide)]
  | two => rw [skip .one (by decide), rest .three (by decide), rest .four (by decide)]
  | three => rw [skip .one (by decide), skip .two (by decide), rest .four (by decide)]
  | four => rw [skip .one (by decide), skip .two (by decide), skip .three (by decide)]

theorem passSeat_card {reader ref : Nat} (h : examine s q = some (i, p)) (kind : p.kind = .card reader ref)
    (n : Nat) : passSeat q (n + 1) s = startCharge q i p reader s := by
  rw [passSeat, h]
  dsimp only
  rw [kind]

theorem passSeat_account {id : Nat} (h : examine s q = some (i, p)) (kind : p.kind = .account id) (n : Nat) :
    passSeat q (n + 1) s = passSeat q n (settle q i p id s) := by
  rw [passSeat, h]
  dsimp only
  rw [kind]

/-! ### Frames of the charge sequencer -/

/-- The sorts of frames that a charge start sends. -/
theorem chargeRequest_behaved (n : Nat) (q : Seat) (amount ceiling : Nat) :
    Behaved (.chargeRequest n q amount ceiling) := .inl rfl

theorem setCharge_tells (c : Option Charge) (e : Option Tag) : Tells Behaved 0 s (setCharge q c e s) :=
  .of_eq rfl rfl rfl

theorem beginCharge_tells : Tells Behaved 0 s (beginCharge i q s) := by
  unfold beginCharge
  split
  · split
    · exact .of_eq rfl rfl rfl
    · exact .refl s
  · exact .refl s

theorem settlePayer_tells (n : Nat) : Tells Behaved 0 s (settlePayer i n s) := by
  unfold settlePayer
  split
  · split
    · exact .of_eq rfl rfl rfl
    · exact .refl s
  · exact .refl s

theorem changeSeat_behaved (q : Seat) (r : SeatRecord) : Tells Behaved 0 s (changeSeat q r s) :=
  changeSeat_tells behaved_allows.status q r

theorem leavePaying_tells : Tells Behaved 0 s (leavePaying q s) := .ite (changeSeat_behaved q _) (.refl s)

theorem enterPaying_tells : Tells Behaved 0 s (enterPaying q s) := .ite (changeSeat_behaved q _) (.refl s)

theorem creditCard_tells (pay : Payment) : Tells Behaved 0 s (creditCard q pay s) :=
  .ite ((changeSeat_behaved q _).trans (closeIfPaid_tells behaved_allows.toAllowsClose q)) (.refl s)

theorem creditAccount_tells (pay : Payment) : Tells Behaved 0 s (creditAccount q pay s) :=
  .ite ((setSeat_tells q _).trans (closeIfPaid_tells behaved_allows.toAllowsClose q)) (.refl s)

theorem startCharge_tells (reader : Nat) : Tells Behaved 1 s (startCharge q i p reader s) :=
  ((((setTags_tells _).trans (send_tells (chargeRequest_behaved _ _ _ _))).trans
    (setCharge_tells _ _)).trans beginCharge_tells).trans enterPaying_tells

theorem passSeat_tells (n : Nat) : Tells Behaved 1 s (passSeat q n s) := by
  induction n generalizing s with
  | zero => exact (Tells.refl s).mono (by omega)
  | succ n ih =>
    unfold passSeat
    split
    · exact (Tells.refl s).mono (by omega)
    · split
      · exact startCharge_tells _
      · exact ((settlePayer_tells _).trans (creditAccount_tells _)).trans ih

theorem chargePass_tells : Tells Behaved 4 s (chargePass s) :=
  (((passSeat_tells (q := .one) passFuel).trans (passSeat_tells (q := .two) passFuel)).trans
    (passSeat_tells (q := .three) passFuel)).trans (passSeat_tells (q := .four) passFuel)

theorem compareDisplays_tells : Tells Behaved 0 s (compareDisplays s) :=
  foldl_tells (fun _ q => compareDisplay_tells behaved_allows.toAllowsClose q) allSeats s

/-! ### The start of a charge (R102) -/

theorem beginCharge_of_idle {reader ref : Nat} (payer : s.payers.get i = some p)
    (kind : p.kind = .card reader ref) (idle : p.charging = none) :
    beginCharge i q s = setPayer i (some { p with charging := some q }) s := by
  unfold beginCharge
  rw [payer]
  dsimp only
  rw [kind, idle]

/-- The amount and the tip ceiling that a charge start asks for (R102). -/
theorem chargeAmount_eq (due : Nat) (p : Payer) : chargeAmount due p = min due (p.limit - p.spent) := rfl

/-- What a charge start leaves: the seat is PAYING, with its charge, its slot and its payer CHARGING, and
the reader is asked (R50, R90, R96, R102). -/
structure Started (s t : State) (q : Seat) (i : Fin 8) (p : Payer) (reader : Nat) : Prop where
  seats : t.seats = s.seats.set q { s.seat q with state := .paying }
  charges : t.charges = s.charges.set q (some (chargeGiven q i p s))
  tags : t.tags = { s.tags with
    counter := newTag s.tags,
    slots := s.tags.slots.set q (some { tag := newTag s.tags, reader := reader }) }
  payers : t.payers = s.payers.set i (some { p with charging := some q })
  asked : s.line.queue.length < 16 →
    { dest := reader, answer := false,
      body := .chargeRequest (newTag s.tags) q (chargeGiven q i p s).requested
        (chargeGiven q i p s).ceiling } ∈ t.line.queue

theorem chargeBegun_tags (reader : Nat) :
    (chargeBegun q i p reader s).tags = { s.tags with
      counter := newTag s.tags,
      slots := s.tags.slots.set q (some { tag := newTag s.tags, reader := reader }) } := by
  have asked : (chargeAsked q p reader s).tags = { s.tags with counter := newTag s.tags } :=
    (send_only _ _ _).tags
  have begun : (chargeBegun q i p reader s).tags = { (chargeAsked q p reader s).tags with
      slots := (chargeAsked q p reader s).tags.slots.set q (some { tag := newTag s.tags, reader := reader }) } :=
    beginCharge_frame i q _ .tags (by decide)
  rw [begun, asked]

theorem chargeBegun_payers {reader at_ ref : Nat} (h : Chargeable s q i p) (kind : p.kind = .card at_ ref) :
    (chargeBegun q i p reader s).payers = s.payers.set i (some { p with charging := some q }) := by
  have asked : (chargeAsked q p reader s).payers = s.payers := (send_only _ _ _).payers
  rw [chargeBegun, beginCharge_of_idle (p := p) _ kind h.idle]
  · change (PerIndex.set (chargeAsked q p reader s).payers _ _) = _
    rw [asked]
  · change (chargeAsked q p reader s).payers.get i = _
    rw [asked, h.payer]

theorem startCharge_started {reader ref : Nat} (h : Chargeable s q i p) (kind : p.kind = .card reader ref)
    (ready : readerReady s p = true) : Started s (startCharge q i p reader s) q i p reader := by
  have begun := chargeBegun_prepared q i p reader s
  rw [startCharge_eq, enterPaying_of_examined (h.examine ready) begun]
  refine ⟨?_, ?_, ?_, ?_, fun room => ?_⟩
  · rw [changeSeat_seats, begun.seats]
  · rw [changeSeat_charges, chargeBegun_charges]
  · exact (changeSeat_frame q _ _ .tags (by decide)).trans (chargeBegun_tags reader)
  · rw [changeSeat_payers, chargeBegun_payers h kind]
  · have after : Tells Behaved 0 (chargeAsked q p reader s)
        (changeSeat q { s.seat q with state := .paying } (chargeBegun q i p reader s)) :=
      ((setCharge_tells _ _).trans beginCharge_tells).trans (changeSeat_behaved q _)
    exact after.mem_of_top (mem_enqueue_self room) rfl

/-- A pass that charges a card at one seat. -/
theorem chargePass_card {reader ref : Nat} (h : Chargeable s q i p) (kind : p.kind = .card reader ref)
    (ready : readerReady s p = true)
    (before : ∀ x, seatNumber x < seatNumber q → examine s x = none)
    (after : ∀ t, Started s t q i p reader → ∀ x, seatNumber q < seatNumber x → examine t x = none) :
    Started s (chargePass s) q i p reader := by
  have started := startCharge_started h kind ready
  have seat : passSeat q passFuel s = startCharge q i p reader s := passSeat_card (h.examine ready) kind _
  rw [chargePass_at before (by rw [seat]; exact after _ started), seat]
  exact started

/-- The seats beside a seat that has been written stay as they were. -/
theorem seat_of_set {r : SeatRecord} (h : t.seats = s.seats.set q r) {x : Seat} (ne : x ≠ q) :
    t.seat x = s.seat x := by
  rw [State.seat, h, PerSeat.get_set_of_ne _ _ ne]
  rfl

theorem ne_of_seatNumber_lt {x y : Seat} (h : seatNumber x < seatNumber y) : x ≠ y := by
  rintro rfl
  exact lt_irrefl _ h

/-- With no other seat DUE, a pass that charges a card does so at this seat alone. -/
theorem chargePass_card_alone {reader ref : Nat} (alone : ∀ x, x ≠ q → (s.seat x).state ≠ .due)
    (h : Chargeable s q i p) (kind : p.kind = .card reader ref) (ready : readerReady s p = true) :
    Started s (chargePass s) q i p reader := by
  refine chargePass_card h kind ready
    (fun x less => examine_of_not_due (alone x (ne_of_seatNumber_lt less)))
    fun t started x less => examine_of_not_due ?_
  rw [seat_of_set started.seats (ne_of_seatNumber_lt less).symm]
  exact alone x (ne_of_seatNumber_lt less).symm

theorem pass_starts_card_charge : Claims.PassStartsCardCharge := by
  intro s q i p reader ref alone due owing room resolved payer kind idle unspent present free places
  obtain ⟨seats, charges, tags, payers, asked⟩ := chargePass_card_alone alone
    ⟨due, owing, room, resolved, payer, idle, unspent⟩ kind (readerReady_card kind present free)
  exact ⟨seats, charges, tags, payers, asked places⟩

theorem party_reader_serves_lowest_seat : Claims.PartyReaderServesLowestSeat := by
  intro s q i p reader ref lower due owing room payer party kind idle unspent only present free places
  have chargeable : Chargeable s q i p :=
    ⟨due, owing, room, resolve_only only payer (.inr party), payer, idle, unspent⟩
  have lowest : ∀ x, seatNumber x < seatNumber q → examine s x = none := fun x less => by
    by_cases state : (s.seat x).state = .due
    · exact examine_of_settled (lower x less state)
    · exact examine_of_not_due state
  have waits : ∀ t, Started s t q i p reader → ∀ x, seatNumber q < seatNumber x → examine t x = none :=
    fun t started x _ => by
      refine examine_of_charging (i := i) (p := { p with charging := some q }) (fun j ne => ?_) ?_ nofun
      · rw [started.payers, PerIndex.get_set, if_neg ne, only j ne]
      · rw [started.payers, PerIndex.get_set_self]
  obtain ⟨seats, charges, tags, payers, asked⟩ :=
    chargePass_card chargeable kind (readerReady_card kind present free) lowest waits
  refine ⟨seats, ?_, fun x ne => ?_, ?_, payers, _, asked places⟩
  · rw [charges, PerSeat.get_set_self]
    rfl
  · rw [charges, PerSeat.get_set_of_ne _ _ ne]
  · rw [tags]

/-! ### A settlement (R103) -/

theorem settlePayer_of_idle {id : Nat} (payer : s.payers.get i = some p) (kind : p.kind = .account id)
    (idle : p.charging = none) (n : Nat) :
    settlePayer i n s = setPayer i (keepUnlessSpent { p with spent := p.spent + n }) s := by
  unfold settlePayer
  rw [payer]
  dsimp only
  rw [kind, idle]

/-- The payment entry of a settlement (R103). -/
def settlement (q : Seat) (p : Payer) (id : Nat) (s : State) : Payment :=
  let amount := chargeAmount (s.seat q).due p
  { method := .account, amount := amount, tip := accountTip s.tariff amount p, ref := some id }

/-- The payer charged and the payment credited, before the close that may follow (R51, R103). -/
def settledState (q : Seat) (i : Fin 8) (p : Payer) (id : Nat) (s : State) : State :=
  let pay := settlement q p id s
  (setPayer i (keepUnlessSpent { p with spent := p.spent + (pay.amount + pay.tip) }) s).setSeat q
    (addPayment pay (s.seat q))

theorem settle_eq {id : Nat} (h : Chargeable s q i p) (kind : p.kind = .account id) :
    settle q i p id s =
      if (addPayment (settlement q p id s) (s.seat q)).due = 0 then
        closeSeat q .settled (settledState q i p id s)
      else settledState q i p id s := by
  unfold settle
  dsimp only
  rw [settlePayer_of_idle h.payer kind h.idle]
  have due : ((settledState q i p id s).seat q).state = .due := by
    rw [settledState, State.setSeat_seat_self]
    exact h.due
  have closes := closeIfPaid_of_due due
  rw [settledState, State.setSeat_seat_self] at closes
  unfold creditAccount
  dsimp only
  rw [if_pos (by exact h.due)]
  exact closes

theorem chargePass_account {id : Nat} (h : Chargeable s q i p) (kind : p.kind = .account id)
    (alone : ∀ x, x ≠ q → (s.seat x).state ≠ .due)
    (others : ∀ x, x ≠ q → (settle q i p id s).seat x = s.seat x)
    (ends : examine (settle q i p id s) q = none) : chargePass s = settle q i p id s := by
  have seat : passSeat q passFuel s = settle q i p id s :=
    (passSeat_account (h.examine (readerReady_account kind)) kind _).trans (passSeat_of_examine_none ends _)
  rw [chargePass_at (fun x less => examine_of_not_due (alone x (ne_of_seatNumber_lt less))) fun x less => ?_, seat]
  rw [seat]
  refine examine_of_not_due ?_
  have ne := (ne_of_seatNumber_lt less).symm
  rw [others x ne]
  exact alone x ne

/-- A settlement that does not pay the whole due spends its payer's limit: the tip has no room then. -/
theorem spent_of_owing {id : Nat} (h : Chargeable s q i p)
    (owes : (addPayment (settlement q p id s) (s.seat q)).due ≠ 0) :
    keepUnlessSpent { p with
      spent := p.spent + ((settlement q p id s).amount + (settlement q p id s).tip) } = none := by
  have less : (settlement q p id s).amount ≠ (s.seat q).due := fun whole => owes (by
    simp only [SeatRecord.due, addPayment, whole]
    omega)
  have all : (settlement q p id s).amount = p.limit - p.spent := by
    have := chargeAmount_eq (s.seat q).due p
    change chargeAmount _ _ ≠ _ at less
    change chargeAmount _ _ = _
    omega
  have unspent := h.unspent
  rw [keepUnlessSpent, if_pos]
  change p.limit - (p.spent + _) = 0
  omega

theorem pass_settles_account : Claims.PassSettlesAccount := by
  intro s q i p id alone due owing room resolved payer kind idle unspent only
  have h : Chargeable s q i p := ⟨due, owing, room, resolved, payer, idle, unspent⟩
  have settled := settle_eq h kind
  have written : (settledState q i p id s).seats =
      s.seats.set q (addPayment (settlement q p id s) (s.seat q)) := rfl
  by_cases paid : (addPayment (settlement q p id s) (s.seat q)).due = 0
  · rw [if_pos paid] at settled
    have seats : (settle q i p id s).seats = s.seats.set q vacantSeat := by
      rw [settled, closeSeat_seats, written, PerSeat.set_set]
    have pass := chargePass_account h kind alone (fun x ne => seat_of_set seats ne)
      (examine_of_not_due (by rw [State.seat, seats, PerSeat.get_set_self]; decide))
    have frame := closeSeat_frame q .settled (settledState q i p id s)
    dsimp only
    rw [pass]
    refine ⟨fun _ => ⟨seats, ?_⟩, fun owes => absurd paid owes.ne', ?_, ?_⟩
    · rw [settled, closeSeat_totalizers, settledState, State.setSeat_seat_self]
      rfl
    · rw [settled]
      exact frame .charges (by decide)
    · rw [settled]
      exact frame .tags (by decide)
  · rw [if_neg paid] at settled
    have payers : (settledState q i p id s).payers = s.payers.set i none :=
      congrArg (s.payers.set i) (spent_of_owing h paid)
    have none_ : ∀ j, (settledState q i p id s).payers.get j = none := fun j => by
      rw [payers, PerIndex.get_set]
      split
      · rfl
      · next other => exact only j other
    have pass := chargePass_account h kind alone
      (fun x ne => by rw [settled]; exact seat_of_set written ne)
      (by rw [settled]; exact examine_of_no_payer none_)
    dsimp only
    rw [pass, settled]
    exact ⟨fun closed => absurd closed paid, fun _ => ⟨written, payers, rfl⟩, rfl, rfl⟩

/-- Settles O42: the seat that the pass charges, and the seats before and behind it that it passes over. -/
theorem passChargesCardOrAccount : Obligations.PassChargesCardOrAccount :=
  ⟨pass_starts_card_charge, pass_settles_account, party_reader_serves_lowest_seat⟩

end Sys2Proof.Machine

/-! PROOFS. An approval: clamped, credited, and followed by the next charge (R51, R92, R93, R105 to R107). -/

namespace Sys2Proof.Machine

-- One theorem at a time: the memory limit of the check counts the stack of every thread.
set_option Elab.async false

variable {s t u v : State} {q : Seat} {p : Payer}

/-! ### An approval as far as its credit (R105, R106) -/

theorem endCharge_of_charging {i : Fin 8} (payer : s.payers.get i = some p) (charging : p.charging = some q)
    (n : Nat) (full : Bool) :
    endCharge i n full s = setPayer i
      (if full then keepUnlessSpent { p with spent := p.spent + n, charging := none } else none) s := by
  unfold endCharge
  rw [payer]
  dsimp only
  rw [charging]
  rfl

/-- What an approval tells its reader: an ADJUST where the amount or the tip was reduced (R105). -/
def approvalTold (c : Charge) (e : Tag) (amount tip : Nat) (s : State) : State :=
  if approvedAmount c amount < amount ∨ approvedTip c amount tip < tip then
    send e.reader (.adjust e.tag (approvedAmount c amount) (approvedTip c amount tip)) s
  else s

/-- The payer as an approval leaves it (R92, R93). -/
def payerAfter (c : Charge) (amount tip : Nat) (p : Payer) : Option Payer :=
  if approvedAmount c amount = c.requested then
    keepUnlessSpent { p with
      spent := p.spent + (approvedAmount c amount + approvedTip c amount tip), charging := none }
  else none

/-- The charge taken back and the payer told, before the seat is credited (R106). -/
def approvalFreed (q : Seat) (c : Charge) (e : Tag) (amount tip : Nat) (p : Payer) (s : State) : State :=
  setPayer c.index (payerAfter c amount tip p) (setCharge q none none (approvalTold c e amount tip s))

/-- The payment entry of an approval (R106). -/
def approvalPayment (c : Charge) (amount tip ref : Nat) : Payment :=
  { method := .card, amount := approvedAmount c amount, tip := approvedTip c amount tip, ref := some ref }

/-- The seat credited, or returned to DUE by an amount of 0 (R106). -/
def approvalCredited (q : Seat) (c : Charge) (amount tip ref : Nat) (s : State) : State :=
  if 0 < approvedAmount c amount then creditCard q (approvalPayment c amount tip ref) s else leavePaying q s

theorem approvalTold_only (c : Charge) (e : Tag) (amount tip : Nat) (s : State) :
    QueueOnly s (approvalTold c e amount tip s) := by
  unfold approvalTold
  split
  · exact send_only _ _ s
  · exact .refl s

/-- A charge in flight against a card: its payer is CHARGING for the seat (R90, R102). -/
structure InFlight (s : State) (q : Seat) (c : Charge) (p : Payer) (reader ref : Nat) : Prop where
  payer : s.payers.get c.index = some p
  charging : p.charging = some q
  card : p.kind = .card reader ref

theorem approve_eq {c : Charge} {e : Tag} {amount tip reader ref : Nat} (h : InFlight s q c p reader ref) :
    approve q c e amount tip s = compareDisplays (chargePass
      (approvalCredited q c amount tip ref (approvalFreed q c e amount tip p s))) := by
  obtain ⟨payer, charging, card⟩ := h
  have told := (approvalTold_only c e amount tip s).payers
  have told_ : (if approvedAmount c amount < amount ∨ approvedTip c amount tip < tip then
      send e.reader (.adjust e.tag (approvedAmount c amount) (approvedTip c amount tip)) s else s) =
      approvalTold c e amount tip s := rfl
  have cardRef : payerRef (approvalTold c e amount tip s) c.index = some ref := by
    unfold payerRef
    rw [told, payer]
    dsimp only
    rw [card]
  have found : (setCharge q none none (approvalTold c e amount tip s)).payers.get c.index = some p := by
    change (approvalTold c e amount tip s).payers.get c.index = _
    rw [told, payer]
  have freed := endCharge_of_charging found charging (approvedAmount c amount + approvedTip c amount tip)
    (decide (approvedAmount c amount = c.requested))
  simp only [decide_eq_true_eq] at freed
  unfold approve
  dsimp only
  rw [told_, freed, cardRef]
  rfl

/-- What a credit finds: the charge is taken back, its payer ended, and nothing else changed. -/
structure Freed (s w : State) (q : Seat) (i : Fin 8) (m : Option Payer) : Prop where
  seats : w.seats = s.seats
  accounts : w.accounts = s.accounts
  tariff : w.tariff = s.tariff
  roster : w.line.roster = s.line.roster
  charges : w.charges = s.charges.set q none
  tags : w.tags = { s.tags with slots := s.tags.slots.set q none }
  payers : w.payers = s.payers.set i m

theorem approvalFreed_freed (q : Seat) (c : Charge) (e : Tag) (amount tip : Nat) (p : Payer) (s : State) :
    Freed s (approvalFreed q c e amount tip p s) q c.index (payerAfter c amount tip p) := by
  have told := approvalTold_only c e amount tip s
  refine ⟨told.seats, told.accounts, told.tariff, told.roster, ?_, ?_, ?_⟩
  · change PerSeat.set (approvalTold c e amount tip s).charges q none = _
    rw [told.charges]
  · change { (approvalTold c e amount tip s).tags with
      slots := (approvalTold c e amount tip s).tags.slots.set q none } = _
    rw [told.tags]
  · change PerIndex.set (approvalTold c e amount tip s).payers _ _ = _
    rw [told.payers]

theorem approvalFreed_tells (q : Seat) (c : Charge) (e : Tag) (amount tip : Nat) (p : Payer) (s : State) :
    Tells Behaved 0 (approvalTold c e amount tip s) (approvalFreed q c e amount tip p s) :=
  have ended : Tells Behaved 0 (setCharge q none none (approvalTold c e amount tip s))
      (approvalFreed q c e amount tip p s) := .of_eq rfl rfl rfl
  (setCharge_tells none none).trans ended

theorem Freed.seat {w : State} {i : Fin 8} {m : Option Payer} (h : Freed s w q i m) : w.seat q = s.seat q :=
  congrArg (PerSeat.get · q) h.seats

/-- The seat's record written and announced where a charge has been taken back. -/
structure Returned (s v : State) (q : Seat) (i : Fin 8) (m : Option Payer) (r : SeatRecord) : Prop where
  seats : v.seats = s.seats.set q r
  accounts : v.accounts = s.accounts
  tariff : v.tariff = s.tariff
  roster : v.line.roster = s.line.roster
  charges : v.charges = s.charges.set q none
  tags : v.tags = { s.tags with slots := s.tags.slots.set q none }
  payers : v.payers = s.payers.set i m

theorem Freed.returned {w : State} {i : Fin 8} {m : Option Payer} (h : Freed s w q i m) (r : SeatRecord) :
    Returned s (changeSeat q r w) q i m r where
  seats := by rw [changeSeat_seats, h.seats]
  accounts := by rw [changeSeat_accounts, h.accounts]
  tariff := (changeSeat_fare q r w).tariff.trans h.tariff
  roster := (changeSeat_fare q r w).roster.trans h.roster
  charges := by rw [changeSeat_charges, h.charges]
  tags := (changeSeat_frame q r w .tags (by decide)).trans h.tags
  payers := by rw [changeSeat_payers, h.payers]

/-! ### The credit (R51) -/

/-- A PAYING record credited and returned to DUE (R51). -/
def creditedSeat (pay : Payment) (r : SeatRecord) : SeatRecord := { addPayment pay r with state := .due }

theorem creditCard_of_paying (pay : Payment) (paying : (s.seat q).state = .paying) :
    creditCard q pay s =
      let w := changeSeat q (creditedSeat pay (s.seat q)) s
      if (creditedSeat pay (s.seat q)).due = 0 then closeSeat q .settled w else w := by
  have seat := changeSeat_seat q (creditedSeat pay (s.seat q)) s
  have closes := closeIfPaid_of_due (s := changeSeat q (creditedSeat pay (s.seat q)) s) (q := q)
    (by rw [seat]; rfl)
  rw [seat] at closes
  unfold creditCard
  dsimp only
  rw [if_pos paying]
  exact closes

theorem leavePaying_of_paying (paying : (s.seat q).state = .paying) :
    leavePaying q s = changeSeat q { s.seat q with state := .due } s := by
  unfold leavePaying
  dsimp only
  rw [if_pos paying]

theorem approvalCredited_tells (c : Charge) (amount tip ref : Nat) :
    Tells Behaved 0 s (approvalCredited q c amount tip ref s) :=
  .ite (creditCard_tells _) leavePaying_tells

theorem approvalTold_asked {c : Charge} {e : Tag} {amount tip : Nat}
    (reduced : approvedAmount c amount < amount ∨ approvedTip c amount tip < tip)
    (room : s.line.queue.length < 16) :
    { dest := e.reader, answer := false,
      body := .adjust e.tag (approvedAmount c amount) (approvedTip c amount tip) } ∈
      (approvalTold c e amount tip s).line.queue := by
  rw [approvalTold, if_pos reduced]
  exact mem_enqueue_self room

/-- An approval's end, where the pass that follows finds nothing to charge. -/
theorem pass_ends (h : ∀ x, examine v x = none) : QueueOnly v (compareDisplays (chargePass v)) := by
  rw [chargePass_of_none h]
  exact compareDisplays_only v

/-- A seat closed with its due paid: the pass that follows finds no seat DUE. -/
theorem Returned.closes {i : Fin 8} {m : Option Payer} {r : SeatRecord} (h : Returned s v q i m r)
    (alone : ∀ x, x ≠ q → (s.seat x).state ≠ .due) :
    let t := compareDisplays (chargePass (closeSeat q .settled v))
    t.seats = s.seats.set q vacantSeat ∧ t.charges = s.charges.set q none ∧
      t.tags = { s.tags with slots := s.tags.slots.set q none } ∧
      t.accounts.totalizers.fare = min max32 (s.accounts.totalizers.fare + r.fare) := by
  have closed : (closeSeat q .settled v).seats = s.seats.set q vacantSeat := by
    rw [closeSeat_seats, h.seats, PerSeat.set_set]
  have frame := closeSeat_frame q .settled v
  have record : v.seat q = r := by rw [State.seat, h.seats, PerSeat.get_set_self]
  have ends := pass_ends (v := closeSeat q .settled v) fun x => examine_of_not_due (by
    by_cases same : x = q
    · rw [same, State.seat, closed, PerSeat.get_set_self]
      decide
    · rw [seat_of_set closed same]
      exact alone x same)
  refine ⟨ends.seats.trans closed, ?_, ?_, ?_⟩
  · rw [ends.charges, ← h.charges]
    exact frame .charges (by decide)
  · rw [ends.tags, ← h.tags]
    exact frame .tags (by decide)
  · rw [ends.accounts, closeSeat_totalizers, record, h.accounts]
    rfl

/-- A seat left DUE whose only payer has been removed stays so. -/
theorem Returned.waits {i : Fin 8} {r : SeatRecord} (h : Returned s v q i none r)
    (only : ∀ j, j ≠ i → s.payers.get j = none) :
    let t := compareDisplays (chargePass v)
    t.seats = s.seats.set q r ∧ t.payers = s.payers.set i none ∧ t.charges = s.charges.set q none ∧
      t.tags = { s.tags with slots := s.tags.slots.set q none } := by
  have ends := pass_ends (v := v) fun x => examine_of_no_payer fun j => by
    rw [h.payers, PerIndex.get_set]
    split
    · rfl
    · next other => exact only j other
  exact ⟨ends.seats.trans h.seats, ends.payers.trans h.payers, ends.charges.trans h.charges,
    ends.tags.trans h.tags⟩

/-- The seat's record at a credit, and what the credit leaves of it. -/
theorem approvalCredited_eq {w : State} {c : Charge} {amount tip ref : Nat} (seat : w.seat q = s.seat q)
    (paying : (s.seat q).state = .paying) (some_ : 0 < approvedAmount c amount) :
    approvalCredited q c amount tip ref w =
      let r := creditedSeat (approvalPayment c amount tip ref) (s.seat q)
      if r.due = 0 then closeSeat q .settled (changeSeat q r w) else changeSeat q r w := by
  rw [approvalCredited, if_pos some_, creditCard_of_paying _ (by rw [seat]; exact paying), seat]

theorem approvalCredited_zero {w : State} {c : Charge} {amount tip ref : Nat} (seat : w.seat q = s.seat q)
    (paying : (s.seat q).state = .paying) (none_ : approvedAmount c amount = 0) :
    approvalCredited q c amount tip ref w = changeSeat q { s.seat q with state := .due } w := by
  rw [approvalCredited, if_neg none_.not_gt, leavePaying_of_paying (by rw [seat]; exact paying), seat]

theorem payerAfter_partial {c : Charge} {amount tip : Nat} (h : approvedAmount c amount ≠ c.requested) :
    payerAfter c amount tip p = none := by
  rw [payerAfter, if_neg h]

theorem approval_is_clamped : Claims.ApprovalIsClamped := by
  intro s q c e p reader ref amount tip alone paying payer charging card only
  have eq := approve_eq (e := e) (amount := amount) (tip := tip) ⟨payer, charging, card⟩
  have freed := approvalFreed_freed q c e amount tip p s
  have credited := fun some_ => approvalCredited_eq (c := c) (amount := amount) (tip := tip) (ref := ref)
    freed.seat paying some_
  dsimp only
  rw [eq]
  refine ⟨fun some_ paid => ?_, fun some_ partial_ owes => ?_, fun none_ asked => ?_, fun reduced room => ?_⟩
  · rw [credited some_]
    dsimp only
    rw [if_pos (by exact paid)]
    exact (freed.returned _).closes alone
  · rw [credited some_]
    dsimp only
    rw [if_neg (by exact owes.ne')]
    rw [payerAfter_partial partial_.ne] at freed
    exact (freed.returned _).waits only
  · rw [approvalCredited_zero freed.seat paying none_]
    rw [payerAfter_partial (by rw [show approvedAmount c amount = 0 from none_]; exact asked.ne)] at freed
    exact (freed.returned _).waits only
  · have after := (((approvalFreed_tells q c e amount tip p s).trans
      (approvalCredited_tells (q := q) c amount tip ref)).trans chargePass_tells).trans compareDisplays_tells
    exact after.mem_of_top (approvalTold_asked reduced room) rfl

/-! ### The next charge in the same event (R93, R98) -/

theorem queued_length_le (f : TxFrame) (l : List TxFrame) : (queued l f).length ≤ l.length + 1 := by
  unfold queued
  split
  · rw [replaceKey, List.length_map]
    exact Nat.le_succ _
  · split
    · rw [insertByClass_length]
    · split
      · split
        · rw [insertByClass_length, List.length_dropLast]
          omega
        · exact Nat.le_succ _
      · exact Nat.le_succ _

theorem send_length_le (dest : Nat) (body : TxBody) (s : State) :
    (send dest body s).line.queue.length ≤ s.line.queue.length + 1 := by
  rw [send, enqueue_queue]
  exact queued_length_le _ _

/-- A seat's change that neither occupies nor frees it tells the switch nothing. -/
theorem occupancyNotice_of_kept {was : Bool} (h : (s.seat q).vacant = was) : occupancyNotice q was s = s := by
  rw [occupancyNotice, if_pos h]

theorem changeSeat_of_kept {r : SeatRecord} (h : r.vacant = (s.seat q).vacant) :
    changeSeat q r s = queueStatus (computeSign (s.setSeat q r)) := by
  have kept : ((computeSign (s.setSeat q r)).seat q).vacant = (s.seat q).vacant := by
    rw [← h]
    exact congrArg SeatRecord.vacant (State.setSeat_seat_self s q r)
  rw [changeSeat, announce, occupancyNotice_of_kept kept]

theorem changeSeat_length_le {r : SeatRecord} (h : r.vacant = (s.seat q).vacant) :
    (changeSeat q r s).line.queue.length ≤ s.line.queue.length + 1 := by
  rw [changeSeat_of_kept h]
  exact send_length_le _ _ (computeSign (s.setSeat q r))

theorem approvalFreed_length_le (q : Seat) (c : Charge) (e : Tag) (amount tip : Nat) (p : Payer) (s : State) :
    (approvalFreed q c e amount tip p s).line.queue.length ≤ s.line.queue.length + 1 := by
  change (approvalTold c e amount tip s).line.queue.length ≤ _
  unfold approvalTold
  split
  · exact send_length_le _ _ s
  · exact Nat.le_succ _

theorem PerIndex.set_set {α : Type} (v : PerIndex α) (i : Fin 8) (a b : α) :
    (v.set i a).set i b = v.set i b := by
  fin_cases i <;> rfl

/-- A seat credited with a due left is charged again by the pass, if its payer can still be (R93, R98). -/
theorem Returned.recharges {i : Fin 8} {r : SeatRecord} {reader ref : Nat}
    (h : Returned s v q i (some p) r) (alone : ∀ x, x ≠ q → (s.seat x).state ≠ .due)
    (only : ∀ j, j ≠ i → s.payers.get j = none) (due : r.state = .due) (owing : 0 < r.due)
    (room : r.payments.length < 6) (scope : p.scope = .seat q ∨ p.scope = .party)
    (card : p.kind = .card reader ref) (idle : p.charging = none) (unspent : p.spent < p.limit)
    (present : readerPresent s.line.roster reader = true)
    (free : ∀ x f, x ≠ q → s.tags.slots.get x = some f → f.reader ≠ reader) :
    Started v (chargePass v) q i p reader := by
  have seat : v.seat q = r := by rw [State.seat, h.seats, PerSeat.get_set_self]
  have payer : v.payers.get i = some p := by rw [h.payers, PerIndex.get_set_self]
  have others : ∀ j, j ≠ i → v.payers.get j = none := fun j ne => by
    rw [h.payers, PerIndex.get_set, if_neg ne, only j ne]
  have idleReader : ∀ x f, v.tags.slots.get x = some f → f.reader ≠ reader := fun x f slot => by
    rw [h.tags, PerSeat.get_set] at slot
    split at slot
    · cases slot
    · next other => exact free x f other slot
  refine chargePass_card_alone (fun x ne => by rw [seat_of_set h.seats ne]; exact alone x ne)
    ⟨seat ▸ due, seat ▸ owing, seat ▸ room, resolve_only others payer scope, payer, idle, unspent⟩ card
    (readerReady_card card (by rw [h.roster]; exact present) idleReader)

theorem creditedSeat_paying {pay : Payment} {r : SeatRecord} (h : r.state = .paying) :
    { creditedSeat pay r with state := .paying } = addPayment pay r := by
  cases r
  dsimp only at h
  subst h
  rfl

theorem full_approval_charges_rest : Claims.FullApprovalChargesRest := by
  intro s q c e p ref amount tip alone paying payer charging card scope only asked full places present free
    room tipped spent paid unspent owes
  have amount_ : approvedAmount c amount = c.requested := min_eq_right full
  have tip_ : approvedTip c amount tip = tipped := by rw [approvedTip, if_neg (by omega)]
  have rest : payerAfter c amount tip p = some { p with spent := spent, charging := none } := by
    rw [payerAfter, if_pos amount_, amount_, tip_, keepUnlessSpent, if_neg]
    exact Nat.sub_ne_zero_of_lt unspent
  have pay : addPayment (approvalPayment c amount tip ref) (s.seat q) = paid := by
    rw [approvalPayment, amount_, tip_]
    rfl
  have due : (creditedSeat (approvalPayment c amount tip ref) (s.seat q)).due = paid.due := by
    rw [← pay]
    rfl
  have freed := approvalFreed_freed q c e amount tip p s
  have credited := approvalCredited_eq (c := c) (amount := amount) (tip := tip) (ref := ref)
    freed.seat paying (by omega)
  dsimp only at credited
  rw [due, if_neg owes.ne'] at credited
  have returned := freed.returned (creditedSeat (approvalPayment c amount tip ref) (s.seat q))
  rw [rest] at returned
  have short : (changeSeat q (creditedSeat (approvalPayment c amount tip ref) (s.seat q))
      (approvalFreed q c e amount tip p s)).line.queue.length < 16 := by
    have told := approvalFreed_length_le q c e amount tip p s
    have back := changeSeat_length_le (s := approvalFreed q c e amount tip p s) (q := q)
      (r := creditedSeat (approvalPayment c amount tip ref) (s.seat q))
      (by rw [freed.seat, SeatRecord.vacant, SeatRecord.vacant, paying]; rfl)
    omega
  have started := returned.recharges alone only rfl (by rw [due]; exact owes)
    (by change (_ ++ [_]).length < 6; rw [List.length_append]; exact Nat.succ_lt_succ places)
    scope card rfl unspent present free
  generalize changeSeat q _ (approvalFreed q c e amount tip p s) = v at credited returned short started
  have seat : v.seat q = creditedSeat (approvalPayment c amount tip ref) (s.seat q) := by
    rw [State.seat, returned.seats, PerSeat.get_set_self]
  have given : chargeGiven q c.index { p with spent := spent, charging := none } v =
      { index := c.index, requested := min paid.due (p.limit - spent),
        ceiling := min (min (min paid.due (p.limit - spent) * s.tariff.tipPercent / 100)
          (p.limit - spent - min paid.due (p.limit - spent))) 99999,
        timer := s.tariff.chargeTimeout } := by
    rw [chargeGiven, seat, returned.tariff, due]
    rfl
  have shown := compareDisplays_only (chargePass v)
  dsimp only
  rw [approve_eq ⟨payer, charging, card⟩, credited]
  refine ⟨?_, ?_, ?_, ?_, ?_⟩
  · rw [shown.seats, started.seats, seat, returned.seats, PerSeat.set_set, creditedSeat_paying paying, pay]
  · rw [shown.payers, started.payers, returned.payers, PerIndex.set_set]
  · rw [shown.charges, started.charges, given, returned.charges, PerSeat.set_set]
  · rw [shown.tags, started.tags, returned.tags, PerSeat.set_set]
  · have asked_ := started.asked short
    rw [given, returned.tags] at asked_
    exact compareDisplays_tells.mem_of_top asked_ rfl

/-- Settles O44: the seat as the credit leaves it, and the pass that follows. -/
theorem approvalIsClampedAndCredited : Obligations.ApprovalIsClampedAndCredited :=
  ⟨approval_is_clamped, full_approval_charges_rest⟩

end Sys2Proof.Machine

/-! PROOFS. The close of a seat: its payers, the trip taken, the shift's end, and the switch (R52, R91, R120, R133, R169, R175, R178). -/

namespace Sys2Proof.Machine

-- One theorem at a time: the memory limit of the check counts the stack of every thread.
set_option Elab.async false

variable {s t u v : State} {q : Seat}

/-! ### The payers at a close (R91) -/

/-- No two payers share a scope (R79). -/
def OneEach (m : PayerMap) : Prop :=
  ∀ i j : Fin 8, ∀ p r : Payer, m.get i = some p → m.get j = some r → p.scope = r.scope → i = j

theorem OneEach.set_none {m : PayerMap} (h : OneEach m) (i : Fin 8) : OneEach (m.set i none) := by
  have old : ∀ j p, (m.set i none).get j = some p → m.get j = some p := fun j p e => by
    rw [PerIndex.get_set] at e
    split at e
    · cases e
    · exact e
  exact fun j k p r ej ek => h j k p r (old j p ej) (old k r ek)

/-- A search by scope depends on what each index says of the scope. -/
theorem findScope_congr {m n : PayerMap} {sc : Scope}
    (h : ∀ i, (n.get i).any (fun p => p.scope = sc) = (m.get i).any (fun p => p.scope = sc)) :
    findScope n sc = findScope m sc := by
  unfold findScope
  rw [funext h]

theorem removeScope_found {sc : Scope} {i : Fin 8} (h : findScope s.payers sc = some i) :
    (removeScope sc s).payers = s.payers.set i none := by
  rw [removeScope, h]
  rfl

theorem removeScope_absent {sc : Scope} (h : findScope s.payers sc = none) :
    (removeScope sc s).payers = s.payers := by
  rw [removeScope, h]

theorem removeScope_oneEach (sc : Scope) (h : OneEach s.payers) : OneEach (removeScope sc s).payers := by
  cases found : findScope s.payers sc with
  | none => rw [removeScope_absent found]; exact h
  | some i => rw [removeScope_found found]; exact h.set_none i

/-- The removed scope's payer was its only one. -/
theorem findScope_removeScope_self (sc : Scope) (h : OneEach s.payers) :
    findScope (removeScope sc s).payers sc = none := by
  cases found : findScope s.payers sc with
  | none => rw [removeScope_absent found, found]
  | some i =>
    obtain ⟨p, payer, scope⟩ := findScope_some found
    rw [removeScope_found found, findScope_eq_none]
    intro j r e same
    rw [PerIndex.get_set] at e
    split at e
    · cases e
    · next other => exact other (h j i r p e payer (same.trans scope.symm))

theorem findScope_removeScope_of_ne {sc other : Scope} (ne : other ≠ sc) :
    findScope (removeScope sc s).payers other = findScope s.payers other := by
  cases found : findScope s.payers sc with
  | none => rw [removeScope_absent found]
  | some i =>
    obtain ⟨p, payer, scope⟩ := findScope_some found
    rw [removeScope_found found]
    refine findScope_congr fun j => ?_
    rw [PerIndex.get_set]
    split
    · next same =>
      rw [same, payer]
      simpa [scope] using ne.symm
    · rfl

/-- What a close leaves of the payer map: the seat's payer goes, and with the last passenger the party's. -/
structure PayersLeft (m n : PayerMap) (q : Seat) (others : Bool) : Prop where
  gone : findScope n (.seat q) = none
  party : others = false → findScope n .party = none
  kept : others = true → findScope n .party = findScope m .party
  seats : ∀ p, p ≠ q → findScope n (.seat p) = findScope m (.seat p)

theorem payersAtClose_left (q : Seat) (others : Bool) (h : OneEach s.payers) :
    PayersLeft s.payers (payersAtClose q others s).payers q others := by
  have gone := findScope_removeScope_self (s := s) (.seat q) h
  have other : ∀ p, p ≠ q → (Scope.seat p) ≠ .seat q := fun p ne e => ne (Scope.seat.inj e)
  cases others with
  | true =>
    exact ⟨gone, nofun, fun _ => findScope_removeScope_of_ne (by nofun),
      fun p ne => findScope_removeScope_of_ne (other p ne)⟩
  | false =>
    refine ⟨(findScope_removeScope_of_ne (by nofun)).trans gone,
      fun _ => findScope_removeScope_self .party (removeScope_oneEach _ h), nofun, fun p ne => ?_⟩
    exact (findScope_removeScope_of_ne (by nofun)).trans (findScope_removeScope_of_ne (other p ne))

/-! ### The shift at a close (R169, R175, R178) -/

/-- The accounts with a closed trip taken, before the shift's change. -/
def tripTaken (q : Seat) (e : TripEnd) (s : State) : Accounts :=
  recordTrip (composeTrip q e (s.seat q)) s.accounts s.tariff.identity

theorem closeSeat_accounts_taken (q : Seat) (e : TripEnd) (s : State) :
    (closeSeat q e s).accounts =
      (afterTrip (othersOccupied s.seats q) (s.setAccounts (tripTaken q e s))).accounts :=
  closeSeat_accounts q e s

/-- A close leaves the counter, the log and the totals of the trip taken. -/
theorem closeSeat_taken (q : Seat) (e : TripEnd) (s : State) :
    (closeSeat q e s).accounts.tripCounter = (tripTaken q e s).tripCounter ∧
      (closeSeat q e s).accounts.log = (tripTaken q e s).log ∧
      (closeSeat q e s).accounts.shift.totals = (tripTaken q e s).shift.totals := by
  rw [closeSeat_accounts_taken]
  obtain ⟨st, cc, same⟩ := afterTrip_accounts (othersOccupied s.seats q) (s.setAccounts (tripTaken q e s))
  rw [same]
  exact ⟨rfl, rfl, rfl⟩

theorem afterTrip_of_closed (others : Bool) (h : s.accounts.shift.state = .closed) :
    afterTrip others s = s := by
  unfold afterTrip
  dsimp only
  rw [h]

theorem afterTrip_of_closing (others : Bool) (h : s.accounts.shift.state = .closing) :
    afterTrip others s = if others then s else closeShift s := by
  unfold afterTrip
  dsimp only
  rw [h]

theorem afterTrip_of_opened (others : Bool) (h : s.accounts.shift.state = .opened) :
    afterTrip others s =
      if s.accounts.shift.totals.settled + s.accounts.shift.totals.cancelled = 16777212 then
        if others then startClosing s else closeShift (startClosing s)
      else s := by
  unfold afterTrip
  dsimp only
  rw [h]
  rfl

theorem othersOccupied_false {v : PerSeat SeatRecord} (h : ¬∃ p, p ≠ q ∧ (v.get p).state ≠ .vacant) :
    othersOccupied v q = false := by
  rw [← Bool.not_eq_true, othersOccupied_iff]
  exact h

theorem closeShift_shift (s : State) :
    (closeShift s).accounts.shift.state = .closed ∧
      (closeShift s).accounts.shift.closeClock = some s.clock.time := by
  rw [closeShift_accounts]
  exact ⟨rfl, rfl⟩

theorem close_logs_trip : Claims.CloseLogsTrip := by
  intro s q e unique
  obtain ⟨counter, log, totals⟩ := closeSeat_taken q e s
  have left := payersAtClose_left q (othersOccupied s.seats q) (s := s) unique
  rw [← closeSeat_payers q e] at left
  refine ⟨closeSeat_seats q e s, counter, log, totals, left.gone,
    fun lone => left.party (othersOccupied_false lone),
    fun others => left.kept ((othersOccupied_iff _ _).2 others), left.seats,
    fun closing others => ?_, fun closing lone => ?_⟩
  · rw [closeSeat_accounts_taken, afterTrip_of_closing _ (by exact closing),
      if_pos ((othersOccupied_iff _ _).2 others)]
    exact closing
  · rw [closeSeat_accounts_taken, afterTrip_of_closing _ (by exact closing), othersOccupied_false lone]
    exact closeShift_shift _

theorem startClosing_clock (s : State) : (startClosing s).clock = s.clock := (changeShift_fare _ s).clock

theorem trip_limit_ends_shift : Claims.TripLimitEndsShift := by
  intro s q e
  dsimp only
  rw [closeSeat_accounts_taken]
  refine ⟨fun closed => ?_, fun opened => ?_⟩
  · rw [afterTrip_of_closed _ (by exact closed)]
    exact closed
  · have totals : (tripTaken q e s).shift.totals =
        addTrip { composeTrip q e (s.seat q) with
          number := nextTripNumber s.accounts.tripCounter, shift := s.accounts.shift.number,
          identity := s.tariff.identity } s.accounts.shift.totals :=
      if_neg (by rw [opened]; decide)
    have trips : (s.setAccounts (tripTaken q e s)).accounts.shift.totals.settled +
        (s.setAccounts (tripTaken q e s)).accounts.shift.totals.cancelled =
        (if e = .settled then min max24 (s.accounts.shift.totals.settled + 1)
          else s.accounts.shift.totals.settled) +
        (if e = .cancelled then min max24 (s.accounts.shift.totals.cancelled + 1)
          else s.accounts.shift.totals.cancelled) := by
      rw [State.setAccounts_accounts, totals]
      rfl
    rw [afterTrip_of_opened _ (by exact opened), trips]
    refine ⟨fun below => ?_, fun limit others => ?_, fun limit lone => ?_⟩
    · rw [if_neg below]
      exact ⟨opened, rfl⟩
    · rw [if_pos limit, if_pos ((othersOccupied_iff _ _).2 others), startClosing_accounts]
    · rw [if_pos limit, othersOccupied_false lone]
      obtain ⟨state, clock⟩ := closeShift_shift (startClosing (s.setAccounts (tripTaken q e s)))
      exact ⟨state, clock.trans (congrArg (some ·.time) (startClosing_clock _))⟩

/-! ### The switch at a seat's change (R120, R133) -/

/-- A seat's change reaches the switch through its occupancy, with the seats as the change leaves them. -/
theorem changeSeat_intercom (q : Seat) (r : SeatRecord) (s : State) :
    (changeSeat q r s).intercom =
      (occupancyNotice q (s.seat q).vacant (computeSign (s.setSeat q r))).intercom :=
  (queueStatus_only _).intercom

theorem written_vacant (q : Seat) (r : SeatRecord) (s : State) :
    ((computeSign (s.setSeat q r)).seat q).vacant = r.vacant :=
  congrArg SeatRecord.vacant (State.setSeat_seat_self s q r)

theorem vacant_eq_true {r : SeatRecord} (h : r.state = .vacant) : r.vacant = true := decide_eq_true h

theorem vacant_eq_false {r : SeatRecord} (h : r.state ≠ .vacant) : r.vacant = false := decide_eq_false h

theorem changeSeat_intercom_of_kept {r : SeatRecord} (was : (s.seat q).state ≠ .vacant)
    (now : r.state ≠ .vacant) : (changeSeat q r s).intercom = s.intercom := by
  rw [changeSeat_intercom, occupancyNotice_of_kept]
  · rfl
  · rw [written_vacant, vacant_eq_false was, vacant_eq_false now]

theorem changeSeat_intercom_of_hired {r : SeatRecord} (was : (s.seat q).state = .vacant)
    (now : r.state ≠ .vacant) :
    (changeSeat q r s).intercom =
      { s.intercom with gates := gatesOf s.intercom.state s.intercom.target (s.seats.set q r) } := by
  rw [changeSeat_intercom, occupancyNotice, written_vacant, vacant_eq_true was, vacant_eq_false now,
    if_neg (by decide), if_neg (by decide), changeIntercom_intercom]
  rfl

theorem changeSeat_intercom_of_emptied {r : SeatRecord} (was : (s.seat q).state ≠ .vacant)
    (now : r.state = .vacant) :
    (changeSeat q r s).intercom =
      let i := seatEmptied s.tariff.guardTime q s.intercom
      { i with gates := gatesOf i.state i.target (s.seats.set q r) } := by
  rw [changeSeat_intercom, occupancyNotice, written_vacant, vacant_eq_false was, vacant_eq_true now,
    if_neg (by decide), if_pos rfl, changeIntercom_intercom]
  rfl

/-- A seat's end of talk and its leaving the calls, field by field (R127, R133). -/
theorem seatEmptied_eq (guardTime : Nat) (q : Seat) (i : Intercom) :
    seatEmptied guardTime q i = { i with
      queue := i.queue.filter (fun p => p ≠ q), mute := i.mute.set q false,
      state := if i.state = .seatTalk q then .guard else i.state,
      guardTimer := if i.state = .seatTalk q then some guardTime else i.guardTimer,
      talkTimer := if i.state = .seatTalk q then none else i.talkTimer } := by
  unfold seatEmptied leaveCalls endTalk
  split <;> rfl

/-- What a close does before it writes the record. -/
def closeTaken (q : Seat) (e : TripEnd) (s : State) : State :=
  payersAtClose q (othersOccupied s.seats q)
    (takeTrip (composeTrip q e (s.seat q)) (othersOccupied s.seats q) s)

theorem closeSeat_eq (q : Seat) (e : TripEnd) (s : State) :
    closeSeat q e s = compareDisplay (changeSeat q vacantSeat (closeTaken q e s)) q := rfl

theorem closeTaken_seats (q : Seat) (e : TripEnd) (s : State) : (closeTaken q e s).seats = s.seats :=
  (payersAtClose_seats _ _ _).trans (afterTrip_seats _ _)

theorem closeTaken_intercom (q : Seat) (e : TripEnd) (s : State) :
    (closeTaken q e s).intercom = s.intercom :=
  (payersAtClose_frame _ _ _ .intercom (by decide)).trans (takeTrip_frame _ _ s .intercom (by decide))

theorem closeTaken_tariff (q : Seat) (e : TripEnd) (s : State) : (closeTaken q e s).tariff = s.tariff :=
  ((payersAtClose_fare _ _ _).tariff).trans (takeTrip_fare _ _ s).tariff

theorem occupancy_moves_switch : Claims.OccupancyMovesSwitch := by
  intro s q r e
  refine ⟨fun was => ?_, fun was now => ?_, fun was now => changeSeat_intercom_of_kept was now⟩
  · have seat : (closeTaken q e s).seat q = s.seat q := congrArg (PerSeat.get · q) (closeTaken_seats q e s)
    have emptied := changeSeat_intercom_of_emptied (s := closeTaken q e s) (q := q) (r := vacantSeat)
      (by rw [seat]; exact was) rfl
    rw [closeTaken_tariff, closeTaken_intercom, closeTaken_seats, seatEmptied_eq] at emptied
    rw [closeSeat_seats, closeSeat_eq, (compareDisplay_only _ _).intercom]
    exact emptied
  · rw [changeSeat_intercom_of_hired was now, changeSeat_seats]

end Sys2Proof.Machine

/-! PROOFS. The report of a shift that closes with its last seat: the REPORT pages, the STATUS and the sign state (R144, R169, R176). -/

namespace Sys2Proof.Machine

-- One theorem at a time: the memory limit of the check counts the stack of every thread.
set_option Elab.async false

variable {s t u v : State} {q : Seat}

/-! ### REPORT pages in the transmit queue (R176, R198 to R200) -/

/-- A REPORT frame. -/
def isReport (f : TxFrame) : Bool := f.body.kind = 35

/-- A page of the report of some accounts, to an address (R176). -/
def reportFrame (a : Accounts) (dest page : Nat) : TxFrame :=
  { dest := dest, answer := false, body := .report a.shift.number page (totalsPage a page) }

/-- The pages of a report to the roster's CONSOLE, or none without one (R176). -/
def reportFrames (roster : List Station) (a : Accounts) : List TxFrame :=
  (consoleAddr roster).elim [] fun dest => (List.range 13).map (reportFrame a dest)

theorem reportFrames_console {roster : List Station} {a : Accounts} {dest : Nat}
    (h : consoleAddr roster = some dest) :
    reportFrames roster a = (List.range 13).map (reportFrame a dest) := by
  rw [reportFrames, h, Option.elim_some]

theorem reportFrames_none {roster : List Station} {a : Accounts} (h : consoleAddr roster = none) :
    reportFrames roster a = [] := by
  rw [reportFrames, h, Option.elim_none]

theorem isReport_of_mem {roster : List Station} {a : Accounts} {f : TxFrame}
    (h : f ∈ reportFrames roster a) : isReport f = true := by
  cases console : consoleAddr roster with
  | none =>
    rw [reportFrames_none console] at h
    cases h
  | some dest =>
    rw [reportFrames_console console] at h
    obtain ⟨n, -, rfl⟩ := List.mem_map.1 h
    rfl

theorem reportFrames_length_le (roster : List Station) (a : Accounts) :
    (reportFrames roster a).length ≤ 13 := by
  cases console : consoleAddr roster with
  | none => rw [reportFrames_none console]; exact Nat.zero_le _
  | some dest => rw [reportFrames_console console, List.length_map, List.length_range]

theorem body_of_report {b : TxBody} (h : b.kind = 35) : b.key = none ∧ b.cls = 2 := by
  cases b with
  | report _ _ _ => exact ⟨rfl, rfl⟩
  | _ => cases h

theorem key_of_report {f : TxFrame} (h : isReport f = true) : f.body.key = none :=
  (body_of_report (of_decide_eq_true h)).1

theorem cls_of_report {f : TxFrame} (h : isReport f = true) : f.body.cls = 2 :=
  (body_of_report (of_decide_eq_true h)).2

/-- A page takes its place behind the earlier pages and before a STATUS. -/
theorem queued_report {rs : List TxFrame} {f st : TxFrame} (reports : ∀ g ∈ rs, isReport g = true)
    (report : isReport f = true) (status : st.body.cls = 3) (room : rs.length < 15) :
    queued (rs ++ [st]) f = rs ++ [f] ++ [st] := by
  have short : (rs ++ [st]).length < queuePlaces := by
    rw [List.length_append, queuePlaces]
    exact Nat.succ_lt_succ room
  have front : ∀ g ∈ rs, g.body.cls ≤ f.body.cls := fun g mem => by
    rw [cls_of_report (reports g mem), cls_of_report report]
  have back : ∀ g ∈ [st], f.body.cls < g.body.cls := fun g mem => by
    rw [List.mem_singleton.1 mem, status, cls_of_report report]
    decide
  unfold queued
  rw [key_of_report report, if_neg (by simp), if_pos short, insertByClass_append front,
    insertByClass_before back, List.append_assoc]
  rfl

theorem sendPage_queue (dest : Nat) (s : State) (page : Nat) :
    (sendPage dest s page).line.queue = queued s.line.queue (reportFrame s.accounts dest page) :=
  enqueue_queue _ s

theorem sendPage_accounts (dest : Nat) (s : State) (page : Nat) :
    (sendPage dest s page).accounts = s.accounts := (send_only _ _ s).accounts

theorem sendPages_queue (dest : Nat) (pages : List Nat) {rs : List TxFrame} {st : TxFrame}
    (queue : s.line.queue = rs ++ [st]) (reports : ∀ g ∈ rs, isReport g = true)
    (status : st.body.cls = 3) (room : rs.length + pages.length < 16) :
    (pages.foldl (sendPage dest) s).line.queue =
      rs ++ pages.map (reportFrame s.accounts dest) ++ [st] := by
  induction pages generalizing s rs with
  | nil => rw [List.foldl_nil, queue, List.map_nil, List.append_nil]
  | cons page pages ih =>
    rw [List.length_cons] at room
    have next := sendPage_queue dest s page
    rw [queue, queued_report reports rfl status (by omega)] at next
    have pages_ : ∀ g ∈ rs ++ [reportFrame s.accounts dest page], isReport g = true := fun g mem => by
      rcases List.mem_append.1 mem with old | new
      · exact reports g old
      · rw [List.mem_singleton.1 new]
        rfl
    rw [List.foldl_cons, ih next pages_ (by rw [List.length_append, List.length_singleton]; omega),
      sendPage_accounts, List.map_cons, List.append_assoc rs, List.singleton_append]

theorem queueReport_queue {st : TxFrame} (queue : s.line.queue = [st]) (status : st.body.cls = 3) :
    (queueReport s).line.queue = reportFrames s.line.roster s.accounts ++ [st] := by
  cases console : consoleAddr s.line.roster with
  | none =>
    have same : queueReport s = s := by
      unfold queueReport
      rw [console]
    rw [same, queue, reportFrames_none console, List.nil_append]
  | some dest =>
    have sent : queueReport s = (List.range 13).foldl (sendPage dest) s := by
      unfold queueReport
      rw [console]
      rfl
    rw [sent, reportFrames_console console]
    exact sendPages_queue dest (List.range 13) (rs := []) queue (fun _ h => absurd h List.not_mem_nil)
      status (by decide)

/-- The STATUS that a block sends. -/
def statusFrame (r : StatusReport) : TxFrame := { dest := broadcast, answer := false, body := .status r }

theorem queueStatus_queue (s : State) :
    (queueStatus s).line.queue = queued s.line.queue (statusFrame (statusReport s)) := enqueue_queue _ s

theorem changeShift_queue (sh : Shift) (empty : s.line.queue = []) :
    ∃ st, (changeShift sh s).line.queue = [statusFrame st] :=
  ⟨_, (queueStatus_queue _).trans (congrArg (queued · _) empty)⟩

/-- The close of a shift queues a STATUS and the report (R169, R176). -/
theorem closeShift_queue (empty : s.line.queue = []) :
    ∃ st, (closeShift s).line.queue =
      reportFrames s.line.roster (closeShift s).accounts ++ [statusFrame st] := by
  obtain ⟨st, queue⟩ := changeShift_queue { s.accounts.shift with
    state := .closed, closeClock := some s.clock.time } empty
  have accounts : (closeShift s).accounts = _ := (queueReport_only _).accounts
  refine ⟨st, ?_⟩
  rw [accounts, ← (changeShift_fare _ s).roster]
  exact queueReport_queue queue rfl

/-! ### Frames that follow a report -/

theorem isReport_false_of_key {f : TxFrame} (h : f.body.key.isSome = true) : isReport f = false := by
  rw [← Bool.not_eq_true]
  intro report
  rw [key_of_report report] at h
  cases h

theorem filter_insertByClass {f : TxFrame} {l : List TxFrame} (h : isReport f = false) :
    (insertByClass f l).filter isReport = l.filter isReport := by
  induction l with
  | nil => simp [insertByClass, h]
  | cons g gs ih =>
    unfold insertByClass
    split
    · rw [List.filter_cons, List.filter_cons, ih]
    · rw [List.filter_cons, if_neg (by rw [h]; decide)]

theorem filter_replaceKey {f : TxFrame} {l : List TxFrame} (key : f.body.key.isSome = true) :
    (replaceKey f l).filter isReport = l.filter isReport := by
  have replaced : ∀ g : TxFrame, isReport (if g.body.key = f.body.key then f else g) = isReport g :=
      fun g => by
    split
    · next same => rw [isReport_false_of_key key, isReport_false_of_key (by rw [same]; exact key)]
    · rfl
  have kept : ∀ g : TxFrame, isReport g = true → (if g.body.key = f.body.key then f else g) = g :=
      fun g report => by
    refine if_neg fun same => ?_
    rw [← same, key_of_report report] at key
    cases key
  rw [replaceKey, List.filter_map,
    show isReport ∘ (fun g => if g.body.key = f.body.key then f else g) = isReport from funext replaced]
  refine (List.map_congr_left fun g mem => ?_).trans (List.map_id _)
  exact kept g (List.of_mem_filter mem)

/-- A frame with a key leaves the REPORT pages of a queue with room. -/
theorem filter_queued {f : TxFrame} {l : List TxFrame} (key : f.body.key.isSome = true)
    (room : l.length < 16) : (queued l f).filter isReport = l.filter isReport := by
  have other := isReport_false_of_key key
  unfold queued
  split
  · exact filter_replaceKey key
  · rw [if_pos (by exact room), filter_insertByClass other]

theorem FewFrames.keyed {n : Nat} {l : List TxFrame} {f : TxFrame} (h : FewFrames n l) (room : n < 15)
    (key : f.body.key ≠ some .status) : FewFrames (n + 1) (queued l f) := by
  have short := h.length_le
  have longer := queued_length_le f l
  rcases h with h | ⟨h, g, hg, status⟩
  · exact .inl (longer.trans (Nat.succ_le_succ h))
  · refine .inr ⟨longer.trans (Nat.succ_le_succ h), g, ?_, status⟩
    unfold queued
    split
    · exact List.mem_map.2 ⟨g, hg, if_neg (by rw [status]; exact key.symm)⟩
    · rw [if_pos (by unfold queuePlaces; omega)]
      exact mem_insertByClass.2 (.inr hg)

/-- The queue holds so many frames but for a STATUS, and these REPORT pages in order. -/
structure Reported (n : Nat) (rs : List TxFrame) (l : List TxFrame) : Prop where
  few : FewFrames n l
  pages : l.filter isReport = rs

theorem Reported.keyed {n : Nat} {rs l : List TxFrame} {f : TxFrame} (h : Reported n rs l) (room : n < 15)
    (key : f.body.key.isSome = true) (other : f.body.key ≠ some .status) :
    Reported (n + 1) rs (queued l f) :=
  ⟨h.few.keyed room other, (filter_queued key (by have := h.few.length_le; omega)).trans h.pages⟩

theorem Reported.status {n : Nat} {rs l : List TxFrame} {f : TxFrame} (h : Reported n rs l) (room : n < 15)
    (key : f.body.key = some .status) : Reported n rs (queued l f) :=
  ⟨h.few.status room key, (filter_queued (by rw [key]; rfl) (by have := h.few.length_le; omega)).trans h.pages⟩

theorem reported_of_closeShift (empty : s.line.queue = []) :
    Reported 13 (reportFrames s.line.roster (closeShift s).accounts) (closeShift s).line.queue := by
  obtain ⟨st, queue⟩ := closeShift_queue empty
  have length := reportFrames_length_le s.line.roster (closeShift s).accounts
  rw [queue]
  refine ⟨.inr ⟨?_, statusFrame st, ?_, rfl⟩, ?_⟩
  · rw [List.length_append]
    exact Nat.succ_le_succ length
  · exact List.mem_append_right _ (List.mem_singleton_self _)
  · rw [List.filter_append, List.filter_eq_self.2 fun f mem => isReport_of_mem mem]
    exact List.append_nil _

/-- The switch's notice of a seat's occupancy is at most its state. -/
theorem occupancyNotice_queue (q : Seat) (was : Bool) (s : State) :
    (occupancyNotice q was s).line.queue = s.line.queue ∨
      ∃ r, (occupancyNotice q was s).line.queue =
        queued s.line.queue { dest := broadcast, answer := false, body := .intercomState r } := by
  have change : ∀ f, (changeIntercom f s).line.queue = s.line.queue ∨
      ∃ r, (changeIntercom f s).line.queue =
        queued s.line.queue { dest := broadcast, answer := false, body := .intercomState r } := fun f => by
    unfold changeIntercom
    dsimp only
    split
    · exact .inl rfl
    · exact .inr ⟨_, enqueue_queue _ _⟩
  unfold occupancyNotice
  split
  · exact .inl rfl
  · split
    · exact change _
    · exact change _

theorem Reported.occupancyNotice {n : Nat} {rs : List TxFrame} (h : Reported n rs s.line.queue)
    (room : n < 15) (q : Seat) (was : Bool) :
    Reported (n + 1) rs (occupancyNotice q was s).line.queue := by
  rcases occupancyNotice_queue q was s with same | ⟨r, sent⟩
  · rw [same]
    exact ⟨h.few.imp (fun few => few.trans (Nat.le_succ _))
      fun ⟨few, status⟩ => ⟨few.trans (Nat.le_succ _), status⟩, h.pages⟩
  · rw [sent]
    exact h.keyed room rfl nofun

/-- The comparison of a display queues at most that display. -/
theorem compareDisplay_queue (s : State) (q : Seat) :
    (compareDisplay s q).line.queue = s.line.queue ∨
      ∃ dest d, (compareDisplay s q).line.queue =
        queued s.line.queue { dest := dest, answer := false, body := .seatDisplay q d } := by
  unfold compareDisplay
  dsimp only
  split
  · exact .inl rfl
  · split
    · exact .inl rfl
    · exact .inr ⟨_, _, enqueue_queue _ _⟩

theorem mem_queued_of_room {f g : TxFrame} {l : List TxFrame} (mem : g ∈ l) (key : g.body.key ≠ f.body.key)
    (room : l.length < 16) : g ∈ queued l f := by
  unfold queued
  split
  · exact List.mem_map.2 ⟨g, mem, if_neg key⟩
  · rw [if_pos (by exact room)]
    exact mem_insertByClass.2 (.inr mem)

theorem QueueOnly.statusReport (h : QueueOnly s t) : statusReport t = statusReport s := by
  unfold Machine.statusReport
  rw [h.accounts, h.hold, h.seats, h.sign, h.band, h.motion, h.roster]

/-- The STATUS of a seat's change is queued as the change leaves the seat (R40, R201). -/
theorem changeSeat_reports {rs : List TxFrame} (h : Reported 13 rs s.line.queue) (q : Seat) (r : SeatRecord) :
    Reported 14 rs (changeSeat q r s).line.queue ∧
      statusFrame (statusReport (changeSeat q r s)) ∈ (changeSeat q r s).line.queue := by
  have noticed : Reported 14 rs
      (occupancyNotice q (s.seat q).vacant (computeSign (s.setSeat q r))).line.queue :=
    Reported.occupancyNotice (s := computeSign (s.setSeat q r)) h (by decide) q _
  refine ⟨?_, ?_⟩
  · change Reported 14 rs (queueStatus _).line.queue
    rw [queueStatus_queue]
    exact noticed.status (by decide) rfl
  · rw [show statusReport (changeSeat q r s) = _ from (queueStatus_only _).statusReport]
    exact mem_enqueue_self (Nat.lt_succ_of_le noticed.few.length_le)

theorem compareDisplay_reports {rs : List TxFrame} (h : Reported 14 rs s.line.queue)
    (status : statusFrame (statusReport s) ∈ s.line.queue) (q : Seat) :
    (compareDisplay s q).line.queue.filter isReport = rs ∧
      statusFrame (statusReport (compareDisplay s q)) ∈ (compareDisplay s q).line.queue := by
  have room : s.line.queue.length < 16 := Nat.lt_succ_of_le h.few.length_le
  rw [(compareDisplay_only s q).statusReport]
  rcases compareDisplay_queue s q with same | ⟨dest, d, sent⟩
  · rw [same]
    exact ⟨h.pages, status⟩
  · rw [sent]
    exact ⟨(filter_queued rfl room).trans h.pages, mem_queued_of_room status nofun room⟩

/-! ### The sign state (R144, R169) -/

theorem computeSign_buffer (s : State) (c : Channel) :
    ((computeSign s).sign.lamps.get c).buffer =
      (signPatterns s.hold.held s.accounts.shift.state s.sign.mode s.sign.pool s.seats).get c := by
  exact congrArg Lamp.buffer (PerChannel.get_mapIdx _ s.sign.lamps c)

theorem changeSeat_sign (q : Seat) (r : SeatRecord) (s : State) :
    (changeSeat q r s).sign = (computeSign (s.setSeat q r)).sign :=
  (queueStatus_only _).sign.trans (occupancyNotice_frame q _ _ .sign (by decide))

theorem closeShift_sign (s : State) :
    (closeShift s).sign.mode = s.sign.mode ∧ (closeShift s).sign.pool = s.sign.pool := by
  rw [closeShift, (queueReport_only _).sign, changeShift, (queueStatus_only _).sign]
  exact ⟨rfl, rfl⟩

/-- The last close of a CLOSING shift, before the seat's record is written: the shift has closed. -/
theorem closeTaken_last (q : Seat) (e : TripEnd) (closing : s.accounts.shift.state = .closing)
    (lone : ∀ p, p ≠ q → (s.seat p).state = .vacant) :
    closeTaken q e s = payersAtClose q false (closeShift (s.setAccounts (tripTaken q e s))) := by
  have none_ : othersOccupied s.seats q = false :=
    othersOccupied_false fun ⟨p, ne, occupied⟩ => occupied (lone p ne)
  have shift := afterTrip_of_closing (s := s.setAccounts (tripTaken q e s)) false closing
  unfold closeTaken
  rw [none_]
  exact congrArg (payersAtClose q false) shift

theorem last_close_reports_shift : Claims.LastCloseReportsShift := by
  intro s q e closing lone empty
  have last := closeTaken_last q e closing lone
  generalize taken : s.setAccounts (tripTaken q e s) = w at last
  have payers := payersAtClose_frame q false (closeShift w)
  have reported : Reported 13 (reportFrames w.line.roster (closeShift w).accounts)
      (closeTaken q e s).line.queue := by
    rw [last, show (payersAtClose q false (closeShift w)).line = _ from payers .line (by decide)]
    exact reported_of_closeShift (by rw [← taken]; exact empty)
  have accounts : (closeSeat q e s).accounts = (closeShift w).accounts := by
    rw [closeSeat_eq, (compareDisplay_only _ _).accounts, changeSeat_accounts, last,
      payersAtClose_accounts]
  have number : (closeShift w).accounts.shift.number = s.accounts.shift.number := by
    rw [closeShift_accounts, ← taken]
    rfl
  obtain ⟨reports, status⟩ := changeSeat_reports reported q vacantSeat
  obtain ⟨pages, status'⟩ := compareDisplay_reports reports status q
  have roster : w.line.roster = s.line.roster := by rw [← taken]; rfl
  rw [roster] at pages
  refine ⟨fun a console => pages.trans ?_, fun none_ => pages.trans (reportFrames_none none_), status',
    fun c => ?_⟩
  · rw [reportFrames_console console, accounts]
    refine List.map_congr_left fun n _ => ?_
    rw [reportFrame, number]
  · rw [closeSeat_eq, (compareDisplay_only _ _).sign, (compareDisplay_only _ _).seats, changeSeat_sign,
      computeSign_buffer, changeSeat_seats]
    have held : (closeTaken q e s).hold = s.hold :=
      (payersAtClose_fare _ _ _).hold.trans (takeTrip_fare _ _ s).hold
    have state : (closeTaken q e s).accounts.shift.state = .closed := by
      rw [last, payersAtClose_accounts, (closeShift_shift w).1]
    have sign : (closeTaken q e s).sign = (closeShift w).sign := by
      rw [last]
      exact payers .sign (by decide)
    obtain ⟨mode, pool⟩ := closeShift_sign w
    change (signPatterns (closeTaken q e s).hold.held (closeTaken q e s).accounts.shift.state
      (closeTaken q e s).sign.mode (closeTaken q e s).sign.pool _).get c = _
    rw [held, state, sign, mode, pool, ← taken]
    rfl

/-- Settles O32: the trip and the payers, the shift's end with its report, and the switch. -/
theorem closeLogsTripAndFreesSeat : Obligations.CloseLogsTripAndFreesSeat :=
  ⟨close_logs_trip, trip_limit_ends_shift, last_close_reports_shift, occupancy_moves_switch⟩

end Sys2Proof.Machine

/-! PROOFS. Load completion of a warm start: the seats with open fares, the in-flight slots and their CHARGE_CANCELs (R57, R58, R113,
R119). -/

namespace Sys2Proof.Machine

-- One theorem at a time: the memory limit of the check counts the stack of every thread.
set_option Elab.async false

variable {s t u v : State} {q : Seat}

/-! ### The seats at a warm start (R57, R58) -/

/-- A retained record after a warm start: closed if its trip was under way and owes nothing. -/
def resumedRecord (time : DayTime) (r : SeatRecord) : SeatRecord :=
  if openFare r ∧ r.due = 0 then vacantSeat else warmSeat time r

theorem openFare_iff (r : SeatRecord) : openFare r = true ↔ r.state = .hired ∨ r.state = .paying := by
  simp [openFare]

theorem warmStartSeat_seats (s : State) (q : Seat) :
    (warmStartSeat s q).seats = s.seats.set q (resumedRecord s.clock.time (s.seat q)) := by
  have written := changeSeat_seats q (warmSeat s.clock.time (s.seat q)) s
  have seat := changeSeat_seat q (warmSeat s.clock.time (s.seat q)) s
  unfold warmStartSeat resumedRecord
  dsimp only
  split
  · next open_ =>
    have due : ((changeSeat q (warmSeat s.clock.time (s.seat q)) s).seat q).state = .due := by
      rw [seat, warmSeat_of_open _ ((openFare_iff _).1 open_)]
    rw [closeIfPaid_of_due due, seat, warmSeat_due]
    simp only [open_, true_and]
    split
    · rw [closeSeat_seats, written, PerSeat.set_set]
    · exact written
  · next closed =>
    rw [if_neg fun both => closed both.1]
    rfl

theorem warmStartSeat_clock (s : State) (q : Seat) : (warmStartSeat s q).clock = s.clock :=
  warmStartSeat_frame s q .clock (by decide)

/-- The start work takes each seat once. -/
theorem warmStartSeats_seat (s : State) (q : Seat) :
    (warmStartSeats s).seat q = resumedRecord s.clock.time (s.seat q) := by
  have self : ∀ u p, (warmStartSeat u p).seat p = resumedRecord u.clock.time (u.seat p) := fun u p => by
    rw [State.seat, warmStartSeat_seats, PerSeat.get_set_self]
  have other : ∀ u p, q ≠ p → (warmStartSeat u p).seat q = u.seat q := fun u p ne =>
    seat_of_set (warmStartSeat_seats u p) ne
  change (warmStartSeat (warmStartSeat (warmStartSeat (warmStartSeat s .one) .two) .three) .four).seat q = _
  cases q with
  | one => rw [other _ .four nofun, other _ .three nofun, other _ .two nofun, self]
  | two =>
    rw [other _ .four nofun, other _ .three nofun, self, warmStartSeat_clock, other _ .one nofun]
  | three =>
    rw [other _ .four nofun, self, warmStartSeat_clock, warmStartSeat_clock, other _ .two nofun,
      other _ .one nofun]
  | four =>
    rw [self, warmStartSeat_clock, warmStartSeat_clock, warmStartSeat_clock, other _ .three nofun,
      other _ .two nofun, other _ .one nofun]

/-! ### The tags at a warm start (R113, R119) -/

/-- A seat's slot emptied, its tag on the late list (R119). -/
def retireTag (t : Tags) (q : Seat) : Tags :=
  { t with
    late := match t.slots.get q with
      | some e => addLate e t.late
      | none => t.late,
    slots := t.slots.set q none }

theorem retireTag_of_none {t : Tags} (h : t.slots.get q = none) : retireTag t q = t := by
  have same : t.slots.set q none = t.slots := by rw [← h, PerSeat.set_get]
  unfold retireTag
  rw [h, same]

/-- The CHARGE_CANCEL of a tag (R119). -/
def cancelFrame (e : Tag) : TxFrame := { dest := e.reader, answer := false, body := .chargeCancel e.tag }

/-- A slot emptied: its CHARGE_CANCEL goes to a reader that the roster lists. -/
theorem retireSlot_of_some {e : Tag} (h : s.tags.slots.get q = some e) :
    retireSlot s q =
      if listsReader s.line.roster e.reader then
        enqueue (cancelFrame e) (s.setTags (retireTag s.tags q))
      else s.setTags (retireTag s.tags q) := by
  have tags : { s.tags with late := addLate e s.tags.late, slots := s.tags.slots.set q none } =
      retireTag s.tags q := by
    unfold retireTag
    rw [h]
  unfold retireSlot
  rw [h]
  dsimp only
  rw [tags]
  rfl

theorem retireSlot_of_none (h : s.tags.slots.get q = none) : retireSlot s q = s := by
  unfold retireSlot
  rw [h]

theorem retireSlot_tags (s : State) (q : Seat) : (retireSlot s q).tags = retireTag s.tags q := by
  cases slot : s.tags.slots.get q with
  | none => rw [retireSlot_of_none slot, retireTag_of_none slot]
  | some e =>
    rw [retireSlot_of_some slot]
    split
    · exact (enqueue_only _ _).tags
    · rfl

theorem retireSlot_roster (s : State) (q : Seat) : (retireSlot s q).line.roster = s.line.roster :=
  (retireSlot_tells behaved_allows.cancel q).timed.roster

theorem foldl_retireSlot_tags (seats : List Seat) (s : State) :
    (seats.foldl retireSlot s).tags = seats.foldl retireTag s.tags := by
  induction seats generalizing s with
  | nil => rfl
  | cons q seats ih => rw [List.foldl_cons, ih, retireSlot_tags, List.foldl_cons]

theorem retireSlots_of_none (h : ∀ q, s.tags.slots.get q = none) : retireSlots s = s := by
  change retireSlot (retireSlot (retireSlot (retireSlot s .one) .two) .three) .four = s
  rw [retireSlot_of_none (h .one), retireSlot_of_none (h .two), retireSlot_of_none (h .three),
    retireSlot_of_none (h .four)]

/-- A slot that stands after another has been emptied stood before. -/
theorem slot_of_retireTag {t : Tags} {p : Seat} {e : Tag} (h : (retireTag t p).slots.get q = some e) :
    t.slots.get q = some e := by
  change (t.slots.set p none).get q = some e at h
  rw [PerSeat.get_set] at h
  split at h
  · cases h
  · exact h

/-! ### The CHARGE_CANCELs at a warm start (R119) -/

theorem foldl_retireSlot_tells (seats : List Seat) (s : State) :
    Tells Behaved seats.length s (seats.foldl retireSlot s) := by
  induction seats generalizing s with
  | nil => exact .refl s
  | cons q seats ih =>
    have both := (retireSlot_tells (s := s) behaved_allows.cancel q).trans (ih (retireSlot s q))
    rw [Nat.add_comm] at both
    exact both

/-- A slot's CHARGE_CANCEL finds a place in a queue of few urgent frames, and keeps it. -/
theorem cancel_mem_foldl {seats : List Seat} {k : Nat} {e : Tag} (mem : q ∈ seats)
    (slot : s.tags.slots.get q = some e) (listed : listsReader s.line.roster e.reader = true)
    (placed : HasPlaced k none s.line.queue) (room : k + seats.length < 15) :
    cancelFrame e ∈ (seats.foldl retireSlot s).line.queue := by
  induction seats generalizing s k with
  | nil => cases mem
  | cons p seats ih =>
    rw [List.length_cons] at room
    rw [List.foldl_cons]
    by_cases same : p = q
    · subst same
      refine (foldl_retireSlot_tells seats _).mem_of_top ?_ rfl
      rw [retireSlot_of_some slot, if_pos listed, enqueue_queue]
      exact placed.mem_queued (by omega) rfl
    · refine ih (k := k + 1) ((List.mem_cons.1 mem).resolve_left (Ne.symm same)) ?_ ?_
        ((retireSlot_tells behaved_allows.cancel p).hasPlaced placed (by omega)) (by omega)
      · rw [retireSlot_tags]
        exact (PerSeat.get_set_of_ne _ _ (Ne.symm same)).trans slot
      · rw [retireSlot_roster]
        exact listed

/-- The CHARGE_CANCEL of a charge in flight, to a reader that the roster lists. -/
def CancelsSlot (slots : PerSeat (Option Tag)) (roster : List Station) (f : TxFrame) : Prop :=
  ∃ q e, slots.get q = some e ∧ listsReader roster e.reader = true ∧ f = cancelFrame e

theorem mem_retireSlot {f : TxFrame} (h : f ∈ (retireSlot s q).line.queue) :
    f ∈ s.line.queue ∨ CancelsSlot s.tags.slots s.line.roster f := by
  cases slot : s.tags.slots.get q with
  | none =>
    rw [retireSlot_of_none slot] at h
    exact .inl h
  | some e =>
    rw [retireSlot_of_some slot] at h
    split at h
    · next listed =>
      rw [enqueue_queue] at h
      exact (mem_queued h).symm.imp_right fun same => ⟨q, e, slot, listed, same⟩
    · exact .inl h

theorem mem_foldl_retireSlot {seats : List Seat} {f : TxFrame}
    (h : f ∈ (seats.foldl retireSlot s).line.queue) :
    f ∈ s.line.queue ∨ CancelsSlot s.tags.slots s.line.roster f := by
  induction seats generalizing s with
  | nil => exact .inl h
  | cons p seats ih =>
    rcases ih h with old | ⟨q, e, slot, listed, same⟩
    · exact mem_retireSlot old
    · rw [retireSlot_tags] at slot
      rw [retireSlot_roster] at listed
      exact .inr ⟨q, e, slot_of_retireTag slot, listed, same⟩

/-- No CHARGE_CANCEL. -/
def NoCancel (b : TxBody) : Prop := ∀ tag, b ≠ .chargeCancel tag

theorem noCancel_close : AllowsClose NoCancel := ⟨fun _ _ => nofun, fun _ _ _ => nofun, fun _ _ _ _ => nofun⟩

theorem noCancel_event (x : Bool) (c p : Option Cause) (n : Nat) : NoCancel (.holdEvent x c p n) :=
  fun _ => nofun

theorem raiseCause_noCancel (c : Cause) (src : Nat) (s : State) : Tells NoCancel 1 s (raiseCause c src s) :=
  raiseCause_tells noCancel_close.status noCancel_event c src

theorem monitorStartWork_noCancel (s : State) : Tells NoCancel 4 s (monitorStartWork s) := by
  have raised : ∀ c u, Tells NoCancel 1 u (raiseIfPresent c u) := fun c u =>
    .ite (raiseCause_noCancel _ _ u) ((Tells.refl u).mono (by omega))
  have entered : ∀ u, Tells NoCancel 1 u (enterIfCalled u) := fun u => by
    unfold enterIfCalled
    refine .ite ((Tells.refl u).mono (by omega)) ?_
    split
    · exact enterHeld_tells noCancel_close.status noCancel_event _ _
    · exact (Tells.refl u).mono (by omega)
  exact ((((causesReported_tells s).trans (raised _ _)).trans (raised _ _)).trans (raised _ _)).trans (entered _)

/-- A frame that is no CHARGE_CANCEL's was sent before. -/
theorem Tells.mem_of_cancel {k : Nat} {f : TxFrame} {tag : Nat} (h : Tells NoCancel k s t)
    (mem : f ∈ t.line.queue) (cancel : f.body = .chargeCancel tag) : f ∈ s.line.queue :=
  ((h.sends (.inl fun _ _ => nofun)).2.mem mem).resolve_right fun other => other tag cancel

/-! ### The retained work of a warm start, around the slots (R5, R56, R119) -/

/-- The retained work comes to the state `v`, empties the slots there, and ends in `t`, whatever order it
takes. -/
structure Retires (s v t : State) : Prop where
  slots : v.tags = s.tags
  before : Tells Behaved 5 s v
  beforeQuiet : Tells NoCancel 5 s v
  tags : t.tags = (retireSlots v).tags
  after : Tells Behaved 4 (retireSlots v) t
  afterQuiet : Tells NoCancel 4 (retireSlots v) t
  seats : ∀ q, t.seat q = resumedRecord s.clock.time (s.seat q)

theorem monitorStartWork_behaved (s : State) : Tells Behaved 4 s (monitorStartWork s) :=
  monitorStartWork_tells behaved_allows.raises s

theorem raiseBreak_behaved (b : Bool) (s : State) : Tells Behaved 1 s (raiseBreak b s) :=
  .ite (raiseCause_tells behaved_allows.status behaved_allows.event _ _) ((Tells.refl s).mono (by omega))

theorem raiseBreak_noCancel (b : Bool) (s : State) : Tells NoCancel 1 s (raiseBreak b s) :=
  .ite (raiseCause_noCancel _ _ s) ((Tells.refl s).mono (by omega))

theorem warmStartSeats_tags (s : State) : (warmStartSeats s).tags = s.tags :=
  warmStartSeats_frame s .tags (by decide)

theorem monitorStartWork_tags (s : State) : (monitorStartWork s).tags = s.tags :=
  monitorStartWork_frame s .tags (by decide)

theorem monitorStartWork_clock (s : State) : (monitorStartWork s).clock = s.clock :=
  monitorStartWork_frame s .clock (by decide)

theorem seat_congr (h : t.seats = s.seats) (q : Seat) : t.seat q = s.seat q := congrArg (PerSeat.get · q) h

theorem retainedWork_retires (warm : s.start.kind = .warm) : ∃ v, Retires s v (retainedWork s) := by
  have drawn : ∀ ok, Tells ok 0 s (s.setDraws (s.draws + 1)) := fun _ => .of_eq rfl rfl rfl
  have turned : ∀ u, Tells Behaved 1 u (raiseBreak (u.seats.any openFare) (warmStartSeats u)) := fun u =>
    (warmStartSeats_tells behaved_allows.toAllowsClose).trans (raiseBreak_behaved _ _)
  have turnedQuiet : ∀ u, Tells NoCancel 1 u (raiseBreak (u.seats.any openFare) (warmStartSeats u)) :=
    fun u => (warmStartSeats_tells noCancel_close).trans (raiseBreak_noCancel _ _)
  have work : retainedWork s = warmWork s := by
    unfold retainedWork
    rw [warm]
  rw [work, warmWork]
  split
  · dsimp only
    split
    · refine ⟨raiseBreak _ (warmStartSeats (monitorStartWork (s.setDraws (s.draws + 1)))), ?_, ?_, ?_, rfl,
        (Tells.refl _).mono (by omega), (Tells.refl _).mono (by omega), fun q => ?_⟩
      · rw [(raiseBreak_raise _ _).tags, warmStartSeats_tags, monitorStartWork_tags]
        rfl
      · exact ((drawn _).trans (monitorStartWork_behaved _)).trans (turned _)
      · exact ((drawn _).trans (monitorStartWork_noCancel _)).trans (turnedQuiet _)
      · rw [seat_congr (resumeTrips_seats _) q, warmStartSeats_seat, monitorStartWork_clock,
          seat_congr (monitorStartWork_seats _) q]
        rfl
    · refine ⟨raiseBreak _ (warmStartSeats (s.setDraws (s.draws + 1))), ?_, ?_, ?_, monitorStartWork_tags _,
        monitorStartWork_behaved _, monitorStartWork_noCancel _, fun q => ?_⟩
      · rw [(raiseBreak_raise _ _).tags, warmStartSeats_tags]
        rfl
      · exact ((drawn _).trans (turned _)).mono (by omega)
      · exact ((drawn _).trans (turnedQuiet _)).mono (by omega)
      · rw [seat_congr (monitorStartWork_seats _) q, seat_congr (resumeTrips_seats _) q, warmStartSeats_seat]
        rfl
  · next idle =>
    have none_ : ∀ q, s.tags.slots.get q = none := fun q => by
      simp only [tripsOpen, Bool.or_eq_true, not_or, PerSeat.any_iff, not_exists] at idle
      exact Option.not_isSome_iff_eq_none.1 (idle.2 q)
    have same : retireSlots (warmStartSeats s) = warmStartSeats s :=
      retireSlots_of_none fun q => by rw [warmStartSeats_tags]; exact none_ q
    refine ⟨warmStartSeats s, warmStartSeats_tags s,
      (warmStartSeats_tells behaved_allows.toAllowsClose).mono (by omega),
      (warmStartSeats_tells noCancel_close).mono (by omega), ?_, ?_, ?_, fun q => ?_⟩
    · rw [same, monitorStartWork_tags]
    · rw [same]
      exact monitorStartWork_behaved _
    · rw [same]
      exact monitorStartWork_noCancel _
    · rw [seat_congr (monitorStartWork_seats _) q, warmStartSeats_seat]

/-! ### Load completion of a warm start -/

section Loading

variable (l : Loaded) (s : State)

theorem workFound_tags : (workFound l s).tags = s.tags :=
  (intercomStartWork_only _).tags.trans (putInForce_frame l s .tags (by decide))

theorem workFound_roster : (workFound l s).line.roster = l.roster := by
  rw [workFound, (intercomStartWork_only _).roster, (putInForce_timed l s).2]

theorem workFound_start : (workFound l s).start.kind = s.start.kind := by
  rw [workFound, told_start]

theorem startWork_tags : (startWork l s).tags = (retainedWork (workFound l s)).tags :=
  (queueStatus_only _).tags

theorem workFound_noCancel (empty : s.line.queue = []) {f : TxFrame} {tag : Nat}
    (mem : f ∈ (workFound l s).line.queue) : f.body ≠ .chargeCancel tag := by
  rw [workFound_queue, empty] at mem
  split at mem
  · rcases mem_queued mem with rfl | old
    · nofun
    · cases old
  · cases mem

end Loading

theorem warm_start_turns_seats : Claims.WarmStartTurnsSeats := by
  intro image s reading warm
  refine ⟨_, exec_loadCompletion reading image, ?_⟩
  generalize loadImage image = l
  have kind := (workFound_start l s).trans warm
  obtain ⟨v, slots, -, -, tags, -, -, seats⟩ := retainedWork_retires kind
  have retired : (startWork l s).tags = allSeats.foldl retireTag s.tags := by
    rw [startWork_tags, tags, ← workFound_tags l s, ← slots]
    exact foldl_retireSlot_tags allSeats v
  refine ⟨by rw [retired]; rfl, fun ⟨q, open_⟩ => ?_, fun q => ?_⟩
  · obtain ⟨t, order, -, hold, -⟩ := startWork_order l s
    rw [hold]
    refine (order.status .brk).2 (.inr ⟨rfl, ?_⟩)
    rw [broken, kind, workFound_seats]
    exact (PerSeat.any_iff _ _).2 ⟨q, (openFare_iff _).2 open_⟩
  · have seat : (startWork l s).seat q = resumedRecord s.clock.time (s.seat q) := by
      rw [seat_congr (startWork_seats l s) q]
      exact (seats q).trans (by rw [workFound_clock, seat_congr (workFound_seats l s) q])
    rw [seat, resumedRecord]
    refine ⟨by rw [retired]; cases q <;> rfl, fun vacant => ?_, fun due => ?_,
      fun open_ => ⟨fun nothing => ?_, fun owing => ?_⟩⟩
    · rw [if_neg (by rw [openFare_iff, vacant]; simp), warmSeat_of_vacant _ vacant]
    · rw [if_neg (by rw [openFare_iff, due]; simp), warmSeat_of_due _ due]
    · rw [if_pos ⟨(openFare_iff _).2 open_, nothing⟩]
    · rw [if_neg fun both => owing.ne' both.2, warmSeat_of_open _ open_]

theorem listsReader_iff (roster : List Station) (a : Nat) :
    listsReader roster a = true ↔ ∃ x ∈ roster, x.cls = .reader ∧ x.addr = a := by
  simp [listsReader]

theorem warm_start_retires_tags : Claims.WarmStartRetiresTags := by
  intro image s reading warm empty
  refine ⟨_, exec_loadCompletion reading image, ?_⟩
  generalize loadImage image = l
  obtain ⟨v, slots, before, beforeQuiet, tags, after, afterQuiet, -⟩ :=
    retainedWork_retires ((workFound_start l s).trans warm)
  rw [workFound_tags] at slots
  have roster : v.line.roster = l.roster := before.timed.roster.trans (workFound_roster l s)
  have last : ∀ {ok : TxBody → Prop}, (∀ r, ok (.status r)) →
      Tells ok 0 (retainedWork (workFound l s)) (startWork l s) := fun status =>
    startWork_last_tells status _
  refine ⟨?_, fun q e slot listed => ?_, fun f mem tag cancel => ?_⟩
  · rw [startWork_tags, tags, show (retireSlots v).tags = _ from foldl_retireSlot_tags allSeats v, slots]
    rfl
  · have placed := before.hasPlaced (workFound_placed empty) (by decide)
    have sent : cancelFrame e ∈ (retireSlots v).line.queue :=
      cancel_mem_foldl (show q ∈ allSeats by cases q <;> decide) (by rw [slots]; exact slot)
        (by rw [roster]; exact (listsReader_iff _ _).2 listed) placed (by decide)
    exact (after.trans (last behaved_allows.status)).mem_of_top sent rfl
  · have old := (afterQuiet.trans (last noCancel_close.status)).mem_of_cancel mem cancel
    rcases mem_foldl_retireSlot old with early | ⟨q, e, slot, listed, same⟩
    · exact absurd cancel (workFound_noCancel l s empty (beforeQuiet.mem_of_cancel early cancel))
    · rw [slots] at slot
      rw [roster] at listed
      subst same
      cases cancel
      exact ⟨q, e, slot, rfl, rfl, (listsReader_iff _ _).1 listed⟩

/-- Settles O20: each seat and each slot once, whatever order the retained work takes. -/
theorem warmStartTurnsOpenSeats : Obligations.WarmStartTurnsOpenSeats :=
  ⟨warm_start_turns_seats, warm_start_retires_tags⟩

end Sys2Proof.Machine

/-! PROOFS. The layouts of the pages and of the frames that the CF-14 sends, byte by byte (R54, R137, R139, R163, R176, R177, R184,
R190, R201). -/

namespace Sys2Proof.Machine

-- One theorem at a time: the memory limit of the check counts the stack of every thread.
set_option Elab.async false

/-! ### Bytes and their bits (R190) -/

theorem toNat_byte (n : Nat) : (byte n).toNat = n % 256 := BitVec.toNat_ofNat n 8

theorem toNat_byte_of_lt {n : Nat} (h : n < 256) : (byte n).toNat = n := by
  rw [toNat_byte, Nat.mod_eq_of_lt h]

theorem getLsbD_byte (n : Nat) {k : Nat} (h : k < 8) : (byte n).getLsbD k = n.testBit k := by
  rw [byte, BitVec.getLsbD_ofNat, decide_eq_true h, Bool.true_and]

/-- A bit of a byte, by the quotient at its place. -/
theorem getLsbD_byte_of {n k : Nat} {b : Bool} (h : k < 8) (digit : n / 2 ^ k % 2 = b.toNat) :
    (byte n).getLsbD k = b := by
  rw [getLsbD_byte n h, Nat.testBit_eq_decide_div_mod_eq, digit]
  cases b <;> rfl

/-- Bit i of a number made of flags is the i-th flag. -/
theorem testBit_bitsOf (flags : List Bool) (k : Nat) : (bitsOf flags).testBit k = flags.getD k false := by
  induction flags generalizing k with
  | nil => exact Nat.zero_testBit k
  | cons b flags ih =>
    have half : (b.toNat + 2 * bitsOf flags) / 2 = bitsOf flags := by
      have := b.toNat_le
      omega
    change (b.toNat + 2 * bitsOf flags).testBit k = _
    cases k with
    | zero =>
      rw [Nat.testBit_zero]
      cases b <;> simp
    | succ k => rw [Nat.testBit_succ, half, ih, List.getD_cons_succ]

theorem getLsbD_byte_bitsOf (flags : List Bool) {k : Nat} (h : k < 8) :
    (byte (bitsOf flags)).getLsbD k = flags.getD k false := by
  rw [getLsbD_byte _ h, testBit_bitsOf]

/-- The bytes of a number, high byte first, behind what stands before them. -/
theorem foldl_bigEndian (n k a : Nat) :
    (bigEndian n k).foldl (fun m b => m * 256 + b.toNat) a = a * 256 ^ k + n % 256 ^ k := by
  induction k generalizing a with
  | zero => simp [bigEndian, Nat.mod_one]
  | succ k ih =>
    rw [bigEndian, List.foldl_cons, ih, Nat.mod_pow_succ]
    change (a * 256 + (byte (n / 256 ^ k)).toNat) * 256 ^ k + _ = _
    rw [toNat_byte]
    ring

theorem fromBigEndian_bigEndian (n k : Nat) : fromBigEndian (bigEndian n k) = n % 256 ^ k := by
  rw [fromBigEndian, foldl_bigEndian, Nat.zero_mul, Nat.zero_add]

/-- The flags of a two-byte number. -/
theorem testBit_two_bytes (flags : List Bool) {k : Nat} (h : k < 16) :
    (fromBigEndian (bigEndian (bitsOf flags) 2)).testBit k = flags.getD k false := by
  rw [fromBigEndian_bigEndian, show (256 : Nat) ^ 2 = 2 ^ 16 from rfl, Nat.testBit_mod_two_pow,
    decide_eq_true h, Bool.true_and, testBit_bitsOf]

/-! ### Totals and trip pages (R176, R177, R184) -/

theorem totals_pages_are_laid_out : Claims.TotalsPagesAreLaidOut := by
  intro a
  refine ⟨?_, rfl, rfl, rfl, rfl, rfl, rfl, rfl, rfl, rfl, rfl, rfl, rfl, rfl, rfl, rfl⟩
  exact congrArg (_ ++ [·]) (rfl : byte reportPages = 13)

/-- The marks of a trip as a sum of their values. -/
theorem bitsOf_marks (a b c d : Bool) :
    bitsOf [a, b, c, d] =
      (if a = true then 1 else 0) + (if b = true then 2 else 0) + (if c = true then 4 else 0) +
        (if d = true then 8 else 0) := by
  revert a b c d
  decide

/-- The first places of a list, and a value where it has none. -/
theorem take_append_replicate {α : Type} (l : List α) (d : α) (h : l.length ≤ 4) :
    (l ++ List.replicate 4 d).take 4 = (List.range 4).map fun i => l[i]?.getD d := by
  match l, h with
  | [], _ => rfl
  | [_], _ => rfl
  | [_, _], _ => rfl
  | [_, _, _], _ => rfl
  | [_, _, _, _], _ => rfl

theorem bandBytes_eq {bands : List Nat} (h : bands.length ≤ 4) :
    bandBytes bands = (List.range 4).map fun i => byte (bands.getD i 0) := by
  rw [bandBytes, take_append_replicate _ _ (by rw [List.length_map]; exact h)]
  refine List.map_congr_left fun i _ => ?_
  rw [List.getElem?_map, List.getD_eq_getElem?_getD]
  cases bands[i]? <;> rfl

theorem trip_pages_are_laid_out : Claims.TripPagesAreLaidOut := by
  intro t
  refine ⟨?_, fun few => ?_, rfl, rfl, rfl, fun k none_ => ?_, fun k p some_ => ?_⟩
  · rw [tripPage, bitsOf_marks]
    split <;> rfl
  · rw [tripPage, bandBytes_eq few]
    rfl
  · rw [Nat.add_comm, tripPage, none_, Option.map_none]
  · rw [Nat.add_comm, tripPage, some_, Option.map_some, paymentPage]
    cases p.method <;> rfl

/-! ### Hold pages (R163) -/

theorem causeValue_lt (c : Option Cause) : causeValue c < 16 := by
  cases c with
  | none => decide
  | some c => cases c <;> decide

theorem holdByte_bits (held : Bool) (c : Option Cause) :
    (holdByte held c).getLsbD 7 = held ∧ (holdByte held c).toNat % 128 = causeValue c := by
  have small := causeValue_lt c
  have flag := held.toNat_le
  refine ⟨getLsbD_byte_of (by decide) (by omega), ?_⟩
  rw [holdByte, toNat_byte]
  omega

theorem getD_map_allCauses {α : Type} (f : Cause → α) (c : Cause) (d : α) :
    (allCauses.map f).getD c.number d = f c := by cases c <;> rfl

theorem getD_list {v : PerCause Bool} (c : Cause) : v.list.getD c.number false = v.get c := by
  cases c <;> rfl

theorem getD_channels {v : PerChannel Bool} (c : Channel) : v.list.getD c.number false = v.get c := by
  cases c <;> rfl

theorem cause_number_lt (c : Cause) : c.number < 16 := by cases c <;> decide

theorem channel_number_lt (c : Channel) : c.number < 8 := by cases c <;> decide

/-- A day of the week with the validity in bit 7. -/
theorem dayByte_bits {day : Nat} {valid : Bool} (h : day ≤ 7) :
    (byte (day + 128 * valid.toNat)).toNat % 128 = day ∧
      (byte (day + 128 * valid.toNat)).getLsbD 7 = valid := by
  have flag := valid.toNat_le
  refine ⟨?_, getLsbD_byte_of (by decide) (by omega)⟩
  rw [toNat_byte]
  omega

/-! ### Payer records (R89) -/

/-- The first byte of a payer record: its index and four flags. -/
theorem payerFlags_bits (i : Fin 8) (a b c d : Bool) :
    let x := byte (i.val + 8 * a.toNat + 16 * b.toNat + 32 * c.toNat + 64 * d.toNat)
    x.toNat % 8 = i.val ∧ x.getLsbD 3 = a ∧ x.getLsbD 4 = b ∧ x.getLsbD 5 = c ∧ x.getLsbD 6 = d ∧
      x.getLsbD 7 = false := by
  have index := i.isLt
  have ha := a.toNat_le
  have hb := b.toNat_le
  have hc := c.toNat_le
  have hd := d.toNat_le
  refine ⟨?_, getLsbD_byte_of (by decide) (by omega), getLsbD_byte_of (by decide) (by omega),
    getLsbD_byte_of (by decide) (by omega), getLsbD_byte_of (by decide) (by omega),
    getLsbD_byte_of (by decide) (by rw [Bool.toNat_false]; omega)⟩
  rw [toNat_byte]
  omega

theorem seatNumber_lt (q : Seat) : seatNumber q < 5 := by cases q <;> decide

theorem scopeValue_lt (sc : Scope) : scopeValue sc < 6 := by
  cases sc with
  | seat q => exact (seatNumber_lt q).trans (by decide)
  | party => decide

/-- The number of the seat that a payer is charging for, or 0 (R190). -/
def chargingValue : Option Seat → Nat
  | some q => seatNumber q
  | none => 0

theorem chargingValue_lt (o : Option Seat) : chargingValue o < 5 := by
  cases o with
  | none => decide
  | some q => exact seatNumber_lt q

theorem scopeByte_digits (sc : Scope) (o : Option Seat) :
    (byte (scopeValue sc + 16 * chargingValue o)).toNat % 16 = scopeValue sc ∧
      (byte (scopeValue sc + 16 * chargingValue o)).toNat / 16 = chargingValue o := by
  have low := scopeValue_lt sc
  have high := chargingValue_lt o
  rw [toNat_byte]
  omega

/-! ### The STATUS (R201) -/

theorem seatStateValue_lt (x : SeatState) : seatStateValue x < 4 := by cases x <;> decide

/-- Two bits for each seat. -/
theorem seatStatesByte_digit (v : PerSeat SeatState) (q : Seat) :
    (seatStatesByte v).toNat / 4 ^ (seatNumber q - 1) % 4 = seatStateValue (v.get q) := by
  have one := seatStateValue_lt v.one
  have two := seatStateValue_lt v.two
  have three := seatStateValue_lt v.three
  have four := seatStateValue_lt v.four
  rw [seatStatesByte, toNat_byte]
  cases q <;> simp only [seatNumber, PerSeat.get] <;> omega

theorem modeValue_lt (m : SignMode) : modeValue m < 3 := by cases m <;> decide

theorem modeByte_bits (m : SignMode) (pool : Bool) {free : Nat} (h : free ≤ 4) :
    let x := byte (modeValue m + 4 * pool.toNat + 16 * free)
    x.toNat % 4 = modeValue m ∧ x.getLsbD 2 = pool ∧ x.toNat / 16 = free := by
  have mode := modeValue_lt m
  have flag := pool.toNat_le
  refine ⟨?_, getLsbD_byte_of (by decide) (by omega), ?_⟩
  · rw [toNat_byte]
    omega
  · rw [toNat_byte]
    omega

theorem bandByte_bits (m : BandMode) {selected : Nat} (h : selected ≤ 4) :
    let x := byte (selected + 128 * bandModeValue m)
    x.toNat % 128 = selected ∧ x.getLsbD 7 = (match m with
      | .auto => false
      | .manual => true) := by
  cases m with
  | auto =>
    refine ⟨?_, getLsbD_byte_of (by decide) ?_⟩
    · rw [toNat_byte, bandModeValue]
      omega
    · change _ = 0
      rw [bandModeValue]
      omega
  | manual =>
    refine ⟨?_, getLsbD_byte_of (by decide) ?_⟩
    · rw [toNat_byte, bandModeValue]
      omega
    · change _ = 1
      rw [bandModeValue]
      omega

/-- The flags of a cause on hold page 1. -/
theorem holdPage_flag (s : State) (c : Cause) {k : Nat} (h : k < 8) :
    ((holdPage s 1).getD c.number 0).getLsbD k =
      [s.hold.status.get c, s.monitor.masked.get c, s.monitor.note.get c, s.monitor.condition.get c].getD
        k false := by
  rw [show (holdPage s 1).getD c.number 0 = causeFlags s c from getD_map_allCauses (causeFlags s) c 0]
  exact getLsbD_byte_bitsOf _ h

theorem payerBytes_reader (i : Fin 8) (viaParty : Bool) (p : Payer) :
    (payerBytes i viaParty p).getD 2 0 = (match p.kind with
      | .card reader _ => byte reader
      | .account _ => 0) := by
  obtain ⟨kind, -, -, -, -, -⟩ := p
  cases kind <;> rfl

theorem payerBytes_amounts (i : Fin 8) (viaParty : Bool) (p : Payer) :
    (payerBytes i viaParty p).drop 3 = bigEndian (match p.kind with
      | .card _ ref => ref
      | .account id => id) 4 ++ bigEndian p.limit 3 ++ bigEndian p.spent 3 := by
  obtain ⟨kind, -, -, -, -, -⟩ := p
  cases kind <;> rfl

theorem hold_payer_and_status_are_laid_out : Claims.HoldPayerAndStatusAreLaidOut := by
  intro s i viaParty p r
  obtain ⟨index, account, charging, tips, party, top⟩ := payerFlags_bits i
    (match p.kind with
      | .card _ _ => false
      | .account _ => true) p.charging.isSome p.tipsAllowed viaParty
  obtain ⟨scope, seat⟩ := scopeByte_digits p.scope p.charging
  refine ⟨holdByte_bits _ _, ?_, rfl, fun week => dayByte_bits week, rfl, rfl, rfl,
    fun c => ⟨holdPage_flag s c (by decide), holdPage_flag s c (by decide), holdPage_flag s c (by decide),
      holdPage_flag s c (by decide), ?_⟩, rfl, getLsbD_byte_bitsOf _ (by decide),
    getLsbD_byte_bitsOf _ (by decide), index, account, charging, tips, party, top, scope, seat,
    payerBytes_reader i viaParty p, payerBytes_amounts i viaParty p, rfl, ?_, rfl, holdByte_bits _ _,
    fun c => (testBit_two_bytes _ (cause_number_lt c)).trans (getD_list c),
    fun q => seatStatesByte_digit _ q, fun few => modeByte_bits _ _ few,
    fun c => (getLsbD_byte_bitsOf _ (channel_number_lt c)).trans (getD_channels c),
    fun low => bandByte_bits _ low, rfl, fun k small => testBit_two_bytes _ small⟩
  · exact toNat_byte_of_lt ((causeValue_lt _).trans (by decide))
  · cases c <;> rfl
  · change (byte (shiftValue r.shift)).toNat = _
    cases r.shift <;> rfl

/-! ### The payloads of the other frames (R137, R139, R190) -/

theorem byte_toNat_flag (b : Bool) : byte b.toNat = if b = true then 1 else 0 := by cases b <;> rfl

theorem causeByte (c : Option Cause) :
    byte (causeValue c) = (match c with
      | some c => byte c.number
      | none => 15) := by
  cases c <;> rfl

theorem queueBytes_eq {queue : List Seat} (h : queue.length ≤ 4) :
    queueBytes queue =
      (List.range 4).map fun k => (queue[k]?.map fun q => byte (seatNumber q)).getD 0 := by
  rw [queueBytes, take_append_replicate _ _ (by rw [List.length_map]; exact h)]
  refine List.map_congr_left fun k _ => ?_
  rw [List.getElem?_map]

theorem talkerByte (x : Talk) :
    byte (talkerValue x) = (match x with
      | .idle | .guard => 0
      | .driverTalk => 5
      | .seatTalk q => byte (seatNumber q)) := by
  cases x <;> rfl

theorem sent_payloads_are_laid_out : Claims.SentPayloadsAreLaidOut := by
  intro q d r tag amount tip source index shift page seq command code data released trigger pointer
  refine ⟨?_, rfl, rfl, rfl, rfl, rfl, rfl, ?_, ?_, fun few => ?_⟩
  · change [byte released.toNat, byte (causeValue trigger), byte (causeValue pointer), byte source] = _
    rw [byte_toNat_flag, causeByte, causeByte] <;> rfl
  · exact (List.append_assoc (bigEndian shift 2) [byte page] data).symm
  · change displayBytes q d = _
    rw [displayBytes, byte_toNat_flag]
    simp
  · change intercomBytes r = _
    rw [intercomBytes, queueBytes_eq few, talkerByte] <;> rfl

/-! ### Codes and items (R54, R190, R201) -/

theorem codes_are_listed : Claims.CodesAreListed :=
  ⟨by decide, by decide, rfl, by decide, rfl, rfl, rfl, fun _ => rfl, rfl⟩

theorem reports_take_their_items : Claims.ReportsTakeTheirItems := by
  intro s q
  refine ⟨rfl, rfl, rfl, rfl, fun _ => rfl, ?_, rfl, rfl, rfl, fun c => ?_, rfl, rfl, rfl, rfl, rfl⟩
  · exact PerSeat.get_map _ _ q
  · exact PerChannel.get_mapIdx _ _ c

/-- Settles O60: each byte by the sum or the flags that make it, and the codes by their tables. -/
theorem pagesAndFramesAreLaidOut : Obligations.PagesAndFramesAreLaidOut :=
  ⟨fun n k => ⟨bigEndian_length n k, fromBigEndian_bigEndian n k⟩, totals_pages_are_laid_out,
    trip_pages_are_laid_out, hold_payer_and_status_are_laid_out, sent_payloads_are_laid_out,
    codes_are_listed, reports_take_their_items⟩

end Sys2Proof.Machine

/-! PROOFS. The fare accrual of a delivery: what every HIRED seat takes and what only a metering one gains
(R59 to R62, R73, R74), the steps of a gain at one band, and a transfer (R64 to R70). -/

namespace Sys2Proof.Machine

-- One theorem at a time: the memory limit of the check counts the stack of every thread.
set_option Elab.async false

variable {t : Tariff} {selected dp k n : Nat} {held : Bool} {b c : Band} {r r' : SeatRecord}

/-! ### A step before its transfer (R67 to R69) -/

/-- A step reached at a band, up to the test for a transfer (R67, steps 1 and 2). -/
def takeStep (b : Band) (r : SeatRecord) : SeatRecord :=
  countStep b.amount { r with progress := r.progress - b.size }

theorem reachStep_eq (t : Tariff) (selected : Nat) (b : Band) (r : SeatRecord) :
    reachStep t selected b r = transferBand t selected b (takeStep b r) := rfl

theorem chargeStep_eq (amount : Nat) (r : SeatRecord) :
    chargeStep amount r = { r with
      fare := min maxFare (r.fare + amount),
      saturated := if maxFare < r.fare + amount then true else r.saturated } := by
  unfold chargeStep
  split
  · next above => rw [Nat.min_eq_left above.le]
  · next within => rw [Nat.min_eq_right (Nat.le_of_not_lt within)]

theorem takeStep_free (h : 0 < r.freeLeft) :
    takeStep b r = { r with
      progress := r.progress - b.size, steps := min max24 (r.steps + 1),
      freeLeft := r.freeLeft - 1 } :=
  if_pos h

theorem takeStep_charged (h : r.freeLeft = 0) :
    takeStep b r = { r with
      progress := r.progress - b.size, steps := min max24 (r.steps + 1),
      fare := min maxFare (r.fare + b.amount),
      saturated := if maxFare < r.fare + b.amount then true else r.saturated } := by
  simp [takeStep, countStep, h, chargeStep_eq, heldAdd]

/-- What a step leaves of the items that steps change, free or charged. -/
structure StepTaken (b : Band) (r r' : SeatRecord) : Prop where
  progress : r'.progress = r.progress - b.size
  steps : r'.steps = min max24 (r.steps + 1)
  freeLeft : r'.freeLeft = r.freeLeft - 1
  fare : r'.fare = if 0 < r.freeLeft then r.fare else min maxFare (r.fare + b.amount)
  activeBand : r'.activeBand = r.activeBand
  bandsUsed : r'.bandsUsed = r.bandsUsed

theorem takeStep_taken (b : Band) (r : SeatRecord) : StepTaken b r (takeStep b r) := by
  by_cases free : 0 < r.freeLeft
  · rw [takeStep_free free]
    exact ⟨rfl, rfl, rfl, (if_pos free).symm, rfl, rfl⟩
  · have none_ : r.freeLeft = 0 := Nat.eq_zero_of_not_pos free
    rw [takeStep_charged none_]
    exact ⟨rfl, rfl, by simp [none_], (if_neg free).symm, rfl, rfl⟩

/-! ### What every HIRED seat takes (R61, R62, R73, R74) -/

/-- The counts and marks that a HIRED seat takes at a delivery, whether or not it gains progress. -/
def takeMarks (t : Tariff) (held : Bool) (dp k : Nat) (r : SeatRecord) : SeatRecord :=
  { markSeat t dp k r with fresh := false, heldDuring := r.heldDuring || held }

/-- A HELD or fresh seat takes its counts and marks, and nothing else (R61, R62). -/
theorem accrueSeat_without_gain (hired : r.state = .hired) (idle : held = true ∨ r.fresh = true) :
    accrueSeat t selected held dp k r = takeMarks t held dp k r := by
  cases held with
  | true => simp [accrueSeat, takeMarks, SeatRecord.hired, hired]
  | false =>
    have fresh : r.fresh = true := idle.resolve_left Bool.false_ne_true
    simp [accrueSeat, takeMarks, SeatRecord.hired, hired, fresh, markSeat]

/-- Any other HIRED seat then takes its gain (R66). -/
theorem accrueSeat_with_gain (hired : r.state = .hired) (metering : r.fresh = false) :
    accrueSeat t selected false dp k r = progressSeat t selected dp k (takeMarks t false dp k r) := by
  have marks : takeMarks t false dp k r = markSeat t dp k r := by
    simp [takeMarks, markSeat, metering]
  simp [accrueSeat, SeatRecord.hired, hired, metering, marks]

/-- The part of a record that gains and steps leave alone: its counts and marks. -/
structure MarksKept (r r' : SeatRecord) : Prop where
  fresh : r'.fresh = r.fresh
  intervals : r'.intervals = r.intervals
  metres : r'.metres = r.metres
  remainder : r'.remainder = r.remainder
  heldDuring : r'.heldDuring = r.heldDuring
  pooled : r'.pooled = r.pooled
  maxRiders : r'.maxRiders = r.maxRiders

theorem MarksKept.refl (r : SeatRecord) : MarksKept r r := ⟨rfl, rfl, rfl, rfl, rfl, rfl, rfl⟩

theorem MarksKept.trans {a b c : SeatRecord} (h : MarksKept a b) (l : MarksKept b c) : MarksKept a c :=
  ⟨l.fresh.trans h.fresh, l.intervals.trans h.intervals, l.metres.trans h.metres,
    l.remainder.trans h.remainder, l.heldDuring.trans h.heldDuring, l.pooled.trans h.pooled,
    l.maxRiders.trans h.maxRiders⟩

theorem takeStep_marksKept (b : Band) (r : SeatRecord) : MarksKept r (takeStep b r) := by
  by_cases free : 0 < r.freeLeft
  · rw [takeStep_free free]
    exact ⟨rfl, rfl, rfl, rfl, rfl, rfl, rfl⟩
  · rw [takeStep_charged (Nat.eq_zero_of_not_pos free)]
    exact ⟨rfl, rfl, rfl, rfl, rfl, rfl, rfl⟩

theorem transferBand_marksKept (t : Tariff) (selected : Nat) (b : Band) (r : SeatRecord) :
    MarksKept r (transferBand t selected b r) := by
  unfold transferBand
  split
  · exact .refl r
  · split
    · exact .refl r
    · exact ⟨rfl, rfl, rfl, rfl, rfl, rfl, rfl⟩

theorem reachStep_marksKept (t : Tariff) (selected : Nat) (b : Band) (r : SeatRecord) :
    MarksKept r (reachStep t selected b r) :=
  (takeStep_marksKept b r).trans (transferBand_marksKept t selected b _)

theorem reachSteps_marksKept (t : Tariff) (selected fuel : Nat) (r : SeatRecord) :
    MarksKept r (reachSteps t selected fuel r) := by
  induction fuel generalizing r with
  | zero => exact .refl r
  | succ fuel ih =>
    unfold reachSteps
    split
    · exact .refl r
    · split
      · exact .refl r
      · exact (reachStep_marksKept _ _ _ r).trans (ih _)

theorem progressSeat_marksKept (t : Tariff) (selected dp k : Nat) (r : SeatRecord) :
    MarksKept r (progressSeat t selected dp k r) := by
  unfold progressSeat
  split
  · exact .refl r
  · next b _ =>
    have gained : MarksKept r { r with progress := r.progress + sharedGain t b dp k } :=
      ⟨rfl, rfl, rfl, rfl, rfl, rfl, rfl⟩
    exact gained.trans (reachSteps_marksKept _ _ _ _)

/-- Every HIRED seat takes its counts and marks. -/
theorem accrueSeat_takes_marks (hired : r.state = .hired) (t : Tariff) (selected dp k : Nat)
    (held : Bool) : MarksKept (takeMarks t held dp k r) (accrueSeat t selected held dp k r) := by
  by_cases idle : held = true ∨ r.fresh = true
  · rw [accrueSeat_without_gain hired idle]
    exact .refl _
  · obtain ⟨running, metering⟩ := not_or.1 idle
    rw [Bool.not_eq_true] at running metering
    rw [running, accrueSeat_with_gain hired metering]
    exact progressSeat_marksKept _ _ _ _ _

/-- The riders' marks, where two or more ride (R73). -/
theorem takeMarks_pooled (several : 2 ≤ k) :
    (takeMarks t held dp k r).pooled = true ∧
      (takeMarks t held dp k r).maxRiders = max r.maxRiders k := by
  simp [takeMarks, markSeat, several]

/-- The HELD_DURING mark (R62). -/
theorem takeMarks_heldDuring :
    (takeMarks t held dp k r).heldDuring = true ↔ r.heldDuring = true ∨ held = true :=
  Bool.or_eq_true_iff

/-- Settles O27: an expiry leaves a seat what its accrual does (`intervalExpiryDelivers`), which are the marks
of every HIRED seat, and those alone while it is HELD or fresh. -/
theorem heldAndFreshSeatsGainNothing : Obligations.HeldAndFreshSeatsGainNothing := by
  intro s q quiet running
  obtain ⟨u, taken, -, -, -, -, -, -, -, -, accrued, -⟩ := intervalExpiryDelivers s quiet running
  have seat := accrued q
  refine ⟨u, taken, fun other => ?_, fun hired => ?_⟩
  · rw [seat, accrueSeat_of_not_hired other]
  · have marks := accrueSeat_takes_marks hired s.tariff s.band.selected s.motion.counter
      (riders s.seats) u.hold.held
    rw [← seat] at marks
    refine ⟨?_, marks.fresh, marks.intervals, ⟨marks.metres, marks.remainder⟩, ?_, fun several => ?_,
      fun idle => ?_⟩
    · rw [seat, accrueSeat_state, hired]
    · rw [marks.heldDuring, takeMarks_heldDuring]
    · rw [marks.pooled, marks.maxRiders]
      exact takeMarks_pooled several
    · rw [seat, accrueSeat_without_gain hired idle]
      exact ⟨rfl, rfl, rfl, rfl, rfl, rfl⟩

/-! ### The steps of a delivery at one band (R66 to R69) -/

theorem transferBand_same (h : r.activeBand = selected) : transferBand t selected b r = r :=
  if_pos h

theorem reachStep_same (h : r.activeBand = selected) : reachStep t selected b r = takeStep b r :=
  transferBand_same ((takeStep_taken b r).activeBand.trans h)

/-- What a number of steps at one band makes of the items that steps change. -/
structure StepsTaken (b : Band) (n : Nat) (r r' : SeatRecord) : Prop where
  progress : r.progress = b.size * n + r'.progress
  steps : r'.steps = if n = 0 then r.steps else min max24 (r.steps + n)
  freeLeft : r'.freeLeft = r.freeLeft - n
  fare : r'.fare = min maxFare (r.fare + b.amount * (n - r.freeLeft))
  activeBand : r'.activeBand = r.activeBand
  bandsUsed : r'.bandsUsed = r.bandsUsed

theorem StepsTaken.zero (within : r.fare ≤ maxFare) : StepsTaken b 0 r r where
  progress := by simp
  steps := rfl
  freeLeft := rfl
  fare := by simp [within]
  activeBand := rfl
  bandsUsed := rfl

/-- One step before the others: the free steps are used up first, and a fare once held stays held. -/
theorem StepsTaken.succ (reached : b.size ≤ r.progress) (rest : StepsTaken b n (takeStep b r) r') :
    StepsTaken b (n + 1) r r' := by
  have first := takeStep_taken b r
  constructor
  case progress =>
    have left := first.progress.symm.trans rest.progress
    rw [Nat.mul_succ]
    omega
  case steps =>
    rw [rest.steps, first.steps, if_neg n.succ_ne_zero]
    split <;> omega
  case freeLeft =>
    rw [rest.freeLeft, first.freeLeft]
    omega
  case fare =>
    rw [rest.fare, first.fare, first.freeLeft]
    split
    · next free => rw [show n - (r.freeLeft - 1) = n + 1 - r.freeLeft by omega]
    · next charged =>
      rw [show n - (r.freeLeft - 1) = n by omega, show n + 1 - r.freeLeft = n + 1 by omega, Nat.mul_succ]
      omega
  case activeBand => exact rest.activeBand.trans first.activeBand
  case bandsUsed => exact rest.bandsUsed.trans first.bandsUsed

/-- With fuel for the steps that bound it, a delivery without a transfer takes steps until the progress
is below S′. -/
theorem reachSteps_taken (fuel : Nat) (active : bandAt t r.activeBand = some b)
    (enough : r.progress < fuel * b.size) (within : r.fare ≤ maxFare) :
    (reachSteps t r.activeBand fuel r).progress < b.size ∧
      ∃ n, StepsTaken b n r (reachSteps t r.activeBand fuel r) := by
  generalize same : r.activeBand = selected
  induction fuel generalizing r with
  | zero => omega
  | succ fuel ih =>
    unfold reachSteps
    rw [active]
    dsimp only
    split
    · next below => exact ⟨below, 0, .zero within⟩
    · next reached =>
      have first := takeStep_taken b r
      have left : (takeStep b r).progress < fuel * b.size := by
        rw [first.progress]
        rw [Nat.succ_mul] at enough
        omega
      rw [reachStep_same same]
      obtain ⟨below, n, taken⟩ := ih (first.activeBand ▸ active) left
        ((countStep_metered b.amount _).fare within) (first.activeBand.trans same)
      exact ⟨below, n + 1, taken.succ (Nat.le_of_not_lt reached)⟩

theorem steps_are_quotient_by_step_size : Claims.StepsAreQuotientByStepSize := by
  intro t b dp k r active sized count shares below within q r'
  have gain : q < stepFuel * b.size := gain_within sized shares count below
  have gained : r' = reachSteps t r.activeBand stepFuel { r with progress := q } := by
    change progressSeat t r.activeBand dp k r = _
    rw [progressSeat, active]
    rfl
  obtain ⟨rest, n, taken⟩ := reachSteps_taken (r := { r with progress := q }) stepFuel active gain within
  rw [← gained] at rest taken
  obtain ⟨quotient, remainder⟩ : q / b.size = n ∧ q % b.size = r'.progress :=
    (Nat.div_mod_unique sized.size_pos).2 ⟨by rw [Nat.add_comm]; exact taken.progress.symm, rest⟩
  refine ⟨remainder.symm, ?_, ?_, ?_, taken.activeBand, taken.bandsUsed, ?_⟩
  · rw [quotient]; exact taken.steps
  · rw [quotient]; exact taken.freeLeft
  · rw [quotient]; exact taken.fare
  · exact Nat.le_of_lt_succ ((Nat.div_lt_iff_lt_mul sized.size_pos).2 gain)

/-! ### A transfer (R70) -/

theorem transferBand_to (target : bandAt t selected = some c) (other : r.activeBand ≠ selected) :
    transferBand t selected b r = { r with
      progress := r.progress * c.size / b.size, activeBand := selected,
      bandsUsed := useBand selected r.bandsUsed } := by
  simp [transferBand, other, target]

/-- A step with a transfer is the step taken at the old band, then rescaled. -/
theorem reachStep_to (target : bandAt t selected = some c) (other : r.activeBand ≠ selected) :
    reachStep t selected b r = { takeStep b r with
      progress := (r.progress - b.size) * c.size / b.size, activeBand := selected,
      bandsUsed := useBand selected r.bandsUsed } := by
  have first := takeStep_taken b r
  rw [reachStep_eq, transferBand_to target (first.activeBand ▸ other), first.progress, first.bandsUsed]

/-- The same fraction of the new band's step: less than a step stays less than a step. -/
theorem rescale_lt {progress old new : Nat} (pos : 0 < new) (h : progress < old) :
    progress * new / old < new := by
  rw [Nat.div_lt_iff_lt_mul (Nat.zero_lt_of_lt h), Nat.mul_comm]
  exact Nat.mul_lt_mul_of_pos_left h pos

theorem step_transfers_to_selected_band : Claims.StepTransfersToSelectedBand := by
  intro t selected b c r target other r'
  have whole : r' = _ := reachStep_to target other
  rw [whole]
  refine ⟨rfl, rfl, rfl, (takeStep_taken b r).steps, fun free => ?_, fun charged => ?_,
    fun pos below => rescale_lt pos below⟩
  · rw [takeStep_free free]
    exact ⟨rfl, rfl⟩
  · rw [takeStep_charged charged]
    refine ⟨charged, fun within => ?_, fun above => ⟨Nat.min_eq_left above.le, if_pos above⟩⟩
    exact ⟨Nat.min_eq_right within, if_neg (Nat.not_lt.2 within)⟩

/-- Settles O28: the steps are counted one by one until Q is below S′, which is the quotient and remainder, and
a transfer rewrites the record after the step. -/
theorem stepsAndTransfersOfDelivery : Obligations.StepsAndTransfersOfDelivery :=
  ⟨steps_are_quotient_by_step_size, step_transfers_to_selected_band⟩

end Sys2Proof.Machine

/-! PROOFS. Charges, seats and payers in accord: the laws of the running part, and what each change of a payer, a seat
or a charge leaves of them (R78, R79, R81, R90 to R93, R96). -/

namespace Sys2Proof.Machine

-- One theorem at a time: the memory limit of the check counts the stack of every thread.
set_option Elab.async false

variable {s t u v : State} {q : Seat} {i : Fin 8} {p : Payer}

/-! ### The laws of the running part -/

/-- A seat is PAYING exactly while a charge names it, its slot holds the tag then, and no reader carries two
charges (R96). -/
structure ChargesAccord (s : State) : Prop where
  paying : ∀ q, (s.seat q).state = .paying ↔ (s.charges.get q).isSome = true
  slot : ∀ q, (s.charges.get q).isSome = true ↔ (s.tags.slots.get q).isSome = true
  readers : ∀ q p e f, q ≠ p → s.tags.slots.get q = some e → s.tags.slots.get p = some f →
    e.reader ≠ f.reader

/-- A payer stands behind a seat's charge: CHARGING for it, in a scope that serves it, by a card at the reader
that its slot names (R81, R90). -/
def StandsBehind (slots : PerSeat (Option Tag)) (q : Seat) (p : Payer) : Prop :=
  p.charging = some q ∧ (p.scope = .seat q ∨ p.scope = .party) ∧
    ∃ e ref, slots.get q = some e ∧ p.kind = .card e.reader ref

/-- Every charge has its payer at its index, and every CHARGING payer its charge (R90, R96). -/
structure PayersAccord (s : State) : Prop where
  backed : ∀ q c, s.charges.get q = some c →
    ∃ p, s.payers.get c.index = some p ∧ StandsBehind s.tags.slots q p
  charged : ∀ i p q, s.payers.get i = some p → p.charging = some q →
    ∃ c, s.charges.get q = some c ∧ c.index = i

theorem chargeLaw_iff (s : State) :
    ChargeLaw s ↔ StartLaw s ∧ (s.start.loaded = true → ChargesAccord s) :=
  and_congr_right fun _ => imp_congr_right fun _ =>
    ⟨fun ⟨paying, slot, readers⟩ => ⟨paying, slot, readers⟩,
      fun ⟨paying, slot, readers⟩ => ⟨paying, slot, readers⟩⟩

theorem backedLaw_iff (s : State) :
    BackedLaw s ↔ ChargeLaw s ∧ (s.start.loaded = true → PayersAccord s) :=
  and_congr_right fun _ => imp_congr_right fun _ =>
    ⟨fun ⟨backed, charged⟩ => ⟨backed, charged⟩, fun ⟨backed, charged⟩ => ⟨backed, charged⟩⟩

/-- `t` follows from `s` by a change that is no start, no stop and no load completion: charges, seats and
payers that were in accord are so again. -/
structure Accords (s t : State) : Prop where
  start : t.start = s.start
  charges : ChargesAccord s → ChargesAccord t
  backed : ChargesAccord s → PayersAccord s → PayersAccord t
  payers : PayerLaw s → PayerLaw t

theorem Accords.refl (s : State) : Accords s s := ⟨rfl, id, fun _ => id, id⟩

theorem Accords.trans (h : Accords s t) (k : Accords t u) : Accords s u where
  start := k.start.trans h.start
  charges := k.charges ∘ h.charges
  backed law backed := k.backed (h.charges law) (h.backed law backed)
  payers := k.payers ∘ h.payers

theorem Accords.ite {c : Prop} [Decidable c] (h : Accords s t) (k : Accords s u) :
    Accords s (if c then t else u) := by
  split <;> assumption

theorem foldl_accords {α : Type} {f : State → α → State} (h : ∀ u a, Accords u (f u a)) (l : List α)
    (s : State) : Accords s (l.foldl f s) := by
  induction l generalizing s with
  | nil => exact .refl s
  | cons a l ih => exact (h s a).trans (ih _)

/-! ### Scopes and their passengers (R78, R82) -/

/-- A scope has someone to pay for exactly if a seat that it serves is occupied. -/
theorem scopeOccupied_iff (v : PerSeat SeatRecord) (sc : Scope) :
    scopeOccupied v sc = true ↔ ∃ q, (sc = .seat q ∨ sc = .party) ∧ (v.get q).state ≠ .vacant := by
  cases sc with
  | seat q => simp [scopeOccupied, SeatRecord.vacant]
  | party => simp [scopeOccupied, ← Bool.not_eq_true, allVacant_iff]

/-- While no occupied seat becomes VACANT, a scope keeps someone to pay for. -/
theorem scopeOccupied_of_kept {v w : PerSeat SeatRecord} {sc : Scope}
    (kept : ∀ q, (v.get q).state ≠ .vacant → (w.get q).state ≠ .vacant) (h : scopeOccupied v sc = true) :
    scopeOccupied w sc = true := by
  obtain ⟨q, serves, occupied⟩ := (scopeOccupied_iff v sc).1 h
  exact (scopeOccupied_iff w sc).2 ⟨q, serves, kept q occupied⟩

/-- The payer that serves a seat has the seat's scope or the party's (R80). -/
theorem resolve_some (h : resolve s.payers q = some i) :
    ∃ p, s.payers.get i = some p ∧ (p.scope = .seat q ∨ p.scope = .party) := by
  unfold resolve at h
  split at h
  · next own =>
    cases h
    obtain ⟨p, payer, scope⟩ := findScope_some own
    exact ⟨p, payer, .inl scope⟩
  · obtain ⟨p, payer, scope⟩ := findScope_some h
    exact ⟨p, payer, .inr scope⟩

/-! ### Changes of the payer map -/

/-- Every payer of `n` stands at its index in `m`, in the same scope, and is not spent to its limit if it was
not. -/
def Lowers (m n : PayerMap) : Prop :=
  ∀ i r, n.get i = some r →
    ∃ p, m.get i = some p ∧ p.scope = r.scope ∧ (p.spent < p.limit → r.spent < r.limit)

theorem Lowers.refl (m : PayerMap) : Lowers m m := fun _ r h => ⟨r, h, rfl, id⟩

theorem Lowers.trans {m n o : PayerMap} (h : Lowers m n) (k : Lowers n o) : Lowers m o := by
  intro i r found
  obtain ⟨p, payer, scope, unspent⟩ := k i r found
  obtain ⟨p', payer', scope', unspent'⟩ := h i p payer
  exact ⟨p', payer', scope'.trans scope, unspent ∘ unspent'⟩

/-- A payer replaced by one of its scope that is within its limit, or removed. -/
theorem Lowers.set {m : PayerMap} {o : Option Payer} (payer : m.get i = some p)
    (h : ∀ r, o = some r → r.scope = p.scope ∧ (p.spent < p.limit → r.spent < r.limit)) :
    Lowers m (m.set i o) := by
  intro j r found
  rw [PerIndex.get_set] at found
  split at found
  · next same =>
    obtain ⟨scope, unspent⟩ := h r found
    exact ⟨p, same ▸ payer, scope.symm, unspent⟩
  · exact ⟨r, found, rfl, id⟩

theorem Lowers.set_none (m : PayerMap) (i : Fin 8) : Lowers m (m.set i none) := by
  intro j r found
  rw [PerIndex.get_set] at found
  split at found
  · cases found
  · exact ⟨r, found, rfl, id⟩

/-- A payer that its spending leaves on the map is within its limit (R93). -/
theorem keepUnlessSpent_some {r : Payer} (h : keepUnlessSpent p = some r) : r = p ∧ p.spent < p.limit := by
  unfold keepUnlessSpent Payer.remaining at h
  split at h
  · cases h
  · cases h
    exact ⟨rfl, by omega⟩

/-- No payer stands here that is CHARGING. -/
def IdleAt (o : Option Payer) : Prop := ∀ p, o = some p → p.charging = none

/-- Nothing changes but IDLE payers, which stay IDLE. -/
def IdleChange (m n : PayerMap) : Prop := ∀ i, n.get i = m.get i ∨ IdleAt (m.get i) ∧ IdleAt (n.get i)

theorem IdleChange.refl (m : PayerMap) : IdleChange m m := fun _ => .inl rfl

theorem IdleChange.set {m : PayerMap} {o : Option Payer} (before : IdleAt (m.get i)) (after : IdleAt o) :
    IdleChange m (m.set i o) := by
  intro j
  rw [PerIndex.get_set]
  split
  · next same => exact .inr ⟨same ▸ before, after⟩
  · exact .inl rfl

theorem idleAt_none : IdleAt none := fun _ h => nomatch h

theorem idleAt_some (idle : p.charging = none) : IdleAt (some p) := fun _ h => by cases h; exact idle

theorem PayersAccord.of_idle (h : PayersAccord s) (charges : t.charges = s.charges)
    (slots : t.tags.slots = s.tags.slots) (idle : IdleChange s.payers t.payers) : PayersAccord t where
  backed q c charge := by
    rw [charges] at charge
    obtain ⟨p, payer, behind⟩ := h.backed q c charge
    rcases idle c.index with same | ⟨before, -⟩
    · exact ⟨p, same.trans payer, slots ▸ behind⟩
    · exact absurd (before p payer) (by rw [behind.1]; nofun)
  charged i p q payer charging := by
    rw [charges]
    rcases idle i with same | ⟨-, after⟩
    · exact h.charged i p q (same ▸ payer) charging
    · exact absurd (after p payer) (by rw [charging]; nofun)

theorem PayerLaw.of_lowers (h : PayerLaw s) (low : Lowers s.payers t.payers)
    (occupied : ∀ i r, t.payers.get i = some r → scopeOccupied s.seats r.scope = true →
      scopeOccupied t.seats r.scope = true) : PayerLaw t := by
  intro i r payer
  obtain ⟨p, before, scope, unspent⟩ := low i r payer
  obtain ⟨within, passenger, unique⟩ := h i p before
  refine ⟨unspent within, occupied i r payer (scope ▸ passenger), fun j r' payer' same => ?_⟩
  obtain ⟨p', before', scope', -⟩ := low j r' payer'
  exact unique j p' before' (scope.trans (same.trans scope'.symm))

/-- A change that adds no payer, and keeps the payer map's law. -/
structure PayersKept (s t : State) : Prop where
  low : Lowers s.payers t.payers
  law : PayerLaw s → PayerLaw t

theorem PayersKept.refl (s : State) : PayersKept s s := ⟨.refl _, id⟩

theorem PayersKept.trans (h : PayersKept s t) (k : PayersKept t u) : PayersKept s u :=
  ⟨h.low.trans k.low, k.law ∘ h.law⟩

theorem PayersKept.ite {c : Prop} [Decidable c] (h : PayersKept s t) (k : PayersKept s u) :
    PayersKept s (if c then t else u) := by
  split <;> assumption

/-- Payers that go or are spent, while no occupied seat becomes VACANT. -/
theorem PayersKept.of_lowers (low : Lowers s.payers t.payers)
    (kept : ∀ q, (s.seat q).state ≠ .vacant → (t.seat q).state ≠ .vacant) : PayersKept s t :=
  ⟨low, fun h => h.of_lowers low fun _ _ _ => scopeOccupied_of_kept kept⟩

theorem Frame.payersKept {ps : List Part} (h : Frame ps s t) (seats : Part.seats ∉ ps := by decide)
    (payers : Part.payers ∉ ps := by decide) : PayersKept s t := by
  have sameSeats : t.seats = s.seats := h .seats seats
  have samePayers : t.payers = s.payers := h .payers payers
  refine .of_lowers (samePayers ▸ .refl _) fun q => ?_
  rw [State.seat, State.seat, sameSeats]
  exact id

/-! ### Changes that leave the charges and their slots -/

/-- Nothing that the laws speak of changes. -/
theorem Accords.of_eq (start : t.start = s.start) (state : ∀ q, (t.seat q).state = (s.seat q).state)
    (charges : t.charges = s.charges) (slots : t.tags.slots = s.tags.slots)
    (payers : t.payers = s.payers) : Accords s t where
  start := start
  charges h := ⟨fun q => by rw [state, charges]; exact h.paying q,
    fun q => by rw [charges, slots]; exact h.slot q, by rw [slots]; exact h.readers⟩
  backed _ h := h.of_idle charges slots (payers ▸ .refl _)
  payers := (PayersKept.of_lowers (payers ▸ .refl _) fun q => by rw [state]; exact id).law

/-- The parts that hold no seat, tag, charge or payer, and not the start. -/
def apartParts : List Part :=
  [.pins, .marker, .clock, .tamper, .hold, .accounts, .tariff, .band, .motion, .intercom, .sign, .monitor,
    .display, .line, .draws]

theorem Frame.accords {ps : List Part} (h : Frame ps s t) (sub : ps ⊆ apartParts := by decide) :
    Accords s t := by
  have same : ∀ p, p ∉ apartParts → SamePart s t p := fun p out => h p fun m => out (sub m)
  have seats : t.seats = s.seats := same .seats (by decide)
  have tags : t.tags = s.tags := same .tags (by decide)
  exact .of_eq (same .start (by decide)) (fun q => by rw [State.seat, State.seat, seats])
    (same .charges (by decide)) (by rw [tags]) (same .payers (by decide))

theorem QueueOnly.accords (h : QueueOnly s t) : Accords s t := h.frame.accords

/-- The records change, and no seat's state. -/
theorem setSeats_accords {v : PerSeat SeatRecord} (h : ∀ q, (v.get q).state = (s.seat q).state) :
    Accords s (s.setSeats v) := .of_eq rfl h rfl rfl rfl

theorem setSeat_accords {r : SeatRecord} (h : r.state = (s.seat q).state) : Accords s (s.setSeat q r) := by
  refine setSeats_accords fun x => ?_
  rw [PerSeat.get_set]
  split
  · next same => rw [h, same]
  · rfl

/-- The late list and the counter change, and no slot. -/
theorem setTags_accords {v : Tags} (h : v.slots = s.tags.slots) : Accords s (s.setTags v) :=
  .of_eq rfl (fun _ => rfl) rfl h rfl

/-- IDLE payers go or are spent. -/
theorem setPayers_accords {m : PayerMap} (low : Lowers s.payers m) (idle : IdleChange s.payers m) :
    Accords s (s.setPayers m) where
  start := rfl
  charges h := ⟨h.paying, h.slot, h.readers⟩
  backed _ h := h.of_idle rfl rfl idle
  payers := (PayersKept.of_lowers (t := s.setPayers m) low fun _ => id).law

/-- A payer IDLE and within its limit is installed for a scope that has none (R78, R79, R82, R85). -/
theorem install_accords {sc : Scope} {limit : Nat} (free : s.payers.get i = none)
    (occupied : scopeOccupied s.seats sc = true) (new : findScope s.payers sc = none) (pos : 0 < limit)
    (kind : PayerKind) (tips : Bool) :
    Accords s (setPayer i (some (newPayer kind sc limit tips)) s) where
  start := rfl
  charges h := ⟨h.paying, h.slot, h.readers⟩
  backed _ h := h.of_idle rfl rfl (IdleChange.set (by rw [free]; exact idleAt_none) (idleAt_some rfl))
  payers h := by
    have others : ∀ {j r}, s.payers.get j = some r → r.scope ≠ sc := fun found =>
      findScope_eq_none.1 new _ _ found
    have found_cases : ∀ {j r}, (s.payers.set i (some (newPayer kind sc limit tips))).get j = some r →
        (j = i ∧ r = newPayer kind sc limit tips) ∨ s.payers.get j = some r := fun {j r} found => by
      rw [PerIndex.get_set] at found
      split at found
      · next same => exact .inl ⟨same, (Option.some.inj found).symm⟩
      · exact .inr found
    intro j r found
    rcases found_cases found with ⟨rfl, rfl⟩ | old
    · refine ⟨pos, occupied, fun k r' found' same => ?_⟩
      rcases found_cases found' with ⟨rfl, -⟩ | old'
      · rfl
      · exact absurd same.symm (others old')
    · obtain ⟨within, passenger, unique⟩ := h j r old
      refine ⟨within, passenger, fun k r' found' same => ?_⟩
      rcases found_cases found' with ⟨-, rfl⟩ | old'
      · exact absurd same (others old)
      · exact unique k r' old' same

/-! ### A seat's change and a close (R40, R52, R91) -/

/-- The records and the blocks beside the charges after a seat's record is written. -/
structure SeatTurned (s t : State) (q : Seat) (r : SeatRecord) : Prop where
  start : t.start = s.start
  seats : t.seats = s.seats.set q r
  charges : t.charges = s.charges
  slots : t.tags.slots = s.tags.slots

theorem SeatTurned.seat {r : SeatRecord} (h : SeatTurned s t q r) (x : Seat) :
    t.seat x = if x = q then r else s.seat x := by
  rw [State.seat, h.seats, PerSeat.get_set, State.seat]

/-- A seat that is not PAYING stays so. -/
theorem SeatTurned.chargesAccord {r : SeatRecord} (h : SeatTurned s t q r)
    (before : (s.seat q).state ≠ .paying) (after : r.state ≠ .paying) (law : ChargesAccord s) :
    ChargesAccord t where
  paying x := by
    rw [h.seat, h.charges, ← law.paying x]
    split
    · next same => rw [same]; exact iff_of_false after before
    · rfl
  slot x := by rw [h.charges, h.slots]; exact law.slot x
  readers := by rw [h.slots]; exact law.readers

theorem changeSeat_turned (q : Seat) (r : SeatRecord) (s : State) : SeatTurned s (changeSeat q r s) q r where
  start := (changeSeat_fare q r s).start
  seats := changeSeat_seats q r s
  charges := changeSeat_charges q r s
  slots := congrArg Tags.slots (show (changeSeat q r s).tags = s.tags from
    changeSeat_frame q r s .tags (by decide))

theorem changeSeat_payersKept {r : SeatRecord} (kept : (s.seat q).state ≠ .vacant → r.state ≠ .vacant) :
    PayersKept s (changeSeat q r s) := by
  refine .of_lowers (changeSeat_payers q r s ▸ .refl _) fun x => ?_
  rw [(changeSeat_turned q r s).seat]
  split
  · next same => exact same ▸ kept
  · exact id

/-- A seat hired, stopped, resumed or credited. -/
theorem changeSeat_accords {r : SeatRecord} (before : (s.seat q).state ≠ .paying)
    (after : r.state ≠ .paying) (occupied : r.state ≠ .vacant) : Accords s (changeSeat q r s) where
  start := (changeSeat_turned q r s).start
  charges := (changeSeat_turned q r s).chargesAccord before after
  backed _ law := law.of_idle (changeSeat_charges q r s) (changeSeat_turned q r s).slots
    (changeSeat_payers q r s ▸ .refl _)
  payers := (changeSeat_payersKept fun _ => occupied).law

theorem removeScope_lowers (sc : Scope) (s : State) : Lowers s.payers (removeScope sc s).payers := by
  unfold removeScope
  split
  · exact .set_none _ _
  · exact .refl _

theorem removeScope_idleChange {sc : Scope}
    (idle : ∀ i p, s.payers.get i = some p → p.scope = sc → p.charging = none) :
    IdleChange s.payers (removeScope sc s).payers := by
  unfold removeScope
  split
  · next found =>
    obtain ⟨r, payer, scope⟩ := findScope_some found
    exact .set (payer ▸ idleAt_some (idle _ r payer scope)) idleAt_none
  · exact .refl _

end Sys2Proof.Machine

/-! PROOFS. A close, a settlement and a charge start keep charges, seats and payers in accord (R52, R90 to R93, R98 to
R103). -/

namespace Sys2Proof.Machine

-- One theorem at a time: the memory limit of the check counts the stack of every thread.
set_option Elab.async false

variable {s t u v : State} {q : Seat} {i : Fin 8} {p : Payer}

theorem IdleChange.trans {l m n : PayerMap} (h : IdleChange l m) (k : IdleChange m n) : IdleChange l n := by
  intro i
  rcases h i with same | ⟨before, after⟩ <;> rcases k i with same' | ⟨before', after'⟩
  · exact .inl (same'.trans same)
  · exact .inr ⟨same ▸ before', after'⟩
  · exact .inr ⟨before, same' ▸ after⟩
  · exact .inr ⟨before, after'⟩

theorem payersAtClose_lowers (q : Seat) (others : Bool) (s : State) :
    Lowers s.payers (payersAtClose q others s).payers := by
  have own := removeScope_lowers (.seat q) s
  cases others with
  | true => exact own
  | false => exact own.trans (removeScope_lowers .party _)

theorem PayerLaw.oneEach (h : PayerLaw s) : OneEach s.payers :=
  fun i j p r payer other => (h i p payer).2.2 j r other

theorem closeSeat_turned (q : Seat) (e : TripEnd) (s : State) :
    SeatTurned s (closeSeat q e s) q vacantSeat where
  start := (closeSeat_fare q e s).start
  seats := closeSeat_seats q e s
  charges := closeSeat_frame q e s .charges (by decide)
  slots := congrArg Tags.slots (show (closeSeat q e s).tags = s.tags from
    closeSeat_frame q e s .tags (by decide))

/-- The payers that a close leaves keep someone to pay for (R91). -/
theorem closeSeat_payersKept (q : Seat) (e : TripEnd) (s : State) : PayersKept s (closeSeat q e s) := by
  have payers := closeSeat_payers q e s
  have low := payers ▸ payersAtClose_lowers q (othersOccupied s.seats q) s
  refine ⟨low, fun h => h.of_lowers low fun i r payer => ?_⟩
  have left := payersAtClose_left q (othersOccupied s.seats q) h.oneEach
  rw [← payers] at left
  simp only [scopeOccupied_iff]
  rintro ⟨x, serves, occupied⟩
  have turned := (closeSeat_turned q e s).seat
  rcases serves with seat | party
  · have apart : x ≠ q := fun same => findScope_eq_none.1 left.gone i r payer (same ▸ seat)
    refine ⟨x, .inl seat, ?_⟩
    change ((closeSeat q e s).seat x).state ≠ _
    rw [turned, if_neg apart]
    exact occupied
  · have others : othersOccupied s.seats q = true := by
      rw [← Bool.not_eq_false]
      exact fun lone => findScope_eq_none.1 (left.party lone) i r payer party
    obtain ⟨y, apart, occupied⟩ := (othersOccupied_iff _ _).1 others
    refine ⟨y, .inr party, ?_⟩
    change ((closeSeat q e s).seat y).state ≠ _
    rw [turned, if_neg apart]
    exact occupied

/-- A CHARGING payer has a scope that serves its PAYING seat (R81, R96). -/
theorem PayersAccord.charging_serves (charges : ChargesAccord s) (h : PayersAccord s) {x : Seat}
    (payer : s.payers.get i = some p) (charging : p.charging = some x) :
    (s.seat x).state = .paying ∧ (p.scope = .seat x ∨ p.scope = .party) := by
  obtain ⟨c, charge, rfl⟩ := h.charged i p x payer charging
  obtain ⟨r, backing, -, serves, -⟩ := h.backed x c charge
  rw [payer] at backing
  cases backing
  exact ⟨(charges.paying x).2 (by rw [charge]; rfl), serves⟩

/-- A close that leaves no charge takes only IDLE payers (R81, R91). -/
theorem payersAtClose_idleChange (free : (s.seat q).state ≠ .paying) (charges : ChargesAccord s)
    (h : PayersAccord s) : IdleChange s.payers (payersAtClose q (othersOccupied s.seats q) s).payers := by
  have idle : ∀ {i p}, s.payers.get i = some p → (∀ x, p.charging = some x →
      (s.seat x).state = .paying → (p.scope = .seat x ∨ p.scope = .party) → False) → p.charging = none := by
    intro i p payer apart
    refine Option.eq_none_iff_forall_ne_some.2 fun x charging => ?_
    obtain ⟨paying, serves⟩ := h.charging_serves charges payer charging
    exact apart x charging paying serves
  have own : IdleChange s.payers (removeScope (.seat q) s).payers :=
    removeScope_idleChange fun i p payer scope => idle payer fun x _ paying serves => by
      rw [scope] at serves
      obtain rfl := Scope.seat.inj (serves.resolve_right nofun)
      exact free paying
  unfold payersAtClose
  split
  · exact own
  · next lone =>
    refine own.trans (removeScope_idleChange fun i p payer _ => ?_)
    obtain ⟨p', before, -⟩ := removeScope_lowers (.seat q) s i p payer
    rcases own i with same | ⟨-, after⟩
    · refine idle (same ▸ payer) fun x _ paying _ => lone ((othersOccupied_iff _ _).2 ⟨x, ?_, ?_⟩)
      · rintro rfl
        exact free paying
      · change (s.seat x).state ≠ _
        rw [paying]
        decide
    · exact after p payer

theorem closeSeat_accords (e : TripEnd) (free : (s.seat q).state ≠ .paying) :
    Accords s (closeSeat q e s) where
  start := (closeSeat_turned q e s).start
  charges := (closeSeat_turned q e s).chargesAccord free (by decide)
  backed charges law := law.of_idle (closeSeat_turned q e s).charges (closeSeat_turned q e s).slots
    (closeSeat_payers q e s ▸ payersAtClose_idleChange free charges law)
  payers := (closeSeat_payersKept q e s).law

theorem closeIfPaid_payersKept (q : Seat) (s : State) : PayersKept s (closeIfPaid q s) :=
  .ite (closeSeat_payersKept q _ s) (.refl s)

theorem closeIfPaid_accords (q : Seat) (s : State) : Accords s (closeIfPaid q s) := by
  unfold closeIfPaid
  split
  · next paid => exact closeSeat_accords _ (by rw [paid.1]; decide)
  · exact .refl s

/-! ### The pass (R98 to R103) -/

/-- What an account settles leaves it IDLE, or takes it off the map (R90, R93). -/
theorem settlePayer_accords (n : Nat) : Accords s (settlePayer i n s) := by
  unfold settlePayer
  split
  · next p payer =>
    split
    · next idle =>
      refine setPayers_accords (.set payer fun r kept => ?_) (.set (payer ▸ idleAt_some idle) fun r kept => ?_)
      · obtain ⟨rfl, within⟩ := keepUnlessSpent_some kept
        exact ⟨rfl, fun _ => within⟩
      · rw [(keepUnlessSpent_some kept).1]
        exact idle
    · exact .refl s
  · exact .refl s

theorem creditAccount_accords (q : Seat) (pay : Payment) (s : State) : Accords s (creditAccount q pay s) :=
  .ite ((setSeat_accords (q := q) (r := addPayment pay (s.seat q)) rfl).trans (closeIfPaid_accords q _))
    (.refl s)

theorem settle_accords (id : Nat) : Accords s (settle q i p id s) :=
  (settlePayer_accords _).trans (creditAccount_accords q _ _)

theorem examine_chargeable (h : examine s q = some (i, p)) :
    Chargeable s q i p ∧ readerReady s p = true := by
  obtain ⟨due, owing, room, resolved, payer, idle, unspent, ready⟩ := examine_some h
  exact ⟨⟨due, owing, room, resolved, payer, idle, Nat.lt_of_sub_pos unspent⟩, ready⟩

/-- A reader that is ready carries no charge (R99). -/
theorem slot_of_readerReady {reader ref : Nat} (kind : p.kind = .card reader ref)
    (ready : readerReady s p = true) {x : Seat} {e : Tag} (slot : s.tags.slots.get x = some e) :
    e.reader ≠ reader := by
  intro same
  have busy : readerBusy s.tags reader = true := by
    rw [readerBusy, PerSeat.any_iff]
    exact ⟨x, by rw [slot, Option.any_some, decide_eq_true same]⟩
  unfold readerReady at ready
  rw [kind] at ready
  dsimp only at ready
  rw [busy] at ready
  simp at ready

theorem PerSeat.isSome_set {α : Type} (v : PerSeat (Option α)) (q x : Seat) (a : α) :
    ((v.set q (some a)).get x).isSome = true ↔ x = q ∨ (v.get x).isSome = true := by
  rw [PerSeat.get_set]
  split
  · next same => simp [same]
  · next apart => simp [apart]

/-- A charge that starts joins its seat, its slot and its reader (R96, R102). -/
theorem Started.chargesAccord {reader ref : Nat} (h : Started s t q i p reader)
    (kind : p.kind = .card reader ref) (ready : readerReady s p = true) (law : ChargesAccord s) :
    ChargesAccord t where
  paying x := by
    rw [h.charges, PerSeat.isSome_set, ← law.paying x, State.seat, h.seats, PerSeat.get_set]
    split
    · next same => exact iff_of_true rfl (.inl same)
    · next apart => exact (or_iff_right apart).symm
  slot x := by
    rw [h.charges, h.tags, PerSeat.isSome_set, PerSeat.isSome_set, law.slot x]
  readers x y e f apart slot slot' := by
    have old : ∀ {z : Seat} {g : Tag}, s.tags.slots.get z = some g → g.reader ≠ reader :=
      slot_of_readerReady kind ready
    rw [h.tags, PerSeat.get_set] at slot slot'
    split at slot <;> split at slot'
    · next one two => exact absurd (one.trans two.symm) apart
    · cases slot; exact (old slot').symm
    · cases slot'; exact old slot
    · exact law.readers x y e f apart slot slot'

/-- The payer of a charge that starts stands behind it (R81, R90, R102). -/
theorem Started.payersAccord {reader ref : Nat} (h : Started s t q i p reader)
    (chargeable : Chargeable s q i p) (kind : p.kind = .card reader ref) (charges : ChargesAccord s)
    (law : PayersAccord s) : PayersAccord t where
  backed x c charge := by
    rw [h.charges, PerSeat.get_set] at charge
    rw [h.payers, h.tags]
    unfold StandsBehind
    split at charge
    · next same =>
      subst same
      cases charge
      obtain ⟨r, payer, serves⟩ := resolve_some chargeable.resolved
      rw [chargeable.payer] at payer
      cases payer
      exact ⟨_, PerIndex.get_set_self _ _ _, rfl, serves, _, ref, PerSeat.get_set_self _ _ _, kind⟩
    · next apart =>
      obtain ⟨r, payer, charging, serves, e, ref', slot, card⟩ := law.backed x c charge
      have other : c.index ≠ i := fun same => by
        rw [same, chargeable.payer] at payer
        cases payer
        rw [chargeable.idle] at charging
        cases charging
      refine ⟨r, ?_, charging, serves, e, ref', ?_, card⟩
      · rw [PerIndex.get_set, if_neg other, payer]
      · exact (PerSeat.get_set_of_ne _ _ apart).trans slot
  charged j r x payer charging := by
    rw [h.payers, PerIndex.get_set] at payer
    rw [h.charges]
    split at payer
    · next same =>
      cases payer
      cases charging
      exact ⟨_, PerSeat.get_set_self _ _ _, same.symm⟩
    · obtain ⟨c, charge, index⟩ := law.charged j r x payer charging
      have apart : x ≠ q := fun same => by
        have paying := (charges.paying x).2 (by rw [charge]; rfl)
        rw [same, chargeable.due] at paying
        cases paying
      exact ⟨c, (PerSeat.get_set_of_ne _ _ apart).trans charge, index⟩

theorem startCharge_accords {reader ref : Nat} (found : examine s q = some (i, p))
    (kind : p.kind = .card reader ref) : Accords s (startCharge q i p reader s) := by
  obtain ⟨chargeable, ready⟩ := examine_chargeable found
  have started := startCharge_started chargeable kind ready
  refine ⟨(startCharge_fare q i p reader s).start, started.chargesAccord kind ready,
    started.payersAccord chargeable kind, (PayersKept.of_lowers ?_ fun x => ?_).law⟩
  · rw [started.payers]
    exact .set chargeable.payer fun r kept => by cases kept; exact ⟨rfl, id⟩
  · rw [State.seat, State.seat, started.seats, PerSeat.get_set]
    split
    · exact fun _ => nofun
    · exact id

theorem passSeat_accords (q : Seat) (fuel : Nat) (s : State) : Accords s (passSeat q fuel s) := by
  induction fuel generalizing s with
  | zero => exact .refl s
  | succ n ih =>
    unfold passSeat
    split
    · exact .refl s
    · next found =>
      split
      · next kind => exact startCharge_accords found kind
      · exact (settle_accords _).trans (ih _)

theorem chargePass_accords (s : State) : Accords s (chargePass s) :=
  foldl_accords (fun u q => passSeat_accords q passFuel u) allSeats s

theorem passCompare_accords (s : State) : Accords s (compareDisplays (chargePass s)) :=
  (chargePass_accords s).trans (compareDisplays_only _).accords

theorem passAndCompare_accords (s : State) : Accords s (passAndCompare s) :=
  (chargePass_accords s).trans (compareIfChanged_only _ _).accords

end Sys2Proof.Machine

/-! PROOFS. A charge that ends, by a result or without one, keeps charges, seats and payers in accord (R92, R104 to
R114). -/

namespace Sys2Proof.Machine

-- One theorem at a time: the memory limit of the check counts the stack of every thread.
set_option Elab.async false

variable {s t u v : State} {q : Seat} {i : Fin 8} {p : Payer}

/-! ### Charges that end (R92, R93, R104 to R114) -/

/-- A seat's charge and its slot taken back; seats and payers stand. -/
structure ChargeTaken (s w : State) (q : Seat) : Prop where
  start : w.start = s.start
  seats : w.seats = s.seats
  payers : w.payers = s.payers
  charges : w.charges = s.charges.set q none
  slots : w.tags.slots = s.tags.slots.set q none

theorem setCharge_taken (q : Seat) (s : State) : ChargeTaken s (setCharge q none none s) q :=
  ⟨rfl, rfl, rfl, rfl, rfl⟩

theorem ChargeTaken.queue {w : State} (h : ChargeTaken s w q) (k : QueueOnly w t) : ChargeTaken s t q :=
  ⟨k.start.trans h.start, k.seats.trans h.seats, k.payers.trans h.payers, k.charges.trans h.charges,
    (congrArg Tags.slots k.tags).trans h.slots⟩

/-- A seat's charge taken back, and the payer at the charge's index no longer CHARGING. -/
structure ChargeEnded (s w : State) (q : Seat) (i : Fin 8) : Prop where
  start : w.start = s.start
  seats : w.seats = s.seats
  charges : w.charges = s.charges.set q none
  slots : w.tags.slots = s.tags.slots.set q none
  low : Lowers s.payers w.payers
  idle : IdleAt (w.payers.get i)
  others : ∀ j, j ≠ i → w.payers.get j = s.payers.get j

/-- The payer at the index after an end of charge: gone, or IDLE; in no case raised. -/
theorem endCharge_payers (i : Fin 8) (n : Nat) (full : Bool) (s : State) :
    Lowers s.payers (endCharge i n full s).payers ∧ IdleAt ((endCharge i n full s).payers.get i) ∧
      ∀ j, j ≠ i → (endCharge i n full s).payers.get j = s.payers.get j := by
  unfold endCharge
  split
  · next p payer =>
    split
    · refine ⟨.set payer fun r kept => ?_, ?_, fun j apart => ?_⟩
      · split at kept
        · obtain ⟨rfl, within⟩ := keepUnlessSpent_some kept
          exact ⟨rfl, fun _ => within⟩
        · cases kept
      · change IdleAt ((s.payers.set i _).get i)
        rw [PerIndex.get_set_self]
        intro r kept
        split at kept
        · rw [(keepUnlessSpent_some kept).1]
        · cases kept
      · exact (PerIndex.get_set _ _ _ _).trans (if_neg apart)
    · next idle =>
      refine ⟨.refl _, ?_, fun _ _ => rfl⟩
      rw [payer]
      exact idleAt_some (by simpa using idle)
  · next free => exact ⟨.refl _, free ▸ idleAt_none, fun _ _ => rfl⟩

theorem ChargeTaken.ended {w : State} (h : ChargeTaken s w q) (i : Fin 8) (n : Nat) (full : Bool) :
    ChargeEnded s (endCharge i n full w) q i := by
  have frame := endCharge_frame i n full w
  have tags : (endCharge i n full w).tags = w.tags := frame .tags (by decide)
  obtain ⟨low, idle, others⟩ := endCharge_payers i n full w
  rw [h.payers] at low others
  exact ⟨(frame .start (by decide)).trans h.start, (frame .seats (by decide)).trans h.seats,
    (frame .charges (by decide)).trans h.charges, (congrArg Tags.slots tags).trans h.slots, low, idle, others⟩

theorem PerSeat.isSome_set_none {α : Type} (v : PerSeat (Option α)) (q x : Seat) :
    ((v.set q none).get x).isSome = true ↔ x ≠ q ∧ (v.get x).isSome = true := by
  rw [PerSeat.get_set]
  split
  · next same => simp [same]
  · next apart => simp [apart]

theorem PerSeat.set_none_some {α : Type} {v : PerSeat (Option α)} {q x : Seat} {a : α}
    (h : (v.set q none).get x = some a) : x ≠ q ∧ v.get x = some a := by
  rw [PerSeat.get_set] at h
  split at h
  · cases h
  · next apart => exact ⟨apart, h⟩

/-- The seat of a charge that ends is returned to DUE or credited (R50, R51, R106, R108, R109). -/
theorem ChargeEnded.returned_accords {w : State} {c : Charge} {r : SeatRecord}
    (h : ChargeEnded s w q c.index) (charge : s.charges.get q = some c) (due : r.state = .due) :
    Accords s (changeSeat q r w) := by
  have turned := changeSeat_turned q r w
  have seat : ∀ x, (changeSeat q r w).seat x = if x = q then r else s.seat x := fun x => by
    rw [turned.seat, State.seat, h.seats, State.seat]
  have charges := turned.charges.trans h.charges
  have slots := turned.slots.trans h.slots
  have payers := changeSeat_payers q r w
  refine ⟨turned.start.trans h.start, fun law => ⟨fun x => ?_, fun x => ?_, fun x y e f apart one two => ?_⟩,
    fun law backed => ⟨fun x c' charge' => ?_, fun j p x payer charging => ?_⟩,
    (PayersKept.of_lowers (payers ▸ h.low) fun x => ?_).law⟩
  · rw [charges, PerSeat.isSome_set_none, seat, ← law.paying x]
    split
    · next same => simp [same, due]
    · next apart => simp [apart]
  · rw [charges, slots, PerSeat.isSome_set_none, PerSeat.isSome_set_none, law.slot x]
  · rw [slots] at one two
    exact law.readers x y e f apart (PerSeat.set_none_some one).2 (PerSeat.set_none_some two).2
  · rw [charges] at charge'
    obtain ⟨apart, old⟩ := PerSeat.set_none_some charge'
    obtain ⟨p, payer, charging, serves, e, ref, slot, card⟩ := backed.backed x c' old
    have other : c'.index ≠ c.index := fun same => by
      obtain ⟨p', payer', charging', -⟩ := backed.backed q c charge
      rw [same, payer'] at payer
      cases payer
      exact apart (Option.some.inj (charging.symm.trans charging'))
    refine ⟨p, ?_, charging, serves, e, ref, ?_, card⟩
    · rw [payers, h.others _ other, payer]
    · rw [slots]
      exact (PerSeat.get_set_of_ne _ _ apart).trans slot
  · rw [payers] at payer
    have other : j ≠ c.index := fun same => by
      rw [h.idle p (same ▸ payer)] at charging
      cases charging
    rw [h.others j other] at payer
    obtain ⟨c', charge', index⟩ := backed.charged j p x payer charging
    have apart : x ≠ q := fun same => by
      rw [same, charge] at charge'
      cases charge'
      exact other index.symm
    exact ⟨c', by rw [charges]; exact (PerSeat.get_set_of_ne _ _ apart).trans charge', index⟩
  · rw [seat]
    split
    · exact fun _ => by rw [due]; nofun
    · exact id

/-- A charge names a PAYING seat, so there is nothing to show for one that is not. -/
theorem ChargeEnded.accords_of_not_paying {w : State} {c : Charge} (h : ChargeEnded s w q c.index)
    (charge : s.charges.get q = some c) (other : (w.seat q).state ≠ .paying) : Accords s w := by
  have absurd_ : ChargesAccord s → False := fun law => other (by
    rw [State.seat, h.seats]
    exact (law.paying q).2 (by rw [charge]; rfl))
  refine ⟨h.start, fun law => (absurd_ law).elim, fun law => (absurd_ law).elim,
    (PayersKept.of_lowers h.low fun x => ?_).law⟩
  rw [State.seat, State.seat, h.seats]
  exact id

theorem ChargeEnded.leavePaying_accords {w : State} {c : Charge} (h : ChargeEnded s w q c.index)
    (charge : s.charges.get q = some c) : Accords s (leavePaying q w) := by
  unfold leavePaying
  dsimp only
  split
  · exact h.returned_accords charge rfl
  · next other => exact h.accords_of_not_paying charge other

theorem ChargeEnded.creditCard_accords {w : State} {c : Charge} (h : ChargeEnded s w q c.index)
    (charge : s.charges.get q = some c) (pay : Payment) : Accords s (creditCard q pay w) := by
  unfold creditCard
  dsimp only
  split
  · exact (h.returned_accords charge rfl).trans (closeIfPaid_accords q _)
  · next other => exact h.accords_of_not_paying charge other

theorem endWithoutResult_accords (q : Seat) (s : State) : Accords s (endWithoutResult q s) := by
  unfold endWithoutResult
  split
  · next c e charge _ =>
    have taken : ChargeTaken s ((setCharge q none none s).setTags
        { (setCharge q none none s).tags with late := addLate e s.tags.late }) q := ⟨rfl, rfl, rfl, rfl, rfl⟩
    exact (((taken.queue (send_only _ _ _)).ended c.index 0 false).leavePaying_accords charge).trans
      (passCompare_accords _)
  · exact .refl s

theorem readerSilent_accords (reader : Nat) (s : State) : Accords s (readerSilent reader s) := by
  unfold readerSilent
  split
  · exact endWithoutResult_accords _ s
  · exact .refl s

theorem decline_accords {c : Charge} (charge : s.charges.get q = some c) : Accords s (decline q c s) :=
  (((setCharge_taken q s).ended c.index 0 false).leavePaying_accords charge).trans (passCompare_accords _)

theorem approve_accords {c : Charge} (charge : s.charges.get q = some c) (e : Tag) (amount tip : Nat) :
    Accords s (approve q c e amount tip s) := by
  have told := approvalTold_only c e amount tip s
  have ended : ChargeEnded (approvalTold c e amount tip s) _ q c.index :=
    (setCharge_taken q (approvalTold c e amount tip s)).ended c.index
      (approvedAmount c amount + approvedTip c amount tip) (decide (approvedAmount c amount = c.requested))
  have kept : (approvalTold c e amount tip s).charges.get q = some c := by rw [told.charges, charge]
  unfold approve
  exact (told.accords.trans (.ite (ended.creditCard_accords kept _) (ended.leavePaying_accords kept))).trans
    (passCompare_accords _)

theorem lateResult_accords (e : Tag) (approved : Bool) (s : State) : Accords s (lateResult e approved s) :=
  (Accords.ite (((send_frame _ _ s).accords).trans (setAccounts_frame _ _).accords) (.refl s)).trans
    (setTags_accords rfl)

theorem takeResult_accords (src tag outcome amount tip : Nat) (s : State) :
    Accords s (takeResult src tag outcome amount tip s) := by
  have raised : Accords s (raiseCause .source src s) := (raiseCause_frame _ _ s).accords
  unfold takeResult
  refine .ite (.refl s) ?_
  split
  · unfold chargeAnswer
    split
    · next charge _ => exact .ite (.ite (approve_accords charge _ _ _) (decline_accords charge)) raised
    · exact .refl s
  · split
    · exact .ite (lateResult_accords _ _ s) raised
    · exact .refl s

end Sys2Proof.Machine

/-! PROOFS. Every command of the running part keeps charges, seats and payers in accord (R41 to R183). -/

namespace Sys2Proof.Machine

-- One theorem at a time: the memory limit of the check counts the stack of every thread.
set_option Elab.async false

variable {s t u v : State} {q : Seat} {i : Fin 8} {p : Payer}

/-! ### Console commands (R41 to R49, R85 to R88, R110) -/

theorem hire_accords {pool : Bool} (free : hireRefusal s q pool = none) :
    Accords s (changeSeat q (hiredSeat s pool) s) := by
  obtain ⟨-, vacant, -⟩ := hireRefusal_none free
  exact changeSeat_accords (by rw [vacant]; decide) nofun nofun

theorem resume_accords (free : resumeRefusal s q = none) :
    Accords s (changeSeat q (resumedSeat s (s.seat q)) s) := by
  obtain ⟨due, -⟩ := resumeRefusal_none free
  obtain ⟨band, used, record⟩ := resumedSeat_eq s (s.seat q)
  rw [record]
  exact changeSeat_accords (by rw [due]; decide) nofun nofun

theorem stopSeat_accords (hired : (s.seat q).state = .hired) : Accords s (stopSeat q s) := by
  have stopped : Accords s (changeSeat q (stoppedSeat s.clock.time (s.seat q)) s) :=
    changeSeat_accords (by rw [hired]; decide) nofun nofun
  exact (stopped.trans (closeIfPaid_accords q _)).trans (passCompare_accords _)

/-- A cancelled or waived seat closes (R46, R49). -/
theorem writtenOff_accords (e : TripEnd) {r : SeatRecord} (state : r.state = (s.seat q).state)
    (open_ : (s.seat q).state ≠ .paying) :
    Accords s (compareDisplays (closeSeat q e (s.setSeat q r))) := by
  have closed : Accords (s.setSeat q r) (closeSeat q e (s.setSeat q r)) :=
    closeSeat_accords e (by rw [State.setSeat_seat_self, state]; exact open_)
  exact ((setSeat_accords state).trans closed).trans (compareDisplays_only _).accords

theorem addExtra_accords (k : ExtraKind) (n : Nat) : Accords s (addExtra q k n s) := by
  have added : Accords s (s.setSeat q (applyExtra k n (s.seat q))) := setSeat_accords rfl
  exact (Accords.ite (added.trans (chargePass_accords _)) added).trans (compareIfChanged_only s _).accords

theorem splitExtra_accords (k : ExtraKind) (n : Nat) :
    Accords s (compareIfChanged s (s.setSeats (splitSeats s.seats k n))) := by
  have split : Accords s (s.setSeats (splitSeats s.seats k n)) :=
    setSeats_accords fun x => by rw [splitSeats_get]; rfl
  exact split.trans (compareIfChanged_only _ _).accords

theorem creditCash_accords (pay : Payment) : Accords s (creditCash q pay s) := by
  have paid : Accords s (s.setSeat q (addPayment pay (s.seat q))) := setSeat_accords rfl
  exact ((paid.trans (closeIfPaid_accords q _)).trans (.ite (chargePass_accords _) (.refl _))).trans
    (compareDisplays_only _).accords

/-- The index that an account takes is free, and its scope has passengers and no payer (R85). -/
theorem accountPlace_ok {sc : Scope} (h : accountPlace s sc = .ok i) :
    scopeOccupied s.seats sc = true ∧ findScope s.payers sc = none ∧ lowestFree s.payers = some i := by
  unfold accountPlace at h
  split at h
  · cases h
  · next occupied =>
    split at h
    · cases h
    · next absent =>
      split at h
      · cases h
      · next free =>
        cases h
        exact ⟨by simpa using occupied, by simpa using absent, free⟩

theorem get_of_lowestFree (h : lowestFree s.payers = some i) : s.payers.get i = none := by
  simpa using List.find?_some h

theorem accountMap_accords {sc : Scope} (place : accountPlace s sc = .ok i) {limit : Nat}
    (pos : 0 < limit) (kind : PayerKind) (tips : Bool) :
    Accords s (passAndCompare (setPayer i (some (newPayer kind sc limit tips)) s)) := by
  obtain ⟨occupied, absent, free⟩ := accountPlace_ok place
  exact (install_accords (get_of_lowestFree free) occupied absent pos kind tips).trans (passAndCompare_accords _)

theorem unmap_accords (payer : s.payers.get i = some p) (idle : p.charging = none) :
    Accords s (passAndCompare (setPayer i none s)) :=
  (setPayers_accords (.set_none _ i) (.set (payer ▸ idleAt_some idle) idleAt_none)).trans
    (passAndCompare_accords _)

/-- A FLUSH takes the IDLE payers (R88). -/
theorem flush_accords (s : State) : Accords s (s.setPayers (s.payers.map flushed)) := by
  refine setPayers_accords (fun i r found => ?_) fun i => ?_
  · rw [PerIndex.get_map, flushed, Option.filter_eq_some_iff] at found
    exact ⟨r, found.1, rfl, id⟩
  · rw [PerIndex.get_map]
    cases payer : s.payers.get i with
    | none => exact .inl rfl
    | some p =>
      cases charging : p.charging with
      | none => exact .inr ⟨idleAt_some charging, by simp [flushed, charging, IdleAt]⟩
      | some x => exact .inl (by simp [flushed, charging])

theorem performed_accords {src : Nat} {c : Command} (h : Performed src c s t) : Accords s t := by
  cases c with
  | hire seat pool =>
    obtain ⟨q, p, free, rfl⟩ := h
    exact (hire_accords free).trans (compareDisplays_only _).accords
  | stop seat =>
    rcases h with rfl | ⟨q, hired, e⟩
    · exact .refl _
    · rw [e]
      exact stopSeat_accords hired
  | resume seat =>
    obtain ⟨q, free, rfl⟩ := h
    exact (resume_accords free).trans (compareDisplays_only _).accords
  | cancel seat =>
    obtain ⟨q, hired, -, rfl⟩ := h
    exact writtenOff_accords .cancelled rfl (by rw [hired]; decide)
  | waive seat =>
    obtain ⟨q, due, rfl⟩ := h
    exact writtenOff_accords .settled rfl (by rw [due]; decide)
  | addExtra seat kind amount =>
    obtain ⟨q, k, n, -, rfl⟩ := h
    exact addExtra_accords k n
  | splitExtra kind amount =>
    obtain ⟨k, n, rfl⟩ := h
    exact splitExtra_accords k n
  | cash seat tendered tip =>
    obtain ⟨q, tendered, tip, -, rfl⟩ := h
    exact creditCash_accords _
  | accountMap scope account limit tips =>
    obtain ⟨i, sc, account, limit, tips, place, range, rfl⟩ := h
    exact accountMap_accords place ((inRange_iff _ _ _).1 range).1 _ _
  | unmap index =>
    obtain ⟨i, p, payer, idle, rfl⟩ := h
    exact unmap_accords payer idle
  | flush =>
    rcases h with rfl | rfl
    · exact flush_accords s
    · exact (flush_accords s).trans (passAndCompare_accords _)
  | abortCharge seat =>
    obtain ⟨q, -, rfl⟩ := h
    exact endWithoutResult_accords q s
  | reset | readTotals | readTrip | probeSeat | probeIndex | readHold | setClock | setBand | intercomMute
    | intercomTarget | signMode | clearCause | holdRelease | shiftOpen | shiftClose | holdTrigger =>
    exact (performed_frame h).accords (by simp only [commandParts]; decide)

theorem perform_accords (src : Nat) (c : Command) (s : State) : Accords s (perform src c s).1 := by
  rcases perform_cases src c s with e | h
  · rw [e]
    exact .refl s
  · exact performed_accords h

theorem takeEntry_accords (v : Option Bool) (e : FifoEntry) (s : State) : Accords s (takeEntry v e s) := by
  refine Accords.trans ?_ (answerCommand_frame e _).accords
  unfold performDecoded
  split
  · exact (withService_frame_any v _ s).accords.trans (perform_accords _ _ _)
  · exact .refl s

theorem takeCommands_accords (v : Option Bool) (s : State) : Accords s (takeCommands v s) :=
  drain_induct (P := Accords s)
    (fun e _ u h _ _ => (h.trans (setLine_frame u _).accords).trans (takeEntry_accords v e _)) _ s (.refl s)

theorem arrive_accords (e : FifoEntry) (s : State) : Accords s (arrive e s) :=
  .ite (setLine_frame s _).accords
    ((enqueue_only _ s).accords.trans (.ite (setDraws_frame _ _).accords (.refl _)))

theorem consoleRow_accords (v : Option Bool) (seq : Byte) (c : Command) (s : State) :
    Accords s (consoleRow v seq c s) := by
  unfold consoleRow
  split
  · split
    · exact (arrive_accords _ s).trans (takeCommands_accords v _)
    · exact .refl s
  · exact .refl s

/-! ### Events -/

theorem deliverFare_accords (dp : Nat) (s : State) : Accords s (deliverFare dp s) := by
  have accrued : Accords s (s.setSeats (s.seats.map
      (accrueSeat s.tariff s.band.selected s.hold.held dp (riders s.seats)))) :=
    setSeats_accords fun x => by rw [PerSeat.get_map]; exact (accrueSeat_metered _ _ _ _ _ _).state
  exact accrued.trans (compareDisplays_only _).accords

theorem expireInterval_accords (s : State) : Accords s (expireInterval s) := by
  rw [expireInterval_eq]
  exact .ite (((takeCount_effect s).frame.accords.trans (deliverFare_accords _ _)).trans
    (tellCount_effect _ _).frame.accords) (.refl s)

theorem hear_accords (e : Station) (s : State) : Accords s (hear e s) := by
  have heard := (setTimer_effect e.addr (some presenceTime) s).frame.accords
  refine .ite heard (heard.trans ?_)
  unfold presentNotice
  split
  · exact passAndCompare_accords _
  · split
    · exact (setDisplay_only _ _).accords.trans (compareDisplay_only _ _).accords
    · exact .refl _
  all_goals exact .refl _

theorem silentNotice_accords (e : Station) (s : State) : Accords s (silentNotice e s) := by
  unfold silentNotice
  split
  · exact readerSilent_accords _ s
  · split
    · exact (takeRelease_frame _ s).accords
    · exact .refl s
  · exact (takeRelease_frame _ s).accords
  · exact (setMotion_frame s _).accords
  all_goals exact .refl s

theorem presenceExpires_accords (addr : Nat) (s : State) : Accords s (presenceExpires addr s) := by
  unfold presenceExpires
  split
  · exact .ite ((setTimer_effect _ _ s).frame.accords.trans (silentNotice_accords _ _)) (.refl s)
  · exact .refl s

theorem presentCard_accords (reader : Nat) (sc : Scope) (ref limit : Nat) (s : State) :
    Accords s (presentCard reader sc ref limit s) := by
  have reply : ∀ code index, Accords s (cardReply reader code index s) :=
    fun _ _ => (send_only _ _ s).accords
  unfold presentCard
  split
  · exact reply _ _
  · next range =>
    split
    · exact reply _ _
    · next occupied =>
      split
      · exact reply _ _
      · split
        · exact reply _ _
        · next absent =>
          split
          · exact reply _ _
          · next free =>
            have installed := install_accords (get_of_lowestFree free) (by simpa using occupied)
              (by simpa using absent) ((inRange_iff _ _ _).1 (by simpa using range)).1 (.card reader ref) true
            exact (installed.trans (send_only _ _ _).accords).trans (passAndCompare_accords _)

theorem deliver_accords (e : Station) (kind : Nat) (payload : List Byte) (s : State) :
    Accords s (deliver e kind payload s) := by
  unfold deliver
  split
  · exact arrive_accords _ s
  · exact (deliverTalk_effect e _ s).frame.accords
  · unfold deliverCard
    split
    · exact presentCard_accords _ _ _ _ s
    · exact .refl s
  · exact takeResult_accords _ _ _ _ _ s
  · exact (navSpeed_effect _ _ s).frame.accords.trans (setSign_frame _ _).accords
  · exact (raiseCause_frame _ _ s).accords.trans (setMonitor_frame _ _).accords
  · exact .refl s

theorem receiveFrame_accords (v : Option Bool) (f : RxFrame) (s : State) :
    Accords s (receiveFrame v f s) := by
  have taken : Accords s (takeFrame f s) := by
    unfold takeFrame
    split
    · exact (hear_accords _ s).trans (deliver_accords _ _ _ _)
    · exact (raiseCause_frame _ _ s).accords
  have overheard : Accords s (overhear f s) := by
    unfold overhear
    split
    · exact hear_accords _ s
    · exact .refl s
  exact .ite ((Accords.ite taken overheard).trans (takeCommands_accords v _)) (.refl s)

theorem receiveBytes_accords (bytes : List Byte) (s : State) : Accords s (receiveBytes bytes s) := by
  unfold receiveBytes
  split
  · exact receiveFrame_accords none _ s
  · exact .refl s

theorem transmissionFails_accords (s : State) : Accords s (transmissionFails s) := by
  unfold transmissionFails
  split
  · exact .refl s
  · exact ((setLine_frame s _).accords.trans (discardNotice_only _ _).accords).trans
      (takeCommands_accords none _)

theorem transmissionEnds_accords (s : State) : Follows Accords s (transmissionEnds s) := by
  unfold transmissionEnds
  split
  · exact .runs (.refl s)
  · have sent : Accords s (s.setLine { s.line with transmitting := none }) := (setLine_frame s _).accords
    dsimp only
    split
    · unfold answerSent
      split
      · exact .starts _ (setLine_frame s _).mono rfl
      · exact .runs ((sent.trans (setLine_frame _ _).accords).trans (takeCommands_accords none _))
    · exact .runs sent

theorem pulseLevel_accords (l : Level) (s : State) : Accords s (pulseLevel l s) := by
  have pin : Accords s (s.setPins { s.pins with pulse := l }) := (setPins_frame s _).accords
  unfold pulseLevel
  dsimp only
  split
  · exact pin
  · exact pin.trans (setMotion_frame _ _).accords

theorem event_accords {c : Instr} (event : Laws.commandOf c = none) (h : exec c s = .next t) :
    Follows Accords s t := by
  have taken : ∀ {u : State}, Accords s u → Follows Accords s (takeCommands none u) :=
    fun x => .runs (x.trans (takeCommands_accords none _))
  have supply := supply_follows (R := Accords) (c := c) (s := s) (t := t) (fun _ f => f.accords)
  cases c <;> cases h
  case pgoodRise | pgoodFall | rstAssert | rstRelease | vbakLoss | imageReadTimeout | loadCompletion =>
    exact supply (by simp) rfl
  case resetTimerExpiry =>
    unfold resetExpires
    split
    · exact .starts s (.refl _ s) rfl
    · exact .runs (.refl s)
  case clockTick => exact .runs ((setClock_frame s _).accords.trans (passMinute_frame _).accords)
  case minuteBoundary => exact .runs (passMinute_frame s).accords
  case pulseChange l => exact .runs (pulseLevel_accords l s)
  case settledEdge => exact .runs (.ite (setMotion_frame s _).accords (.refl s))
  case intervalExpiry => exact taken (expireInterval_accords s)
  case tamperChange => exact .runs ((setPins_frame s _).accords.trans (setTamperFilter_frame _ _).accords)
  case tamperSettled => exact taken (settleTamper_effect s).frame.accords
  case lineIdle others => exact .runs (contend_frame others s).accords
  case transmissionComplete => exact transmissionEnds_accords s
  case transmissionAbandoned => exact .runs (transmissionFails_accords s)
  case frameDiscarded bytes => exact .runs (receiveBytes_accords bytes s)
  case presenceTimeout a => exact taken (presenceExpires_accords a.toNat s)
  case statusTimerExpiry =>
    exact .runs (.ite ((queueStatus_only s).accords.trans (takeCommands_accords none _)) (.refl s))
  case chargeTimerExpiry q => exact taken (endWithoutResult_accords q s)
  case pressLapse k => exact taken (takeRelease_frame k s).accords
  case guardExpiry => exact taken (guardExpires_frame s).accords
  case talkLimitExpiry => exact taken (talkLimitExpires_frame s).accords
  case lampPeriodBoundary sense => exact taken (lampBoundary_effect sense s).frame.accords
  case frameToOtherStation | command | talk | cardPresented | chargeResult | navReport | faultReport
      | heartbeat => exact .runs (receiveFrame_accords _ _ s)
  all_goals cases event

/-- What every command of the table does to charges, seats and payers, unless it stops, starts or loads the
main domain. -/
theorem exec_accords {c : Instr} (h : exec c s = .next t) : Follows Accords s t := by
  rcases row_or_event c with ⟨service, seq, x, rfl⟩ | event
  · rw [exec_rowOf] at h
    cases h
    exact .runs (consoleRow_accords _ seq x s)
  · exact event_accords event h

end Sys2Proof.Machine

/-! PROOFS. Load completion, stops and starts, and the laws of charges and payers at every step (R1 to R5, R57, R78 to
R96). -/

namespace Sys2Proof.Machine

-- One theorem at a time: the memory limit of the check counts the stack of every thread.
set_option Elab.async false

variable {s t u v : State} {q : Seat} {i : Fin 8} {p : Payer}

/-! ### Load completion (R5, R57, R58, R119) -/

theorem warmSeat_occupied (time : DayTime) {r : SeatRecord} (h : r.state ≠ .vacant) :
    (warmSeat time r).state ≠ .vacant := by
  unfold warmSeat
  split
  · next vacant => exact absurd vacant h
  · next due => rw [due]; decide
  all_goals exact nofun

theorem setSeat_payersKept {r : SeatRecord} (kept : (s.seat q).state ≠ .vacant → r.state ≠ .vacant) :
    PayersKept s (s.setSeat q r) := by
  refine .of_lowers (.refl _) fun x => ?_
  change _ → ((s.seats.set q r).get x).state ≠ _
  rw [PerSeat.get_set]
  split
  · next same => exact same ▸ kept
  · exact id

theorem warmStartSeat_payersKept (s : State) (q : Seat) : PayersKept s (warmStartSeat s q) :=
  have kept := warmSeat_occupied s.clock.time (r := s.seat q)
  .ite ((changeSeat_payersKept kept).trans (closeIfPaid_payersKept q _)) (setSeat_payersKept kept)

theorem warmStartSeats_payersKept (seats : List Seat) (s : State) :
    PayersKept s (seats.foldl warmStartSeat s) := by
  induction seats generalizing s with
  | nil => exact .refl s
  | cons q seats ih => exact (warmStartSeat_payersKept s q).trans (ih _)

theorem resumeTrips_payersKept (s : State) : PayersKept s (resumeTrips s) :=
  ((warmStartSeats_payersKept allSeats s).trans (.ite (raiseCause_frame _ _ _).payersKept (.refl _))).trans
    (retireSlots_frame _).payersKept

theorem retainedWork_payersKept (s : State) : PayersKept s (retainedWork s) := by
  have monitor : ∀ u, PayersKept u (monitorStartWork u) := fun u => (monitorStartWork_frame u).payersKept
  have drawn : PayersKept s (s.setDraws (s.draws + 1)) := (setDraws_frame s _).payersKept
  unfold retainedWork warmWork
  split
  · exact monitor s
  · exact .ite (.ite ((drawn.trans (monitor _)).trans (resumeTrips_payersKept _))
      ((drawn.trans (resumeTrips_payersKept _)).trans (monitor _)))
      ((warmStartSeats_payersKept allSeats s).trans (monitor _))

theorem startWork_payersKept (l : Loaded) (s : State) : PayersKept s (startWork l s) :=
  ((((putInForce_frame l s).payersKept.trans (intercomStartWork_frame _).payersKept).trans
    (retainedWork_payersKept _)).trans (computeSign_frame _).payersKept).trans (queueStatus_frame _).payersKept

/-- No charge is in flight, no seat is PAYING, and no payer is installed. -/
structure NothingCharged (s : State) : Prop where
  seats : ∀ q, (s.seat q).state ≠ .paying
  slots : ∀ q, s.tags.slots.get q = none
  charges : NoCharges s
  payers : ∀ i, s.payers.get i = none

theorem NothingCharged.chargesAccord (h : NothingCharged s) : ChargesAccord s where
  paying q := by rw [h.charges q]; exact iff_of_false (h.seats q) nofun
  slot q := by rw [h.charges q, h.slots q]; exact Iff.rfl
  readers q p e f _ slot := by rw [h.slots q] at slot; cases slot

theorem NothingCharged.payersAccord (h : NothingCharged s) : PayersAccord s where
  backed q c charge := by rw [h.charges q] at charge; cases charge
  charged i p q payer := by rw [h.payers i] at payer; cases payer

/-- A load completion leaves no PAYING seat and no slot taken (R57, R119). -/
theorem startWork_unpaid (bytes : List Byte) (start : StartLaw s)
    (reading : s.start.imageTimer.isSome = true) (q : Seat) :
    ((startWork (loadImage bytes) s).seat q).state ≠ .paying ∧
      (startWork (loadImage bytes) s).tags.slots.get q = none := by
  cases kind : s.start.kind with
  | cold =>
    obtain ⟨-, seats, tags, -⟩ := startWork_of_cold (l := loadImage bytes) kind
    obtain ⟨vacant, cold, -⟩ := start.2.2 reading kind
    rw [State.seat, seats, vacant, tags, cold]
    cases q <;> exact ⟨nofun, rfl⟩
  | warm =>
    obtain ⟨t, e, -, -, turned⟩ := warm_start_turns_seats bytes s reading kind
    rw [exec_loadCompletion reading] at e
    cases e
    obtain ⟨slot, vacant, due, open_⟩ := turned q
    refine ⟨?_, slot⟩
    have broken : (s.seat q).state = .hired ∨ (s.seat q).state = .paying →
        ((startWork (loadImage bytes) s).seat q).state ≠ .paying := fun h => by
      obtain ⟨closed, owing⟩ := open_ h
      rcases Nat.eq_zero_or_pos (s.seat q).due with nothing | owes
      · rw [closed nothing]; nofun
      · rw [owing owes]; nofun
    cases state : (s.seat q).state with
    | vacant => rw [vacant state, state]; nofun
    | due => rw [due state]; exact fun h => by rw [state] at h; cases h
    | hired => exact broken (.inl state)
    | paying => exact broken (.inr state)

theorem startWork_nothingCharged (bytes : List Byte) (start : StartLaw s)
    (reading : s.start.imageTimer.isSome = true) : NothingCharged (startWork (loadImage bytes) s) := by
  obtain ⟨-, -, -, -, payers, charges, -⟩ := start.1 (start.2.1 reading)
  have idle : NoCharges s := fun q => by rw [charges, seatsOf_get]
  refine ⟨fun q => (startWork_unpaid bytes start reading q).1,
    fun q => (startWork_unpaid bytes start reading q).2, idle.of_frame (startWork_frame _ s), fun i => ?_⟩
  refine Option.eq_none_iff_forall_ne_some.2 fun r payer => ?_
  obtain ⟨p, before, -⟩ := (startWork_payersKept (loadImage bytes) s).low i r payer
  rw [payers] at before
  fin_cases i <;> cases before

/-! ### The laws at every step -/

theorem exec_keeps_accord {c : Instr} (start : StartLaw s) (e : exec c s = .next t) :
    ((s.start.loaded = true → ChargesAccord s) → t.start.loaded = true → ChargesAccord t) ∧
      ((s.start.loaded = true → ChargesAccord s) → (s.start.loaded = true → PayersAccord s) →
        t.start.loaded = true → PayersAccord t) := by
  cases exec_accords e with
  | runs moved =>
    rw [moved.start]
    exact ⟨fun law running => moved.charges (law running),
      fun law backed running => moved.backed (law running) (backed running)⟩
  | stops u _ e => subst e; exact ⟨fun _ => nofun, fun _ _ => nofun⟩
  | starts u _ e =>
    subst e
    have idle : (beginStart u).start.loaded = false := rfl
    rw [idle]
    exact ⟨fun _ => nofun, fun _ _ => nofun⟩
  | loads bytes reading e =>
    subst e
    have nothing := startWork_nothingCharged bytes start reading
    exact ⟨fun _ _ => nothing.chargesAccord, fun _ _ _ => nothing.payersAccord⟩
  | backup e =>
    subst e
    have same : Accords s (backupFails s) := .of_eq rfl (fun _ => rfl) rfl rfl rfl
    exact ⟨fun law running => same.charges (law running),
      fun law backed running => same.backed (law running) (backed running)⟩

theorem PayerLaw.of_none (h : ∀ i, s.payers.get i = none) : PayerLaw s := fun i p payer => by
  rw [h i] at payer
  cases payer

theorem exec_keeps_payerLaw {c : Instr} (law : PayerLaw s) (e : exec c s = .next t) : PayerLaw t := by
  cases exec_accords e with
  | runs moved => exact moved.payers law
  | stops u _ e =>
    subst e
    exact .of_none fun i => by rw [stopMain_eq]; fin_cases i <;> rfl
  | starts u _ e =>
    subst e
    refine .of_none fun i => ?_
    cases marker : u.markerValid with
    | true => rw [beginStart_of_valid marker]; fin_cases i <;> rfl
    | false => rw [beginStart_of_failed marker]; fin_cases i <;> rfl
  | loads bytes _ e =>
    subst e
    exact (startWork_payersKept _ s).law law
  | backup e => subst e; exact law

theorem exec_keeps_chargeLaw {c : Instr} (law : ChargeLaw s) (e : exec c s = .next t) : ChargeLaw t := by
  rw [chargeLaw_iff] at law ⊢
  obtain ⟨start, charges⟩ := law
  exact ⟨exec_keeps_startLaw start e, (exec_keeps_accord start e).1 charges⟩

theorem exec_keeps_backedLaw {c : Instr} (law : BackedLaw s) (e : exec c s = .next t) : BackedLaw t := by
  rw [backedLaw_iff] at law ⊢
  obtain ⟨charge, backed⟩ := law
  obtain ⟨start, charges⟩ := (chargeLaw_iff s).1 charge
  exact ⟨exec_keeps_chargeLaw charge e, (exec_keeps_accord start e).2 charges backed⟩

/-- Settles O11: every change of the running part keeps charges, seats and payers in accord; a stop and a start
leave no payer and nothing to be in accord, and a load completion nothing in charge. -/
theorem stepKeepsChargesAndPayers : Obligations.StepKeepsChargesAndPayers :=
  ⟨keptByStep_of (fun _ _ h => h) fun _ _ _ => exec_keeps_chargeLaw,
    keptByStep_of (fun _ _ h => h) fun _ _ _ => exec_keeps_backedLaw,
    keptByStep_of (fun _ _ h => h) fun _ _ _ => exec_keeps_payerLaw⟩

end Sys2Proof.Machine

/-! PROOFS. The payer that serves a seat, and the commands that only read (R80, R89, R163, R177, R184). -/

namespace Sys2Proof.Machine

-- One theorem at a time: the memory limit of the check counts the stack of every thread.
set_option Elab.async false

variable {s : State} {q : Seat} {i : Fin 8} {p : Payer}

/-! ### The payer that serves a seat (R80) -/

theorem findScope_of_mem {m : PayerMap} {sc : Scope} (payer : m.get i = some p) (scope : p.scope = sc) :
    ∃ j r, findScope m sc = some j ∧ m.get j = some r ∧ r.scope = sc := by
  cases found : findScope m sc with
  | none => exact absurd scope (findScope_eq_none.1 found i p payer)
  | some j =>
    obtain ⟨r, payer', scope'⟩ := findScope_some found
    exact ⟨j, r, rfl, payer', scope'⟩

theorem resolve_of_seat {m : PayerMap} {j : Fin 8} (h : findScope m (.seat q) = some j) :
    resolve m q = some j := by
  rw [resolve, h]

theorem resolve_of_no_seat {m : PayerMap} (h : findScope m (.seat q) = none) :
    resolve m q = findScope m .party := by
  rw [resolve, h]

/-- A search reads the scopes only. -/
theorem findScope_of_scopes {m n : PayerMap} (h : ∀ i, (m.get i).map (·.scope) = (n.get i).map (·.scope))
    (sc : Scope) : findScope m sc = findScope n sc := by
  have read : ∀ o : Option Payer, o.any (fun p => p.scope = sc) = (o.map (·.scope)).any (fun x => x = sc) :=
    fun o => by cases o <;> rfl
  exact findScope_congr fun i => by rw [read, h, ← read]

/-- Settles O38: the search for the seat's scope comes first, then that for PARTY. -/
theorem seatScopeServesBeforeParty : Obligations.SeatScopeServesBeforeParty := by
  intro m q
  refine ⟨fun i p payer scope => ?_, fun unseated => ?_, fun n same => ?_⟩
  · obtain ⟨j, r, found, served⟩ := findScope_of_mem payer scope
    exact ⟨j, r, resolve_of_seat found, served⟩
  · rw [resolve_of_no_seat (findScope_eq_none.2 unseated)]
    exact ⟨fun i p payer scope => findScope_of_mem payer scope, findScope_eq_none.2⟩
  · rw [resolve, resolve, findScope_of_scopes same, findScope_of_scopes same]

/-! ### READ_TOTALS and READ_TRIP (R177, R184) -/

theorem readTotalsCommand_eq (page : Byte) (s : State) :
    readTotalsCommand page s =
      if 15 < page.toNat then refuse s .range
      else if page.toNat < 13 ∧ s.accounts.shift.state = .closed ∧ s.accounts.shift.number = 0 then
        refuse s .nothing
      else done s (totalsPage s.accounts page.toNat) := rfl

theorem readTripCommand_range {n : Word24} {page : Byte} (h : n.toNat = 0 ∨ 10 < page.toNat) :
    readTripCommand n page s = refuse s .range := if_pos h

/-- The trip log's answer for a trip number and a page that there are. -/
theorem readTripCommand_of_range {n : Word24} {page : Byte} (number : 0 < n.toNat) (within : page.toNat ≤ 10) :
    readTripCommand n page s =
      match s.accounts.log.find? (fun t => t.number = n.toNat) with
      | none => refuse s .gone
      | some t =>
        match tripPage t page.toNat with
        | none => refuse s .nothing
        | some data => done s data := if_neg (by omega)

/-! ### The probes (R89) -/

theorem indexArg_of_gt {b : Byte} (h : 7 < b.toNat) : indexArg b = none := dif_neg (by omega)

theorem indexArg_of_eq {b : Byte} (h : b.toNat = i.val) : indexArg b = some i := by
  rw [indexArg, dif_pos (by omega)]
  exact congrArg some (Fin.ext h)

theorem probeSeatCommand_some {seat : Byte} (h : seatOfNumber seat.toNat = some q)
    (served : resolve s.payers q = some i) (payer : s.payers.get i = some p) :
    probeSeatCommand seat s = done s (payerBytes i (p.scope = .party) p) := by
  rw [probeSeatCommand, seatArg_some h]
  dsimp only
  rw [served]
  dsimp only
  rw [payer]

/-! ### The rows -/

/-- READ_HOLD's row takes in the SERVICE level that it carries (R163). -/
theorem exec_readHold {a : Nat} {seq page : Byte} {service : Bool} (h : ConsoleReady s a) {code : ResultCode}
    {data : List Byte}
    (e : readHoldCommand page (s.setPins { s.pins with service := service }) =
      (s.setPins { s.pins with service := service }, ⟨code, data⟩)) :
    exec (.readHold service seq page) s =
      .next (answered a seq (.readHold page) code data (s.setPins { s.pins with service := service })) := by
  refine (exec_rowOf_ready (service := service) (c := .readHold page) h).trans ?_
  rw [show rowLevel service (.readHold page) = some service from rfl, withService_read rfl]
  change Host.Outcome.next (answered a seq (.readHold page) (readHoldCommand page _).2.code
    (readHoldCommand page _).2.data (readHoldCommand page _).1) = _
  rw [e]

/-- Settles O37: what each block answers of the state as it stands, put through the command's row. -/
theorem readsAnswerAndChangeNothing : Obligations.ReadsAnswerAndChangeNothing := by
  intro s a seq page seat index n service ready
  have totals := fun {code data} (e : readTotalsCommand page s = (s, ⟨code, data⟩)) =>
    exec_row_of_perform (service := false) (seq := seq) (c := .readTotals page) ready rfl e
  have trip := fun {code data} (e : readTripCommand n page s = (s, ⟨code, data⟩)) =>
    exec_row_of_perform (service := false) (seq := seq) (c := .readTrip n page) ready rfl e
  have probeSeat := fun {code data} (e : probeSeatCommand seat s = (s, ⟨code, data⟩)) =>
    exec_row_of_perform (service := false) (seq := seq) (c := .probeSeat seat) ready rfl e
  have probeIndex := fun {code data} (e : probeIndexCommand index s = (s, ⟨code, data⟩)) =>
    exec_row_of_perform (service := false) (seq := seq) (c := .probeIndex index) ready rfl e
  refine ⟨fun beyond => totals ?_, fun report unopened => totals ?_, fun within reported => totals ?_,
    fun out => trip (readTripCommand_range out),
    fun number within => ⟨fun absent => trip ?_,
      fun x logged => ⟨fun empty => trip ?_, fun data page => trip ?_⟩⟩,
    fun out => probeSeat ?_, fun q isSeat => ⟨fun unserved => probeSeat ?_,
      fun i p served payer => probeSeat (probeSeatCommand_some isSeat served payer)⟩,
    fun out => probeIndex ?_, fun i isIndex => ⟨fun free => probeIndex ?_, fun p payer => probeIndex ?_⟩,
    fun beyond => exec_readHold ready (if_pos beyond),
    fun within => exec_readHold ready (if_neg (by omega))⟩
  · rw [readTotalsCommand_eq, if_pos beyond]
    rfl
  · rw [readTotalsCommand_eq, if_neg (by omega), if_pos ⟨report, unopened⟩]
    rfl
  · rw [readTotalsCommand_eq, if_neg (by omega), if_neg reported]
    rfl
  · have gone : s.accounts.log.find? (fun t => t.number = n.toNat) = none :=
      List.find?_eq_none.2 fun x mem => by simpa using absent x mem
    rw [readTripCommand_of_range number within, gone]
    rfl
  · rw [readTripCommand_of_range number within, logged]
    dsimp only
    rw [empty]
    rfl
  · rw [readTripCommand_of_range number within, logged]
    dsimp only
    rw [page]
    rfl
  · rw [probeSeatCommand, seatArg_none out]
    rfl
  · rw [probeSeatCommand, seatArg_some isSeat]
    dsimp only
    rw [unserved]
    rfl
  · rw [probeIndexCommand, indexArg_of_gt out]
    rfl
  · rw [probeIndexCommand, indexArg_of_eq isIndex]
    dsimp only
    rw [free]
    rfl
  · rw [probeIndexCommand, indexArg_of_eq isIndex]
    dsimp only
    rw [payer]
    rfl

end Sys2Proof.Machine

/-! PROOFS. ACCOUNT_MAP, UNMAP and FLUSH, every form (R85 to R88). -/

namespace Sys2Proof.Machine

-- One theorem at a time: the memory limit of the check counts the stack of every thread.
set_option Elab.async false

variable {s : State} {i : Fin 8} {p : Payer}

/-! ### The lowest free index, and a pass without a DUE seat (R79, R98) -/

theorem lowestFree_eq_none {m : PayerMap} (h : ∀ i, m.get i ≠ none) : lowestFree m = none :=
  List.find?_eq_none.2 fun i _ free => h i (Option.isNone_iff_eq_none.1 free)

theorem allIndexes_ascend : allIndexes.Pairwise (· < ·) := by decide

/-- The first free index in the list is the lowest (R79). -/
theorem lowestFree_eq_some {m : PayerMap} (free : m.get i = none) (taken : ∀ j, j < i → m.get j ≠ none) :
    lowestFree m = some i := by
  obtain ⟨before, after, cut⟩ := List.append_of_mem (mem_allIndexes i)
  refine List.find?_eq_some_iff_append.2 ⟨by rw [free]; rfl, before, after, cut, fun j early => ?_⟩
  have ascend := allIndexes_ascend
  rw [cut, List.pairwise_append] at ascend
  obtain ⟨-, -, less⟩ := ascend
  have held := taken j (less j early i List.mem_cons_self)
  cases found : m.get j with
  | none => exact absurd found held
  | some r => rfl

/-- While no seat is DUE the pass of a notice changes nothing (R98, R99). -/
theorem passAndCompare_of_calm (h : ∀ q, (s.seat q).state ≠ .due) : passAndCompare s = s := by
  rw [passAndCompare, chargePass_of_none fun q => examine_of_not_due (h q)]
  exact if_pos rfl

/-! ### ACCOUNT_MAP (R85) -/

/-- Operands of ACCOUNT_MAP outside their ranges (R85). -/
def AccountOutOfRange (account : Word32) (limit : Word24) (tips : Byte) : Prop :=
  99999999 < account.toNat ∨ limit.toNat < 1 ∨ 999999 < limit.toNat ∨ 1 < tips.toNat

theorem accountMapCommand_range {scope tips : Byte} {account : Word32} {limit : Word24}
    (h : scopeOfBinding scope.toNat = none ∨ AccountOutOfRange account limit tips) :
    accountMapCommand scope account limit tips s = refuse s .range := by
  unfold accountMapCommand
  split
  · next sc tip isScope flagged =>
    refine if_pos ?_
    rw [Bool.or_eq_true, Bool.not_eq_true', Bool.not_eq_true']
    rcases h with none_ | account | low | high | tips
    · rw [show scopeArg scope = none from none_] at isScope
      cases isScope
    · exact .inl (inRange_false (.inr account))
    · exact .inr (inRange_false (.inl low))
    · exact .inr (inRange_false (.inr high))
    · rw [flagArg_of_gt tips] at flagged
      cases flagged
  · rfl

/-- Within the ranges the map looks for a place. -/
theorem accountMapCommand_of_range {scope tips : Byte} {account : Word32} {limit : Word24} {sc : Scope}
    (isScope : scopeOfBinding scope.toNat = some sc) (within : ¬AccountOutOfRange account limit tips) :
    accountMapCommand scope account limit tips s =
      match accountPlace s sc with
      | .error c => refuse s c
      | .ok i => installAccount i
          (newPayer (.account account.toNat) sc limit.toNat (decide (tips.toNat = 1))) s := by
  unfold AccountOutOfRange at within
  have known : inRange 0 maxAccount account.toNat = true :=
    (inRange_iff _ _ _).2 ⟨Nat.zero_le _, by unfold maxAccount; omega⟩
  have limited : inRange 1 maxLimit limit.toNat = true :=
    (inRange_iff _ _ _).2 ⟨by omega, by unfold maxLimit; omega⟩
  unfold accountMapCommand
  rw [show scopeArg scope = some sc from isScope, flagArg_of_le (b := tips) (by omega)]
  dsimp only
  rw [known, limited]
  rfl

theorem accountPlace_of_empty {sc : Scope} (h : scopeOccupied s.seats sc = false) :
    accountPlace s sc = .error .state := by
  rw [accountPlace, h]
  rfl

theorem accountPlace_of_existing {sc : Scope} (occupied : scopeOccupied s.seats sc = true)
    (h : findScope s.payers sc ≠ none) : accountPlace s sc = .error .existing := by
  rw [accountPlace, occupied]
  exact if_pos (Option.isSome_iff_ne_none.2 h)

/-- With passengers and no payer for the scope, the lowest free index decides (R79, R85). -/
theorem accountPlace_of_new {sc : Scope} (occupied : scopeOccupied s.seats sc = true)
    (h : findScope s.payers sc = none) :
    accountPlace s sc = match lowestFree s.payers with
      | none => .error .full
      | some i => .ok i := by
  rw [accountPlace, occupied, h]
  rfl

/-- Without a DUE seat a payer just installed stays, and the answer gives its whole limit. -/
theorem setPayer_of_calm (calm : ∀ q, (s.seat q).state ≠ .due) (unspent : p.spent = 0) :
    passAndCompare (setPayer i (some p) s) = setPayer i (some p) s ∧ ∀ spent,
      mappedBytes i p.limit spent (passAndCompare (setPayer i (some p) s)) =
        byte i.val :: 1 :: bigEndian p.limit 3 := by
  have still : passAndCompare (setPayer i (some p) s) = setPayer i (some p) s := passAndCompare_of_calm calm
  have payer : (setPayer i (some p) s).payers.get i = some p := PerIndex.get_set_self _ _ _
  refine ⟨still, fun spent => ?_⟩
  rw [still, mappedBytes, payer]
  dsimp only
  rw [Payer.remaining, unspent]
  rfl

theorem account_is_mapped : Claims.AccountIsMapped := by
  intro s a seq scope account limit tips ready
  have row := fun {t code data} (e : accountMapCommand scope account limit tips s = (t, ⟨code, data⟩)) =>
    exec_row_of_perform (service := false) (seq := seq) (c := .accountMap scope account limit tips) ready rfl e
  refine ⟨fun out => row (accountMapCommand_range out), fun sc isScope within => ?_⟩
  have placed := accountMapCommand_of_range (s := s) isScope within
  refine ⟨fun empty => row ?_, fun occupied => ⟨fun existing => row ?_, fun new => ?_⟩⟩
  · rw [placed, accountPlace_of_empty empty]
    rfl
  · rw [placed, accountPlace_of_existing occupied existing]
    rfl
  · rw [accountPlace_of_new occupied new] at placed
    refine ⟨fun full => row ?_, fun i free taken => ⟨row ?_, fun calm => ?_⟩⟩
    · rw [placed, lowestFree_eq_none full]
      rfl
    · rw [placed, lowestFree_eq_some free taken]
      rfl
    · obtain ⟨still, answer⟩ := setPayer_of_calm (i := i)
        (p := newPayer (.account account.toNat) sc limit.toNat (decide (tips.toNat = 1))) calm rfl
      exact ⟨still, answer _⟩

/-! ### UNMAP (R87) -/

theorem unmapCommand_range {index : Byte} (h : 7 < index.toNat) : unmapCommand index s = refuse s .range := by
  rw [unmapCommand, indexArg_of_gt h]

theorem unmapCommand_free {index : Byte} (h : index.toNat = i.val) (free : s.payers.get i = none) :
    unmapCommand index s = refuse s .nothing := by
  rw [unmapCommand, indexArg_of_eq h]
  dsimp only
  rw [free]

theorem unmapCommand_payer {index : Byte} (h : index.toNat = i.val) (payer : s.payers.get i = some p) :
    unmapCommand index s =
      if p.charging.isSome then refuse s .busy
      else done (passAndCompare (setPayer i none s)) (payerBytes i false p) := by
  rw [unmapCommand, indexArg_of_eq h]
  dsimp only
  rw [payer]

/-! ### FLUSH (R88) -/

/-- What a FLUSH leaves of a payer map: the CHARGING payers. -/
def FlushLeaves (m n : PayerMap) : Prop :=
  ∀ i, (∀ p, m.get i = some p → p.charging ≠ none → n.get i = some p) ∧
    ((∀ p, m.get i = some p → p.charging = none) → n.get i = none)

theorem PerIndex.ext_get {α : Type} {v w : PerIndex α} (h : ∀ i, v.get i = w.get i) : v = w := by
  obtain ⟨a, b, c, d, e, f, g, k⟩ := v
  obtain rfl : a = _ := h 0
  obtain rfl : b = _ := h 1
  obtain rfl : c = _ := h 2
  obtain rfl : d = _ := h 3
  obtain rfl : e = _ := h 4
  obtain rfl : f = _ := h 5
  obtain rfl : g = _ := h 6
  obtain rfl : k = _ := h 7
  rfl

/-- The map that a FLUSH leaves is the one that the model computes. -/
theorem FlushLeaves.eq {m n : PayerMap} (h : FlushLeaves m n) : n = m.map flushed := by
  refine PerIndex.ext_get fun i => ?_
  obtain ⟨kept, removed⟩ := h i
  rw [PerIndex.get_map, flushed]
  cases payer : m.get i with
  | none => exact removed fun p found => by rw [payer] at found; cases found
  | some p =>
    cases charging : p.charging with
    | none =>
      rw [Option.filter_some, charging]
      refine removed fun r found => ?_
      rw [payer] at found
      cases found
      exact charging
    | some x =>
      rw [Option.filter_some, charging]
      exact kept p payer (by rw [charging]; nofun)

/-- The indexes that a change of the map empties. -/
def emptied (m n : PayerMap) : List (Fin 8) :=
  allIndexes.filter fun i => (m.get i).isSome && (n.get i).isNone

/-- A FLUSH's payers are those that stay and those that go. -/
theorem installedAt_length (m : PayerMap) :
    (installedAt m).length = (installedAt (m.map flushed)).length + (emptied m (m.map flushed)).length := by
  have stays : ∀ i, ((m.map flushed).get i).isSome = true → (m.get i).isSome = true := fun i => by
    rw [PerIndex.get_map, flushed]
    exact Option.isSome_of_isSome_filter _ _
  rw [installedAt, List.length_eq_length_filter_add (fun i => ((m.map flushed).get i).isSome),
    List.filter_filter, List.filter_filter]
  congr 2
  · refine List.filter_congr fun i _ => ?_
    specialize stays i
    revert stays
    cases ((m.map flushed).get i).isSome <;> simp
  · refine List.filter_congr fun i _ => ?_
    rw [Bool.and_comm, Option.not_isSome]

/-- A FLUSH that removes no payer leaves the map. -/
theorem map_flushed_of_emptied {m : PayerMap} (h : emptied m (m.map flushed) = []) : m.map flushed = m := by
  refine PerIndex.ext_get fun i => ?_
  have stays := List.filter_eq_nil_iff.1 h i (mem_allIndexes i)
  rw [PerIndex.get_map] at stays ⊢
  cases payer : m.get i with
  | none => rfl
  | some p =>
    rw [payer, flushed, Option.filter_some] at stays
    rw [flushed, Option.filter_some]
    split
    · rfl
    · next idle => rw [if_neg idle] at stays; exact absurd rfl stays

theorem flushCommand_eq (s : State) :
    let m := s.payers.map flushed
    flushCommand s = done (if emptied s.payers m = [] then s else passAndCompare { s with payers := m })
      [byte (emptied s.payers m).length, byte (installedAt m).length,
        byte (bitsOf (allIndexes.map fun i => (m.get i).isSome))] := by
  have count := installedAt_length s.payers
  unfold flushCommand
  dsimp only
  rw [count, Nat.add_sub_cancel_left]
  by_cases none_ : emptied s.payers (s.payers.map flushed) = []
  · rw [if_pos none_, none_, map_flushed_of_emptied none_, if_neg (by simp)]
    rfl
  · rw [if_neg none_, if_pos (Nat.lt_add_of_pos_right (List.length_pos_iff.2 none_))]
    rfl

theorem unmap_and_flush_remove_payers : Claims.UnmapAndFlushRemovePayers := by
  intro s a seq index ready
  have unmap := fun {t code data} (e : unmapCommand index s = (t, ⟨code, data⟩)) =>
    exec_row_of_perform (service := false) (seq := seq) (c := .unmap index) ready rfl e
  refine ⟨fun beyond => unmap (unmapCommand_range beyond), fun i isIndex =>
    ⟨fun free => unmap (unmapCommand_free isIndex free), fun p payer => ⟨fun busy => unmap ?_, fun idle =>
      ⟨unmap ?_, fun calm => passAndCompare_of_calm calm⟩⟩⟩,
    fun m left => ⟨?_, fun calm => passAndCompare_of_calm calm⟩⟩
  · rw [unmapCommand_payer isIndex payer, if_pos (Option.isSome_iff_ne_none.2 busy)]
    rfl
  · rw [unmapCommand_payer isIndex payer, idle]
    rfl
  · rw [FlushLeaves.eq left]
    exact exec_row_of_perform (service := false) (seq := seq) (c := .flush) ready rfl (flushCommand_eq s)

/-- Settles O40: each command's answer in the order of its checks, and a pass that finds no seat DUE. -/
theorem accountsMappedAndPayersRemoved : Obligations.AccountsMappedAndPayersRemoved :=
  ⟨account_is_mapped, unmap_and_flush_remove_payers⟩

end Sys2Proof.Machine

/-! PROOFS. A presented card: its replies in their order, the record it installs, and the return of a SILENT reader
(R79, R80, R82, R83, R193 to R195). -/

namespace Sys2Proof.Machine

-- One theorem at a time: the memory limit of the check counts the stack of every thread.
set_option Elab.async false

variable {s : State} {e : Station} {h : Header} {i : Fin 8} {p : Payer} {sc : Scope} {reader ref limit : Nat}

/-! ### The checks of a presentation (R82, R83) -/

theorem presentCard_range (out : limit < 1 ∨ 999999 < limit) :
    presentCard reader sc ref limit s = cardReply reader .range 0 s := by
  rw [presentCard, inRange_false (lo := 1) (hi := maxLimit) out]
  rfl

/-- Past the range check, the scope's passengers and then the scope's payer decide. -/
theorem presentCard_of_range (low : 1 ≤ limit) (high : limit ≤ 999999) :
    presentCard reader sc ref limit s =
      if !scopeOccupied s.seats sc then cardReply reader .state 0 s
      else
        match repeatIndex s.payers sc reader ref with
        | some i => cardReply reader .ok i.val s
        | none =>
          if (findScope s.payers sc).isSome then cardReply reader .existing 0 s
          else
            match lowestFree s.payers with
            | none => cardReply reader .full 0 s
            | some i => installCard i sc reader ref limit s := by
  rw [presentCard, (inRange_iff 1 maxLimit limit).2 ⟨low, high⟩]
  rfl

theorem installCard_eq (i : Fin 8) (sc : Scope) (reader ref limit : Nat) (s : State) :
    installCard i sc reader ref limit s = passAndCompare (cardReply reader .ok i.val
      { s with payers := s.payers.set i (some (newPayer (.card reader ref) sc limit true)) }) := rfl

theorem repeatIndex_of_payer {m : PayerMap} (found : findScope m sc = some i) (payer : m.get i = some p) :
    repeatIndex m sc reader ref = if p.kind = .card reader ref then some i else none := by
  rw [repeatIndex, found]
  dsimp only
  rw [payer]
  simp

theorem repeatIndex_of_new {m : PayerMap} (new : findScope m sc = none) :
    repeatIndex m sc reader ref = none := by
  rw [repeatIndex, new]

/-! ### A card frame (R193) -/

/-- A reader's frame of kind 22 is heard and delivered. -/
theorem exec_card (sent : Sent s e 1 h) (isReader : e.cls = .reader) {payload : List Byte}
    (short : payload.length ≤ 16) :
    exec (.cardPresented h payload) s = .next (deliver e 22 payload (hear e s)) := by
  have taken : receiveKind none 22 h payload s = takeCommands none (deliver e 22 payload (hear e s)) :=
    receiveKind_of_sent sent short (by rw [isReader]; rfl) rfl (heartbeatOk_of_other _ (by decide) _ _) none
  refine congrArg Host.Outcome.next (taken.trans (takeCommands_of_empty ?_))
  exact ((deliver_effect e (kind := 22) payload _ (by decide)).fifo.trans (hear_effect e s).fifo).trans sent.quiet

/-- A reader's card is presented for the scope that the reader is bound to (R82). -/
theorem exec_card_present (sent : Sent s e 1 h) (isReader : e.cls = .reader) (present : e.timer ≠ none)
    (bound : scopeOfBinding e.binding = some sc) (r1 r0 l2 l1 l0 : Byte) :
    exec (.cardPresented h [r1, r0, l2, l1, l0]) s =
      .next (presentCard e.addr sc (fromBigEndian [r1, r0]) (fromBigEndian [l2, l1, l0]) (heardAgain e s)) := by
  rw [exec_card sent isReader (by simp), hear_present present]
  change Host.Outcome.next (deliverCard e _ _ _) = _
  rw [deliverCard, bound]

theorem present_reader_installs_card : Claims.PresentReaderInstallsCard := by
  intro s e h r1 r0 l2 l1 l0 sc sent isReader present bound
  have card := exec_card_present sent isReader present bound r1 r0 l2 l1 l0
  dsimp only
  rw [card]
  generalize fromBigEndian [r1, r0] = ref
  generalize fromBigEndian [l2, l1, l0] = limit
  have seats : (heardAgain e s).seats = s.seats := rfl
  have payers : (heardAgain e s).payers = s.payers := rfl
  refine ⟨fun out => congrArg _ (presentCard_range out), fun low high => ?_⟩
  rw [presentCard_of_range low high, seats, payers]
  refine ⟨fun empty => ?_, fun occupied => ?_⟩
  · rw [empty]
    rfl
  rw [occupied, if_neg (by decide)]
  refine ⟨fun i p found payer => ?_, fun new => ?_⟩
  · rw [repeatIndex_of_payer found payer, found]
    refine ⟨fun same => ?_, fun other => ?_⟩
    · rw [if_pos same]
      rfl
    · rw [if_neg other]
      rfl
  · rw [repeatIndex_of_new new, new]
    refine ⟨fun full => ?_, fun i free taken => ?_⟩
    · rw [lowestFree_eq_none full]
      rfl
    · rw [lowestFree_eq_some free taken]
      dsimp only
      rw [if_neg (by decide), installCard_eq, payers]
      rfl

/-! ### A SILENT reader's return (R194, R195) -/

/-- The entry of a station whose presence timer has been set. -/
theorem stationAt_setPresence {roster : List Station} {addr : Nat} (listed : stationAt roster addr = some e)
    (t : Timer) : stationAt (setPresence roster e.addr t) addr = some { e with timer := t } := by
  have address : ∀ x : Station, (if x.addr = e.addr then { x with timer := t } else x).addr = x.addr :=
    fun x => by split <;> rfl
  rw [stationAt, setPresence, List.find?_map]
  have same : (fun x : Station => decide (x.addr = addr)) ∘
      (fun x => if x.addr = e.addr then { x with timer := t } else x) = fun x => decide (x.addr = addr) :=
    funext fun x => by rw [Function.comp_apply, address]
  rw [same]
  change Option.map _ (stationAt roster addr) = _
  rw [listed, Option.map_some, if_pos rfl]

/-- A presence timer set again to the same value (R194). -/
theorem setPresence_setPresence (roster : List Station) (addr : Nat) (t : Timer) :
    setPresence (setPresence roster addr t) addr t = setPresence roster addr t := by
  unfold setPresence
  rw [List.map_map]
  refine List.map_congr_left fun x _ => ?_
  by_cases same : x.addr = addr <;> simp [same]

/-- A card's delivery reads its station's address and binding. -/
theorem deliver_card_timer (e : Station) (t : Timer) (payload : List Byte) (s : State) :
    deliver { e with timer := t } 22 payload s = deliver e 22 payload s := by
  unfold deliver
  rfl

/-- A reader that has returned has sent its frame as a PRESENT one. -/
theorem Sent.returned {w : State} (sent : Sent s e 1 h) (fare : FareOnly (heardAgain e s) w) :
    Sent w { e with timer := some 2000 } 1 h := by
  obtain ⟨loaded, quiet, listed, header, cls, dest⟩ := sent
  refine ⟨?_, fare.fifo.trans quiet, ?_, header, cls, ?_⟩
  · rw [fare.start]
    exact loaded
  · rw [fare.roster]
    exact stationAt_setPresence listed _
  · rw [fare.tariff]
    exact dest

/-- A reader that has returned is heard without effect (R194). -/
theorem hear_returned {w : State} (fare : FareOnly (heardAgain e s) w) :
    hear { e with timer := some 2000 } w = w := by
  have roster : setPresence w.line.roster e.addr (some 2000) = w.line.roster := by
    rw [fare.roster]
    exact setPresence_setPresence _ _ _
  rw [hear_present (Option.some_ne_none _), heardAgain]
  dsimp only
  rw [roster]
  rfl

theorem silent_reader_returns_before_card : Claims.SilentReaderReturnsBeforeCard := by
  intro s e h payload sent isReader silent short
  have fare := passAndCompare_fare (heardAgain e s)
  have notice : hear e s = passAndCompare (heardAgain e s) := by
    rw [hear_silent silent, presentNotice, isReader]
  rw [exec_card sent isReader short, exec_card (sent.returned fare) isReader short, notice, hear_returned fare,
    deliver_card_timer e (some 2000)]

/-- Settles O39: a PRESENT reader's card goes straight to the checks of its presentation; a SILENT one's finds the
state that the return has left, in which the reader is PRESENT. -/
theorem presentedCardIsInstalled : Obligations.PresentedCardIsInstalled :=
  ⟨present_reader_installs_card, silent_reader_returns_before_card⟩

end Sys2Proof.Machine

/-! PROOFS. A charge that ends without a credit: refused, timed out, aborted, or lost with its reader (R92, R98, R108 to
R113). -/

namespace Sys2Proof.Machine

-- One theorem at a time: the memory limit of the check counts the stack of every thread.
set_option Elab.async false

variable {s t v w : State} {q : Seat} {i j : Fin 8} {p r : Payer} {c : Charge} {e : Tag}

/-! ### The seat and the payer (R50, R92, R108, R109) -/

/-- The record of a seat whose charge has ended without a credit (R50). -/
def unpaidSeat (r : SeatRecord) : SeatRecord := { r with state := .due }

/-- A charge taken back removes the payer that was CHARGING for it (R92). -/
theorem endCharge_freed (payer : s.payers.get i = some p) (charging : p.charging = some q) :
    Freed s (endCharge i 0 false (setCharge q none none s)) q i none := by
  rw [endCharge_of_charging (s := setCharge q none none s) payer charging]
  exact ⟨rfl, rfl, rfl, rfl, rfl, rfl, rfl⟩

theorem Freed.leaves_paying (h : Freed s w q i none) (paying : (s.seat q).state = .paying) :
    Returned s (leavePaying q w) q i none (unpaidSeat (s.seat q)) := by
  rw [leavePaying_of_paying (by rw [h.seat]; exact paying), h.seat]
  exact h.returned (unpaidSeat (s.seat q))

/-- The records and the blocks beside the line after a charge that has ended without a credit. -/
structure Unpaid (s t : State) (q : Seat) (i : Fin 8) (late : List Tag) : Prop where
  seats : t.seats = s.seats.set q (unpaidSeat (s.seat q))
  payers : t.payers = s.payers.set i none
  charges : t.charges = s.charges.set q none
  tags : t.tags = { s.tags with slots := s.tags.slots.set q none, late := late }
  accounts : t.accounts = s.accounts
  hold : t.hold = s.hold

/-- The same, field by field. -/
theorem Unpaid.fields {late : List Tag} (h : Unpaid s t q i late) :
    t.seats = s.seats.set q { s.seat q with state := .due } ∧ t.payers = s.payers.set i none ∧
      t.charges = s.charges.set q none ∧
      t.tags = { s.tags with slots := s.tags.slots.set q none, late := late } ∧
      t.accounts = s.accounts ∧ t.hold = s.hold :=
  ⟨h.seats, h.payers, h.charges, h.tags, h.accounts, h.hold⟩

/-- With no payer left, the pass that follows takes no seat up (R98). -/
theorem Freed.ends_unpaid (h : Freed s w q i none) (held : w.hold = s.hold)
    (paying : (s.seat q).state = .paying) (only : ∀ j, j ≠ i → s.payers.get j = none) :
    Unpaid s (compareDisplays (chargePass (leavePaying q w))) q i s.tags.late := by
  have returned := h.leaves_paying paying
  have ends := pass_ends (v := leavePaying q w) fun x => examine_of_no_payer fun j => by
    rw [returned.payers, PerIndex.get_set]
    split
    · rfl
    · next other => exact only j other
  refine ⟨ends.seats.trans returned.seats, ends.payers.trans returned.payers, ends.charges.trans returned.charges,
    ends.tags.trans returned.tags, ends.accounts.trans returned.accounts, ends.hold.trans ?_⟩
  exact (leavePaying_fare q w).hold.trans held

/-! ### An end without a result (R109, R113) -/

/-- A tag given up: it joins the late list, and its reader is told (R109, R113). -/
def givenUp (e : Tag) (s : State) : State :=
  send e.reader (.chargeCancel e.tag) (s.setTags { s.tags with late := addLate e s.tags.late })

/-- The charge taken back and its reader told, before the payer goes. -/
def chargeCancelled (q : Seat) (e : Tag) (s : State) : State := givenUp e (setCharge q none none s)

theorem endWithoutResult_eq (charge : s.charges.get q = some c) (slot : s.tags.slots.get q = some e) :
    endWithoutResult q s = compareDisplays (chargePass (leavePaying q
      (endCharge c.index 0 false (chargeCancelled q e s)))) := by
  unfold endWithoutResult
  rw [charge, slot]
  rfl

theorem givenUp_only (e : Tag) (s : State) :
    QueueOnly (s.setTags { s.tags with late := addLate e s.tags.late }) (givenUp e s) := by
  unfold givenUp
  exact send_only _ _ _

/-- The tag given up with its charge: the reader's tag is late, and the payer is removed (R109, R113). -/
theorem endCharge_given_up (payer : s.payers.get i = some p) (charging : p.charging = some q) :
    Freed (s.setTags { s.tags with late := addLate e s.tags.late })
      (endCharge i 0 false (chargeCancelled q e s)) q i none := by
  have told := givenUp_only e (setCharge q none none s)
  rw [endCharge_of_charging (s := chargeCancelled q e s) (by rw [chargeCancelled, told.payers]; exact payer)
    charging]
  exact ⟨told.seats, told.accounts, told.tariff, told.roster, told.charges, told.tags,
    congrArg (PerIndex.set · i none) told.payers⟩

/-- A charge ends without a result, and its reader is told to cancel it (R109). -/
theorem endWithoutResult_unpaid (paying : (s.seat q).state = .paying) (charge : s.charges.get q = some c)
    (slot : s.tags.slots.get q = some e) (payer : s.payers.get c.index = some p)
    (charging : p.charging = some q) (only : ∀ j, j ≠ c.index → s.payers.get j = none) :
    Unpaid s (endWithoutResult q s) q c.index (addLate e s.tags.late) := by
  have freed := endCharge_given_up (e := e) payer charging
  have held : (endCharge c.index 0 false (chargeCancelled q e s)).hold = s.hold :=
    (endCharge_fare _ _ _ _).hold.trans (givenUp_only e (setCharge q none none s)).hold
  rw [endWithoutResult_eq charge slot]
  obtain ⟨seats, payers, charges, tags, accounts, hold⟩ := freed.ends_unpaid held paying only
  exact ⟨seats, payers, charges, tags, accounts, hold⟩

theorem endCharge_tells (n : Nat) (full : Bool) : Tells Behaved 0 s (endCharge i n full s) := by
  unfold endCharge
  split
  · split
    · exact .of_eq rfl rfl rfl
    · exact .refl s
  · exact .refl s

/-- The CHARGE_CANCEL stays in the queue through the seat's return and the pass (R109). -/
theorem endWithoutResult_cancels (charge : s.charges.get q = some c) (slot : s.tags.slots.get q = some e)
    (room : s.line.queue.length < 16) :
    { dest := e.reader, answer := false, body := .chargeCancel e.tag } ∈ (endWithoutResult q s).line.queue := by
  have asked : { dest := e.reader, answer := false, body := .chargeCancel e.tag } ∈
      (chargeCancelled q e s).line.queue := mem_enqueue_self room
  rw [endWithoutResult_eq charge slot]
  have after := (((endCharge_tells (i := c.index) (s := chargeCancelled q e s) 0 false).trans
    (leavePaying_tells (q := q))).trans chargePass_tells).trans compareDisplays_tells
  exact after.mem_of_top asked rfl

/-- Without a charge there is nothing to end (log entry 13). -/
theorem endWithoutResult_of_none (h : s.charges.get q = none) : endWithoutResult q s = s := by
  unfold endWithoutResult
  rw [h]

/-! ### ABORT_CHARGE and a reader's silence (R110, R111) -/

theorem seatOfNumber_byte (q : Seat) : seatOfNumber (byte (seatNumber q)).toNat = some q := by
  cases q <;> rfl

theorem abortChargeCommand_range {seat : Byte} (h : seatOfNumber seat.toNat = none) :
    abortChargeCommand seat s = refuse s .range := by
  rw [abortChargeCommand, seatArg_none h]

theorem abortChargeCommand_idle {seat : Byte} (h : seatOfNumber seat.toNat = some q)
    (idle : (s.seat q).state ≠ .paying) : abortChargeCommand seat s = refuse s .state := by
  rw [abortChargeCommand, seatArg_some h]
  exact if_neg idle

theorem abortChargeCommand_paying {seat : Byte} (h : seatOfNumber seat.toNat = some q)
    (paying : (s.seat q).state = .paying) (slot : s.tags.slots.get q = some e) :
    abortChargeCommand seat s = done (endWithoutResult q s) [byte e.tag] := by
  rw [abortChargeCommand, seatArg_some h]
  dsimp only
  rw [if_pos paying, slot]

/-- The one charge at a reader (R96, R111). -/
theorem chargeAtReader_some (charge : s.charges.get q = some c) (slot : s.tags.slots.get q = some e)
    (only : ∀ x f, x ≠ q → s.tags.slots.get x = some f → f.reader ≠ e.reader) :
    chargeAtReader s e.reader = some q := by
  unfold chargeAtReader
  cases found : allSeats.find? (fun x =>
      (s.charges.get x).isSome && (s.tags.slots.get x).any (fun f => f.reader = e.reader)) with
  | none =>
    have absent := List.find?_eq_none.1 found q (mem_allSeats q)
    rw [charge, slot] at absent
    simp at absent
  | some x =>
    by_contra other
    have both := List.find?_some found
    rw [Bool.and_eq_true] at both
    obtain ⟨-, at_⟩ := both
    obtain ⟨f, held, same⟩ := (Option.any_eq_true _ _).1 at_
    exact only x f (fun e => other (congrArg some e)) held (of_decide_eq_true same)

/-- A reader turns SILENT: its charge ends in the state in which its timer has run out (R111). -/
theorem presenceExpires_reader {addr : Nat} {x : Station} (listed : stationAt s.line.roster addr = some x)
    (isReader : x.cls = .reader) (present : x.timer ≠ none) (at_ : x.addr = e.reader)
    (charge : s.charges.get q = some c) (slot : s.tags.slots.get q = some e)
    (only : ∀ x f, x ≠ q → s.tags.slots.get x = some f → f.reader ≠ e.reader) :
    presenceExpires addr s = endWithoutResult q (setTimer addr none s) := by
  have charged : chargeAtReader (setTimer addr none s) e.reader = some q :=
    chargeAtReader_some (s := setTimer addr none s) charge slot only
  rw [presenceExpires_present listed present, silentNotice, isReader]
  dsimp only
  rw [readerSilent, at_, charged]

theorem charge_ends_without_credit : Claims.ChargeEndsWithoutCredit := by
  intro s q c e p quiet _ paying charge slot payer charging only
  have unpaid := endWithoutResult_unpaid paying charge slot payer charging only
  have sent := endWithoutResult_cancels charge slot
  refine ⟨?_, ⟨endWithoutResult q s, ?_, ?_, sent⟩, fun a seq ready => ⟨endWithoutResult q s, ?_, ?_, sent⟩,
    fun station x listed isReader present at_ apart =>
      ⟨endWithoutResult q (setTimer station.toNat none s), ?_, ?_, ?_, ?_⟩⟩
  · exact ((endCharge_freed payer charging).ends_unpaid (endCharge_fare _ _ _ _).hold paying only).fields
  · exact congrArg Host.Outcome.next
      (takeCommands_of_empty ((endWithoutResult_fare q s).fifo.trans quiet))
  · exact unpaid.fields
  · exact exec_row_of_perform (service := false) (c := .abortCharge (byte (seatNumber q))) ready rfl
      (abortChargeCommand_paying (seatOfNumber_byte q) paying slot)
  · exact unpaid.fields
  · have ended := presenceExpires_reader listed isReader present at_ charge slot apart
    refine congrArg Host.Outcome.next ((congrArg (takeCommands none) ended).trans (takeCommands_of_empty ?_))
    exact (endWithoutResult_fare q _).fifo.trans quiet
  · exact (endWithoutResult_unpaid (s := setTimer station.toNat none s) paying charge slot payer charging
      only).fields
  · exact endWithoutResult_cancels (s := setTimer station.toNat none s) charge slot
  · exact (endWithoutResult_fare q _).roster

/-! ### The party's card (R80, R98, R108) -/

/-- A seat whose own payer has been removed is charged again by the pass, where the party's card can be. -/
theorem Returned.charges_party {r' : SeatRecord} {reader ref : Nat} (h : Returned s v q i none r')
    (alone : ∀ x, x ≠ q → (s.seat x).state ≠ .due) (apart : j ≠ i) (payer : s.payers.get j = some p)
    (only : ∀ k, k ≠ i → k ≠ j → s.payers.get k = none) (due : r'.state = .due) (owing : 0 < r'.due)
    (room : r'.payments.length < 6) (party : p.scope = .party) (card : p.kind = .card reader ref)
    (idle : p.charging = none) (unspent : p.spent < p.limit)
    (present : readerPresent s.line.roster reader = true)
    (free : ∀ x f, x ≠ q → s.tags.slots.get x = some f → f.reader ≠ reader) :
    Started v (chargePass v) q j p reader := by
  have seat : v.seat q = r' := by rw [State.seat, h.seats, PerSeat.get_set_self]
  have kept : v.payers.get j = some p := by rw [h.payers, PerIndex.get_set, if_neg apart, payer]
  have others : ∀ k, k ≠ j → v.payers.get k = none := fun k ne => by
    rw [h.payers, PerIndex.get_set]
    split
    · rfl
    · next other => exact only k other ne
  have idleReader : ∀ x f, v.tags.slots.get x = some f → f.reader ≠ reader := fun x f slot => by
    rw [h.tags] at slot
    obtain ⟨other, held⟩ := PerSeat.set_none_some slot
    exact free x f other held
  refine chargePass_card_alone (fun x ne => by rw [seat_of_set h.seats ne]; exact alone x ne)
    ⟨seat ▸ due, seat ▸ owing, seat ▸ room, resolve_only others kept (.inr party), kept, idle, unspent⟩ card
    (readerReady_card card (by rw [h.roster]; exact present) idleReader)

theorem unpaidSeat_paying {x : SeatRecord} (h : x.state = .paying) : { unpaidSeat x with state := .paying } = x := by
  cases x
  dsimp only at h
  subst h
  rfl

theorem leavePaying_length_le (q : Seat) (s : State) :
    (leavePaying q s).line.queue.length ≤ s.line.queue.length + 1 := by
  unfold leavePaying
  dsimp only
  split
  · next paying => exact changeSeat_length_le (by rw [SeatRecord.vacant, SeatRecord.vacant, paying]; rfl)
  · exact Nat.le_succ _

theorem refused_card_falls_back_to_party : Claims.RefusedCardFallsBackToParty := by
  intro s q c p r j reader ref alone paying owing places payer charging _ apart card party kind idle unspent
    only present free room
  have returned := (endCharge_freed payer charging).leaves_paying paying
  have short : (leavePaying q (endCharge c.index 0 false (setCharge q none none s))).line.queue.length < 16 := by
    have line : (endCharge c.index 0 false (setCharge q none none s)).line = s.line :=
      endCharge_frame _ _ _ _ .line (by decide)
    have back := leavePaying_length_le q (endCharge c.index 0 false (setCharge q none none s))
    rw [line] at back
    omega
  have started := returned.charges_party alone apart card only rfl owing places party kind idle unspent
    present free
  have eq : decline q c s = compareDisplays (chargePass
      (leavePaying q (endCharge c.index 0 false (setCharge q none none s)))) := rfl
  dsimp only
  rw [eq]
  generalize leavePaying q (endCharge c.index 0 false (setCharge q none none s)) = v at returned short started
  have seat : v.seat q = unpaidSeat (s.seat q) := by rw [State.seat, returned.seats, PerSeat.get_set_self]
  have given : chargeGiven q j r v =
      { index := j, requested := min (s.seat q).due (r.limit - r.spent),
        ceiling := min (min (min (s.seat q).due (r.limit - r.spent) * s.tariff.tipPercent / 100)
          (r.limit - r.spent - min (s.seat q).due (r.limit - r.spent))) 99999,
        timer := s.tariff.chargeTimeout } := by
    rw [chargeGiven, seat, returned.tariff]
    rfl
  have shown := compareDisplays_only (chargePass v)
  refine ⟨?_, ?_, ?_, ?_, ?_⟩
  · rw [shown.seats, started.seats, seat, returned.seats, PerSeat.set_set, unpaidSeat_paying paying]
    exact PerSeat.set_get _ _
  · rw [shown.payers, started.payers, returned.payers]
  · rw [shown.charges, started.charges, given, returned.charges, PerSeat.set_set]
  · rw [shown.tags, started.tags, returned.tags, PerSeat.set_set]
  · have asked := started.asked short
    rw [given, returned.tags] at asked
    exact compareDisplays_tells.mem_of_top asked rfl

theorem no_charge_no_ending : Claims.NoChargeNoEnding := by
  intro s a seq seat ready
  have abort := fun {code data} (e : abortChargeCommand seat s = (s, ⟨code, data⟩)) =>
    exec_row_of_perform (service := false) (seq := seq) (c := .abortCharge seat) ready rfl e
  refine ⟨fun out => abort (abortChargeCommand_range out), fun q isSeat =>
    ⟨fun idle => abort (abortChargeCommand_idle isSeat idle), fun none_ => congrArg Host.Outcome.next ?_⟩⟩
  rw [endWithoutResult_of_none none_]
  exact takeCommands_of_empty ready.empty

/-- Settles O45: every end takes the charge back in one way, after which the pass finds no payer or the party's card;
an end that finds no charge is refused or changes nothing. -/
theorem chargeEndsOrIsNotThere : Obligations.ChargeEndsOrIsNotThere :=
  ⟨charge_ends_without_credit, refused_card_falls_back_to_party, no_charge_no_ending⟩

end Sys2Proof.Machine

/-! PROOFS. The tag of a charge start, and the late list (R97, R101, R113). -/

namespace Sys2Proof.Machine

-- One theorem at a time: the memory limit of the check counts the stack of every thread.
set_option Elab.async false

variable {t : Tags}

/-! ### The tags that are used (R101) -/

/-- The tags of the charges in flight and of the late list. -/
def usedTags (t : Tags) : List Nat := (allSeats.filterMap t.slots.get).map (·.tag) ++ t.late.map (·.tag)

theorem mem_usedTags_of_slot {q : Seat} {e : Tag} (slot : t.slots.get q = some e) : e.tag ∈ usedTags t :=
  List.mem_append_left _ (List.mem_map_of_mem (List.mem_filterMap.2 ⟨q, mem_allSeats q, slot⟩))

theorem mem_usedTags_of_late {e : Tag} (late : e ∈ t.late) : e.tag ∈ usedTags t :=
  List.mem_append_right _ (List.mem_map_of_mem late)

theorem tagUsed_iff (t : Tags) (n : Nat) : tagUsed t n = true ↔ n ∈ usedTags t := by
  rw [tagUsed, Bool.or_eq_true, PerSeat.any_iff, List.any_eq_true]
  constructor
  · rintro (⟨q, slot⟩ | ⟨e, late, same⟩)
    · obtain ⟨e, held, same⟩ := (Option.any_eq_true _ _).1 slot
      exact of_decide_eq_true same ▸ mem_usedTags_of_slot held
    · exact of_decide_eq_true same ▸ mem_usedTags_of_late late
  · intro used
    rcases List.mem_append.1 used with used | used
    · obtain ⟨e, held, rfl⟩ := List.mem_map.1 used
      obtain ⟨q, -, slot⟩ := List.mem_filterMap.1 held
      exact .inl ⟨q, by simp [slot]⟩
    · obtain ⟨e, late, rfl⟩ := List.mem_map.1 used
      exact .inr ⟨e, late, decide_eq_true rfl⟩

/-- A seat without a charge leaves at most three tags in flight, beside the late list's four. -/
theorem length_usedTags_le (late : t.late.length ≤ 4) (idle : ∃ q : Seat, t.slots.get q = none) :
    (usedTags t).length ≤ 7 := by
  obtain ⟨q, empty⟩ := idle
  have flying : (allSeats.filterMap t.slots.get).length < allSeats.length :=
    List.length_filterMap_lt_length_iff_exists.2 ⟨q, mem_allSeats q, empty⟩
  have four : allSeats.length = 4 := rfl
  rw [usedTags, List.length_append, List.length_map, List.length_map]
  omega

/-! ### The candidates of a charge start (R101) -/

/-- The candidate that follows the counter by `k + 1` places. -/
def tagCandidate (t : Tags) (k : Nat) : Nat := Nat.repeat nextTag (k + 1) t.counter

theorem tagCandidate_eq (small : t.counter ≤ 255) (k : Nat) : tagCandidate t k = (t.counter + k) % 255 + 1 := by
  induction k with
  | zero =>
    change nextTag t.counter = _
    unfold nextTag
    split <;> omega
  | succ k ih =>
    change nextTag (tagCandidate t k) = _
    rw [ih]
    unfold nextTag
    split <;> omega

/-- Eight candidates in a row differ, so they are not all among seven used tags. -/
theorem exists_unused_candidate (small : t.counter ≤ 255) (few : (usedTags t).length ≤ 7) :
    ∃ k < 8, tagUsed t (tagCandidate t k) = false := by
  by_contra all
  have used : Set.MapsTo (tagCandidate t) (Finset.range 8) (usedTags t).toFinset := fun k below => by
    rw [Finset.mem_coe, List.mem_toFinset, ← tagUsed_iff]
    by_contra unused
    exact all ⟨k, Finset.mem_range.1 below, Bool.eq_false_of_not_eq_true unused⟩
  have fewer : (usedTags t).toFinset.card < (Finset.range 8).card := by
    have := List.toFinset_card_le (usedTags t)
    rw [Finset.card_range]
    omega
  obtain ⟨i, hi, j, hj, differ, same⟩ := Finset.exists_ne_map_eq_of_card_lt_of_maps_to fewer used
  rw [tagCandidate_eq small, tagCandidate_eq small] at same
  rw [Finset.mem_range] at hi hj
  omega

/-- The search passes over `m` used candidates and stops at the unused one behind them. -/
theorem freeTag_skips {i m fuel : Nat} (enough : m < fuel)
    (used : ∀ j, i ≤ j → j < i + m → tagUsed t (tagCandidate t j) = true)
    (unused : tagUsed t (tagCandidate t (i + m)) = false) :
    freeTag t fuel (tagCandidate t i) = tagCandidate t (i + m) := by
  induction m generalizing i fuel with
  | zero =>
    obtain ⟨fuel, rfl⟩ := Nat.exists_eq_add_of_lt enough
    rw [freeTag, if_neg (by simpa using unused)]
    rfl
  | succ m ih =>
    obtain _ | fuel := fuel
    · omega
    have place : i + (m + 1) = i + 1 + m := by omega
    rw [freeTag, if_pos (used i le_rfl (by omega)), place]
    exact ih (by omega) (fun j low high => used j (by omega) (by omega)) (place ▸ unused)

/-- The tag of a charge start is the first unused candidate (R101). -/
theorem newTag_first (small : t.counter ≤ 255) (few : (usedTags t).length ≤ 7) :
    ∃ k, newTag t = tagCandidate t k ∧ tagUsed t (tagCandidate t k) = false ∧
      ∀ j, j < k → tagUsed t (tagCandidate t j) = true := by
  obtain ⟨n, below, unused⟩ := exists_unused_candidate small few
  have free : ∃ k, tagUsed t (tagCandidate t k) = false := ⟨n, unused⟩
  have before : ∀ j, j < Nat.find free → tagUsed t (tagCandidate t j) = true := fun j lower =>
    Bool.eq_true_of_not_eq_false (Nat.find_min free lower)
  have near : Nat.find free < 255 := by
    have := Nat.find_min' free unused
    omega
  have found := freeTag_skips (i := 0) near (fun j _ lower => before j (by omega))
    (by rw [Nat.zero_add]; exact Nat.find_spec free)
  rw [Nat.zero_add] at found
  exact ⟨Nat.find free, found, Nat.find_spec free, before⟩

theorem new_tag_is_first_unused : Claims.NewTagIsFirstUnused := by
  intro t small late idle
  obtain ⟨k, first, unused, before⟩ := newTag_first small (length_usedTags_le late idle)
  have fresh : newTag t ∉ usedTags t := by
    rw [← tagUsed_iff, first, unused]
    decide
  have value := first.trans (tagCandidate_eq small k)
  exact ⟨by omega, by omega, fun q e slot same => fresh (same ▸ mem_usedTags_of_slot slot),
    fun e late same => fresh (same ▸ mem_usedTags_of_late late), k, first, before⟩

/-! ### The late list (R113) -/

theorem addLate_of_listed {late : List Tag} {e x : Tag} (listed : x ∈ late) (same : x.tag = e.tag) :
    addLate e late = late :=
  if_pos (List.any_eq_true.2 ⟨x, listed, decide_eq_true same⟩)

theorem addLate_of_new {late : List Tag} {e : Tag} (new : ∀ x ∈ late, x.tag ≠ e.tag) :
    addLate e late = (if late.length < 4 then late else late.drop 1) ++ [e] := by
  have absent : late.any (fun x => x.tag = e.tag) = false :=
    List.any_eq_false.2 fun x listed => by simpa using new x listed
  rw [addLate, absent]
  rfl

theorem late_list_keeps_four : Claims.LateListKeepsFour := by
  refine fun late e => ⟨fun x => addLate_of_listed, fun new => ⟨fun room => ?_, fun full => ?_⟩⟩
  · rw [addLate_of_new new, if_pos room]
  · rw [addLate_of_new new, if_neg (by omega)]

/-- Settles O41: among eight candidates one is unused, and the search stops at the first such. -/
theorem tagsAreNewAndLateListKeepsFour : Obligations.TagsAreNewAndLateListKeepsFour :=
  ⟨new_tag_is_first_unused, late_list_keeps_four⟩

end Sys2Proof.Machine

/-! PROOFS. A CHARGE_RESULT: its match by tag and reader, a late entry's result, and the return of a SILENT reader
(R104, R112, R114, R181, R193 to R195). -/

namespace Sys2Proof.Machine

-- One theorem at a time: the memory limit of the check counts the stack of every thread.
set_option Elab.async false

variable {s : State} {e : Station} {h : Header} {q : Seat} {c : Charge} {x : Tag}
  {src tag outcome amount tip : Nat}

/-! ### The match by tag (R104, R112) -/

theorem takeResult_invalid (invalid : 2 < outcome ∨ tag = 0) : takeResult src tag outcome amount tip s = s :=
  if_pos invalid

theorem takeResult_of_seat (known : outcome ≤ 2) (given : 0 < tag) (seat : seatOfTag s tag = some q) :
    takeResult src tag outcome amount tip s = chargeAnswer q src outcome amount tip s := by
  rw [takeResult, if_neg (by omega), seat]

theorem takeResult_unknown (known : outcome ≤ 2) (given : 0 < tag) (seat : seatOfTag s tag = none)
    (late : ∀ y ∈ s.tags.late, y.tag ≠ tag) : takeResult src tag outcome amount tip s = s := by
  have absent : s.tags.late.find? (fun y => y.tag = tag) = none :=
    List.find?_eq_none.2 fun y listed => by simpa using late y listed
  rw [takeResult, if_neg (by omega), seat]
  dsimp only
  rw [absent]

theorem takeResult_of_late (known : outcome ≤ 2) (given : 0 < tag) (seat : seatOfTag s tag = none)
    (late : s.tags.late.find? (fun y => y.tag = tag) = some x) :
    takeResult src tag outcome amount tip s =
      if x.reader = src then lateResult x (outcome = 0) s else raiseCause .source src s := by
  rw [takeResult, if_neg (by omega), seat]
  dsimp only
  rw [late]

theorem chargeAnswer_of_charge (charge : s.charges.get q = some c) (slot : s.tags.slots.get q = some x) :
    chargeAnswer q src outcome amount tip s =
      if x.reader = src then
        if outcome = 0 then approve q c x amount tip s else decline q c s
      else raiseCause .source src s := by
  rw [chargeAnswer, charge, slot]

/-! ### A late entry's result (R114, R181) -/

/-- What a late entry's result leaves of the records: its entry is gone, and the voids are as given. -/
structure LateTaken (s t : State) (x : Tag) (lifetime shift : Nat) : Prop where
  tags : t.tags = { s.tags with late := s.tags.late.filter (fun y => y.tag ≠ x.tag) }
  seats : t.seats = s.seats
  payers : t.payers = s.payers
  charges : t.charges = s.charges
  lifetime : t.accounts.totalizers.voids = lifetime
  shift : t.accounts.shift.totals.voids = shift

theorem lateResult_refused (x : Tag) (s : State) :
    LateTaken s (lateResult x false s) x s.accounts.totalizers.voids s.accounts.shift.totals.voids :=
  ⟨rfl, rfl, rfl, rfl, rfl, rfl⟩

theorem countVoid_lifetime (s : State) :
    (countVoid s).accounts.totalizers.voids = min max32 (s.accounts.totalizers.voids + 1) := rfl

theorem countVoid_shift (s : State) :
    (countVoid s).accounts.shift.totals.voids =
      if s.accounts.shift.state ≠ .closed then min max16 (s.accounts.shift.totals.voids + 1)
      else s.accounts.shift.totals.voids := by
  rw [ite_not]
  unfold countVoid
  dsimp only [State.setAccounts_accounts]
  split <;> rfl

/-- A late approval's VOID leaves the records, and is counted. -/
theorem lateResult_approved (x : Tag) (s : State) :
    LateTaken s (lateResult x true s) x (min max32 (s.accounts.totalizers.voids + 1))
      (if s.accounts.shift.state ≠ .closed then min max16 (s.accounts.shift.totals.voids + 1)
       else s.accounts.shift.totals.voids) := by
  have told := send_only x.reader (.void x.tag) s
  refine ⟨?_, told.seats, told.payers, told.charges, ?_, ?_⟩
  · rw [← told.tags]
    rfl
  · rw [← told.accounts]
    exact countVoid_lifetime _
  · rw [← told.accounts]
    exact countVoid_shift _

theorem lateResult_voids (x : Tag) (room : s.line.queue.length < 16) :
    { dest := x.reader, answer := false, body := .void x.tag } ∈ (lateResult x true s).line.queue :=
  mem_enqueue_self (s := s) room

/-- A late entry's result, whatever its outcome: only an approval is voided and counted. -/
theorem lateResult_taken (x : Tag) (outcome : Nat) (s : State) :
    LateTaken s (lateResult x (outcome = 0) s) x
      (if outcome = 0 then min max32 (s.accounts.totalizers.voids + 1) else s.accounts.totalizers.voids)
      (if outcome = 0 ∧ s.accounts.shift.state ≠ .closed then min max16 (s.accounts.shift.totals.voids + 1)
       else s.accounts.shift.totals.voids) := by
  by_cases approved : outcome = 0
  · simpa [approved] using lateResult_approved x s
  · simpa [approved] using lateResult_refused x s

/-! ### A result frame (R193) -/

/-- A reader's frame of kind 8 is heard and delivered. -/
theorem exec_result (sent : Sent s e 0 h) (isReader : e.cls = .reader) {payload : List Byte}
    (short : payload.length ≤ 16) :
    exec (.chargeResult h payload) s = .next (deliver e 8 payload (hear e s)) := by
  have taken : receiveKind none 8 h payload s = takeCommands none (deliver e 8 payload (hear e s)) :=
    receiveKind_of_sent sent short (by rw [isReader]; rfl) rfl (heartbeatOk_of_other _ (by decide) _ _) none
  refine congrArg Host.Outcome.next (taken.trans (takeCommands_of_empty ?_))
  exact ((deliver_effect e (kind := 8) payload _ (by decide)).fifo.trans (hear_effect e s).fifo).trans sent.quiet

theorem exec_result_present (sent : Sent s e 0 h) (isReader : e.cls = .reader) (present : e.timer ≠ none)
    (tag outcome a2 a1 a0 t2 t1 t0 : Byte) :
    exec (.chargeResult h [tag, outcome, a2, a1, a0, t2, t1, t0]) s =
      .next (takeResult e.addr tag.toNat outcome.toNat (fromBigEndian [a2, a1, a0])
        (fromBigEndian [t2, t1, t0]) (heardAgain e s)) := by
  rw [exec_result sent isReader (by simp), hear_present present]
  rfl

theorem present_reader_result_is_matched : Claims.PresentReaderResultIsMatched := by
  intro s e h tag outcome a2 a1 a0 t2 t1 t0 sent isReader present
  dsimp only
  rw [exec_result_present sent isReader present]
  generalize fromBigEndian [a2, a1, a0] = amount
  generalize fromBigEndian [t2, t1, t0] = tip
  refine ⟨fun invalid => congrArg _ (takeResult_invalid invalid), fun known given => ⟨?_, fun seat => ⟨?_, ?_⟩⟩⟩
  · intro q c x seat charge slot
    rw [takeResult_of_seat (s := heardAgain e s) known given seat,
      chargeAnswer_of_charge (s := heardAgain e s) charge slot]
    refine ⟨fun foreign => by rw [if_neg foreign], fun own => ?_⟩
    rw [if_pos own]
    exact ⟨fun approved => by rw [if_pos approved], fun refused => by rw [if_neg (by omega)]⟩
  · exact fun unknown => congrArg _ (takeResult_unknown (s := heardAgain e s) known given seat unknown)
  · intro x late
    rw [takeResult_of_late (s := heardAgain e s) known given seat late]
    refine ⟨fun foreign => by rw [if_neg foreign], fun own => ?_⟩
    rw [if_pos own]
    obtain ⟨tags, seats, payers, charges, lifetime, shift⟩ := lateResult_taken x outcome.toNat (heardAgain e s)
    refine ⟨_, rfl, tags, seats, payers, charges, lifetime, shift, fun approved room => ?_⟩
    rw [approved, ← own]
    exact lateResult_voids x room

/-! ### A SILENT reader's return (R194, R195) -/

/-- The state in which a station's frame arrives decides all of `Sent` but the frame's class. -/
theorem Sent.with_class {cls cls' : Nat} {b : BitVec 2} (sent : Sent s e cls h) (ofClass : b.toNat = cls') :
    Sent s e cls' { h with cls := b } :=
  ⟨sent.loaded, sent.quiet, sent.listed, sent.header, ofClass, sent.dest⟩

theorem Sent.result_returned {w : State} (sent : Sent s e 0 h) (fare : FareOnly (heardAgain e s) w) :
    Sent w { e with timer := some 2000 } 0 h :=
  ((sent.with_class (b := 1) rfl).returned fare).with_class (b := h.cls) sent.cls

theorem deliver_result_timer (e : Station) (t : Timer) (payload : List Byte) (s : State) :
    deliver { e with timer := t } 8 payload s = deliver e 8 payload s := by
  unfold deliver
  rfl

theorem silent_reader_returns_before_result : Claims.SilentReaderReturnsBeforeResult := by
  intro s e h payload sent isReader silent short
  have fare := passAndCompare_fare (heardAgain e s)
  have notice : hear e s = passAndCompare (heardAgain e s) := by
    rw [hear_silent silent, presentNotice, isReader]
  rw [exec_result sent isReader short, exec_result (sent.result_returned fare) isReader short, notice,
    hear_returned fare, deliver_result_timer e (some 2000)]

/-- Settles O43: a PRESENT reader's result goes straight to the match by tag; a SILENT one's finds the state that the
return has left, in which the reader is PRESENT. -/
theorem resultIsMatchedByTag : Obligations.ResultIsMatchedByTag :=
  ⟨present_reader_result_is_matched, silent_reader_returns_before_result⟩

end Sys2Proof.Machine

/-! PROOFS. The intercom switch: its gates, its timers and its call queue at each of its transitions (R120, R124 to R136). -/

namespace Sys2Proof.Machine

-- One theorem at a time: the memory limit of the check counts the stack of every thread.
set_option Elab.async false

variable {s t u : State} {q : Seat} {i j k : Intercom}

/-! ### The gates (R120) -/

/-- Of a seat's record the gates read only whether it is VACANT. -/
theorem gatesOf_congr {v w : PerSeat SeatRecord} (same : ∀ q, (w.get q).vacant = (v.get q).vacant)
    (state : Talk) (target : Target) : gatesOf state target w = gatesOf state target v := by
  cases state with
  | driverTalk => simp only [gatesOf, seatFlags, same]
  | idle | seatTalk _ | guard => rfl

theorem gatesOf_dmic (state : Talk) (target : Target) (v : PerSeat SeatRecord) :
    (gatesOf state target v).dmic = decide (state = .driverTalk) := by
  cases state <;> rfl

theorem gatesOf_dspk (state : Talk) (target : Target) (v : PerSeat SeatRecord) :
    (gatesOf state target v).dspk = true ↔ ∃ q, state = .seatTalk q := by
  cases state <;> simp [gatesOf, gatesClosed]

theorem gatesOf_smic (state : Talk) (target : Target) (v : PerSeat SeatRecord) (n : Seat) :
    (gatesOf state target v).smic.get n = true ↔ state = .seatTalk n := by
  cases state with
  | seatTalk q => simp [gatesOf, PerSeat.get_set, eq_comm]
  | idle | driverTalk | guard => simp [gatesOf, gatesClosed]

@[simp] theorem seatFlags_get (f : Seat → Bool) (n : Seat) : (seatFlags f).get n = f n := by
  cases n <;> rfl

theorem withinTarget_iff (target : Target) (n : Seat) :
    withinTarget target n = true ↔ target = .all ∨ target = .seat n := by
  cases target <;> simp [withinTarget]

theorem gatesOf_spk (state : Talk) (target : Target) (v : PerSeat SeatRecord) (n : Seat) :
    (gatesOf state target v).spk.get n = true ↔
      state = .driverTalk ∧ (target = .all ∨ target = .seat n) ∧ (v.get n).state ≠ .vacant := by
  cases state with
  | driverTalk => simp [gatesOf, withinTarget_iff, SeatRecord.vacant]
  | idle | seatTalk _ | guard => simp [gatesOf, gatesClosed]

theorem gates_ext {g h : Gates} (dmic : g.dmic = h.dmic) (dspk : g.dspk = h.dspk)
    (spk : ∀ n, g.spk.get n = h.spk.get n) (smic : ∀ n, g.smic.get n = h.smic.get n) : g = h := by
  obtain ⟨_, _, _, _⟩ := g
  obtain ⟨_, _, _, _⟩ := h
  cases dmic
  cases dspk
  cases PerSeat.ext_get spk
  cases PerSeat.ext_get smic
  rfl

/-- R120's table, gate by gate, is the function of the state, the target and the seats that the model computes. -/
theorem gateTableLaw_iff (s : State) : GateTableLaw s ↔ GateLaw s := by
  have eqOf : GateLaw s ↔ s.intercom.gates.dmic = decide (s.intercom.state = .driverTalk) ∧
      (s.intercom.gates.dspk = true ↔ ∃ q, s.intercom.state = .seatTalk q) ∧
      (∀ n, s.intercom.gates.spk.get n = true ↔ s.intercom.state = .driverTalk ∧
        (s.intercom.target = .all ∨ s.intercom.target = .seat n) ∧ (s.seat n).state ≠ .vacant) ∧
      ∀ n, s.intercom.gates.smic.get n = true ↔ s.intercom.state = .seatTalk n := by
    constructor
    · intro law
      rw [law]
      exact ⟨gatesOf_dmic _ _ _, gatesOf_dspk _ _ _, gatesOf_spk _ _ _, gatesOf_smic _ _ _⟩
    · rintro ⟨dmic, dspk, spk, smic⟩
      exact gates_ext (dmic.trans (gatesOf_dmic _ _ _).symm)
        (Bool.eq_iff_iff.2 (dspk.trans (gatesOf_dspk _ _ _).symm))
        (fun n => Bool.eq_iff_iff.2 ((spk n).trans (gatesOf_spk _ _ _ n).symm))
        (fun n => Bool.eq_iff_iff.2 ((smic n).trans (gatesOf_smic _ _ _ n).symm))
  rw [eqOf, GateTableLaw]
  cases state : s.intercom.state with
  | idle | guard => simp [forall_and]
  | driverTalk => simp [forall_and]; tauto
  | seatTalk q => simp [forall_and, eq_comm (a := q)]

/-! ### Timers and calls in order (R128 to R131) -/

/-- What `TalkTimerLaw` says of a switch. -/
def TimersInOrder (i : Intercom) : Prop :=
  (i.guardTimer.isSome = true ↔ i.state = .guard) ∧
  (i.talkTimer.isSome = true ↔ ∃ q, i.state = .seatTalk q) ∧
  (i.pendingDriver = true → i.state = .guard)

/-- A seat that may speak or wait to speak, where `occupied` are the non-VACANT seats. -/
def Callable (occupied : Seat → Prop) (i : Intercom) (q : Seat) : Prop :=
  occupied q ∧ i.mute.get q = false ∧ (i.seatPress.get q).isSome = true

/-- What `CallLaw` says of a switch. -/
def CallsInOrder (occupied : Seat → Prop) (i : Intercom) : Prop :=
  i.queue.Nodup ∧ (∀ q ∈ i.queue, Callable occupied i q) ∧
  (∀ q, i.state = .seatTalk q → q ∉ i.queue ∧ Callable occupied i q) ∧
  (i.state = .idle → i.queue = [])

/-- The non-VACANT seats. -/
def Occupied (s : State) (q : Seat) : Prop := (s.seat q).state ≠ .vacant

theorem talkTimerLaw_iff (s : State) : TalkTimerLaw s ↔ TimersInOrder s.intercom := Iff.rfl

theorem callLaw_iff (s : State) : CallLaw s ↔ CallsInOrder (Occupied s) s.intercom := Iff.rfl

/-- A transition keeps the timers and the calls in order, while the seats' occupancy may change. -/
structure Orderly (before after : Seat → Prop) (i j : Intercom) : Prop where
  timers : TimersInOrder i → TimersInOrder j
  calls : CallsInOrder before i → CallsInOrder after j

variable {before after occupied : Seat → Prop}

/-- The calls and their seats stand, and nobody begins to speak. -/
theorem CallsInOrder.of_hushed (h : CallsInOrder before i) (queue : j.queue = i.queue)
    (still : ∀ q, Callable before i q → Callable after j q)
    (state : j.state = i.state ∨ j.state = .guard ∨ j.state = .driverTalk) : CallsInOrder after j := by
  obtain ⟨nodup, waiting, talker, idle⟩ := h
  refine ⟨queue ▸ nodup, fun p hp => still p (waiting p (queue ▸ hp)), fun p talks => ?_, fun quiet => ?_⟩
  · rcases state with same | guard | driver
    · rw [queue]
      exact (talker p (same ▸ talks)).imp_right (still p)
    · rw [guard] at talks
      cases talks
    · rw [driver] at talks
      cases talks
  · rcases state with same | guard | driver
    · rw [queue]
      exact idle (same ▸ quiet)
    · rw [guard] at quiet
      cases quiet
    · rw [driver] at quiet
      cases quiet

theorem joinCalls_calls (h : CallsInOrder occupied i) (may : Callable occupied i q)
    (spoken : i.state ≠ .idle) (other : i.state ≠ .seatTalk q) : CallsInOrder occupied (joinCalls q i) := by
  unfold joinCalls
  split
  · exact h
  · next absent =>
    obtain ⟨nodup, waiting, talker, -⟩ := h
    refine ⟨nodup.append (List.nodup_singleton q) (by simpa using absent), fun p hp => ?_, fun p talks => ?_,
      fun idle => absurd idle spoken⟩
    · rcases List.mem_append.1 hp with old | new
      · exact waiting p old
      · rw [List.mem_singleton.1 new]
        exact may
    · obtain ⟨out, callable⟩ := talker p talks
      refine ⟨fun hp => ?_, callable⟩
      rcases List.mem_append.1 hp with old | new
      · exact out old
      · rw [List.mem_singleton.1 new] at talks
        exact other talks

theorem startTalk_calls (limit : Nat) (h : i.queue.Nodup) (waiting : ∀ p ∈ i.queue, Callable occupied i p)
    (out : q ∉ i.queue) (may : Callable occupied i q) : CallsInOrder occupied (startTalk limit q i) :=
  ⟨h, waiting, fun _ talks => by cases talks; exact ⟨out, may⟩, nofun⟩

theorem startGuard_timers (guardTime : Nat) (i : Intercom) : TimersInOrder (startGuard guardTime i) := by
  simp [TimersInOrder, startGuard]

/-! ### A seat leaves the switch (R127, R132, R133, R135) -/

/-- A seat's talk ends into GUARD and its call is over; the other seats' records stand. -/
structure SeatLeaves (guardTime : Nat) (q : Seat) (i j : Intercom) : Prop where
  queue : j.queue = i.queue.filter (fun p => p ≠ q)
  state : j.state = if i.state = .seatTalk q then .guard else i.state
  guardTimer : j.guardTimer = if i.state = .seatTalk q then some guardTime else i.guardTimer
  talkTimer : j.talkTimer = if i.state = .seatTalk q then none else i.talkTimer
  pending : j.pendingDriver = i.pendingDriver
  mute : ∀ p, p ≠ q → j.mute.get p = i.mute.get p
  press : ∀ p, p ≠ q → j.seatPress.get p = i.seatPress.get p

theorem SeatLeaves.orderly {guardTime : Nat} (h : SeatLeaves guardTime q i j)
    (others : ∀ p, p ≠ q → before p → after p) : Orderly before after i j where
  timers timers := by
    obtain ⟨guard, talk, pending⟩ := timers
    unfold TimersInOrder
    rw [h.state, h.guardTimer, h.talkTimer, h.pending]
    split
    · simp
    · exact ⟨guard, talk, pending⟩
  calls calls := by
    obtain ⟨nodup, waiting, talker, idle⟩ := calls
    have still : ∀ p, p ≠ q → Callable before i p → Callable after j p := fun p apart may => by
      obtain ⟨occupied, unmuted, held⟩ := may
      exact ⟨others p apart occupied, (h.mute p apart).trans unmuted, by rw [h.press p apart]; exact held⟩
    unfold CallsInOrder
    rw [h.queue, h.state]
    refine ⟨nodup.filter _, fun p hp => ?_, fun p talks => ?_, fun quiet => ?_⟩
    · obtain ⟨old, apart⟩ := List.mem_filter.1 hp
      exact still p (of_decide_eq_true apart) (waiting p old)
    · split at talks
      · cases talks
      · next quiet =>
        obtain ⟨out, may⟩ := talker p talks
        exact ⟨fun hp => out (List.mem_of_mem_filter hp), still p (fun same => quiet (same ▸ talks)) may⟩
    · split at quiet
      · cases quiet
      · rw [idle quiet]
        rfl

theorem seatEmptied_leaves (guardTime : Nat) (q : Seat) (i : Intercom) :
    SeatLeaves guardTime q i (seatEmptied guardTime q i) := by
  rw [seatEmptied_eq]
  exact ⟨rfl, rfl, rfl, rfl, rfl, fun _ apart => PerSeat.get_set_of_ne _ _ apart, fun _ _ => rfl⟩

/-- A seat's release, field by field (R127). -/
theorem seatRelease_eq (guardTime : Nat) (q : Seat) (i : Intercom) :
    seatRelease guardTime q i = { i with
      needsRelease := i.needsRelease.set q false, queue := i.queue.filter (fun p => p ≠ q),
      state := if i.state = .seatTalk q then .guard else i.state,
      guardTimer := if i.state = .seatTalk q then some guardTime else i.guardTimer,
      talkTimer := if i.state = .seatTalk q then none else i.talkTimer } := by
  unfold seatRelease leaveCalls endTalk
  dsimp only
  split <;> rfl

theorem seatRelease_leaves (guardTime : Nat) (q : Seat) (i : Intercom) :
    SeatLeaves guardTime q i (seatRelease guardTime q (setPress (.seat q) none i)) := by
  rw [seatRelease_eq]
  exact ⟨rfl, rfl, rfl, rfl, rfl, fun _ _ => rfl, fun _ apart => PerSeat.get_set_of_ne _ _ apart⟩

theorem muteSeat_leaves (guardTime : Nat) (q : Seat) (i : Intercom) :
    SeatLeaves guardTime q i (muteSeat guardTime q i) := by
  have others : ∀ p, p ≠ q → (i.mute.set q true).get p = i.mute.get p :=
    fun _ apart => PerSeat.get_set_of_ne _ _ apart
  unfold muteSeat leaveCalls cutOff
  split
  · next talks => constructor <;> simp [startGuard, talks]; exact others
  · next quiet => constructor <;> simp [quiet]; exact others

/-! ### The driver, the guard and the talk limit (R124 to R126, R130, R131) -/

theorem cutOff_orderly (guardTime : Nat) (q : Seat) (i : Intercom) :
    Orderly occupied occupied i (cutOff guardTime q i) := by
  unfold cutOff
  split
  · exact ⟨fun _ => startGuard_timers guardTime i,
      fun calls => calls.of_hushed rfl (fun _ => id) (.inr (.inl rfl))⟩
  · exact ⟨id, id⟩

theorem driverPress_orderly (guardTime : Nat) (i : Intercom) :
    Orderly occupied occupied i (driverPress guardTime i) := by
  unfold driverPress
  split
  · next idle =>
    refine ⟨fun timers => ?_, fun calls => calls.of_hushed rfl (fun _ => id) (.inr (.inr rfl))⟩
    simpa [TimersInOrder, idle] using timers
  · exact ⟨id, id⟩
  · next q talks =>
    rw [cutOff, if_pos talks]
    exact ⟨fun _ => by simp [TimersInOrder, startGuard],
      fun calls => calls.of_hushed rfl (fun _ => id) (.inr (.inl rfl))⟩
  · next guard =>
    split
    · exact ⟨id, id⟩
    · refine ⟨fun timers => ?_, fun calls => calls.of_hushed rfl (fun _ => id) (.inl rfl)⟩
      obtain ⟨-, talk, -⟩ := timers
      simpa [TimersInOrder, guard] using talk

theorem driverRelease_orderly (guardTime : Nat) (i : Intercom) :
    Orderly occupied occupied i (driverRelease guardTime i) := by
  unfold driverRelease
  split
  · exact ⟨fun _ => startGuard_timers guardTime i,
      fun calls => calls.of_hushed rfl (fun _ => id) (.inr (.inl rfl))⟩
  · exact ⟨id, id⟩

theorem joinCalls_eq (q : Seat) (i : Intercom) :
    joinCalls q i = { i with queue := if q ∈ i.queue then i.queue else i.queue ++ [q] } := by
  unfold joinCalls
  split <;> rfl

theorem joinCalls_timers (q : Seat) (h : TimersInOrder i) : TimersInOrder (joinCalls q i) := by
  rw [joinCalls_eq]
  exact h

theorem seatPress_orderly (guardTime limit : Nat) (may : Callable occupied i q) :
    Orderly occupied occupied i (seatPress guardTime limit q i) := by
  unfold seatPress
  split
  · next idle =>
    refine ⟨fun timers => ?_, fun calls => ?_⟩
    · obtain ⟨guard, -, pending⟩ := timers
      simp_all [TimersInOrder, startTalk]
    · obtain ⟨nodup, waiting, -, empty⟩ := calls
      exact startTalk_calls limit nodup waiting (by simp [empty idle]) may
  · next driver =>
    exact ⟨joinCalls_timers q, fun calls => joinCalls_calls calls may (by simp [driver]) (by simp [driver])⟩
  · next p talks =>
    split
    · exact ⟨id, id⟩
    · next other =>
      exact ⟨joinCalls_timers q,
        fun calls => joinCalls_calls calls may (by simp [talks]) (by simpa [talks] using other)⟩
  · next guard =>
    have joined : CallsInOrder occupied i → CallsInOrder occupied (joinCalls q i) :=
      fun calls => joinCalls_calls calls may (by simp [guard]) (by simp [guard])
    split
    · refine ⟨fun timers => ?_, joined⟩
      obtain ⟨-, talk, -⟩ := timers
      simpa [TimersInOrder, joinCalls_eq, guard] using talk
    · exact ⟨joinCalls_timers q, joined⟩

/-- The pending driver, the head of the call queue, or nobody takes the talk (R130). -/
theorem guardEnds_orderly (limit : Nat) (running : i.guardTimer.isSome = true) :
    Orderly occupied occupied i (guardEnds limit i) := by
  have hush : TimersInOrder i → i.talkTimer = none := fun timers => by
    obtain ⟨guard, talk, -⟩ := timers
    simpa [guard.1 running] using talk
  unfold guardEnds
  dsimp only
  split
  · exact ⟨fun timers => by simp [TimersInOrder, hush timers],
      fun calls => calls.of_hushed rfl (fun _ => id) (.inr (.inr rfl))⟩
  · split
    · next q rest queue =>
      refine ⟨fun _ => by simp [TimersInOrder, startTalk], fun calls => ?_⟩
      obtain ⟨nodup, waiting, -, -⟩ := calls
      rw [queue] at nodup waiting
      obtain ⟨out, nodup⟩ := List.nodup_cons.1 nodup
      exact startTalk_calls limit nodup (fun p hp => waiting p (List.mem_cons_of_mem _ hp)) out
        (waiting q List.mem_cons_self)
    · next queue =>
      refine ⟨fun timers => by simp [TimersInOrder, hush timers], fun _ => ?_⟩
      simp [CallsInOrder, queue]

end Sys2Proof.Machine

/-! PROOFS. What every change of the running part leaves of the intercom switch: a transition of the switch, a seat's change with
its notice, or nothing that the switch reads (R40, R120 to R137). -/

namespace Sys2Proof.Machine

-- One theorem at a time: the memory limit of the check counts the stack of every thread.
set_option Elab.async false

variable {s t u : State} {q : Seat} {i j : Intercom}

/-! ### The switch kept in order -/

/-- `t` follows from `s` by a change that is no start and no stop: gates, timers and calls that were in order
are so again. -/
structure SwitchKept (s t : State) : Prop where
  gates : GateLaw s → GateLaw t
  orderly : Orderly (Occupied s) (Occupied t) s.intercom t.intercom

theorem SwitchKept.refl (s : State) : SwitchKept s s := ⟨id, ⟨id, id⟩⟩

theorem SwitchKept.trans (h : SwitchKept s t) (k : SwitchKept t u) : SwitchKept s u where
  gates := k.gates ∘ h.gates
  orderly := ⟨k.orderly.timers ∘ h.orderly.timers, k.orderly.calls ∘ h.orderly.calls⟩

theorem SwitchKept.ite {c : Prop} [Decidable c] (h : SwitchKept s t) (k : SwitchKept s u) :
    SwitchKept s (if c then t else u) := by
  split <;> assumption

theorem foldl_switchKept {α : Type} {f : State → α → State} (h : ∀ u a, SwitchKept u (f u a)) (l : List α)
    (s : State) : SwitchKept s (l.foldl f s) := by
  induction l generalizing s with
  | nil => exact .refl s
  | cons a l ih => exact (h s a).trans (ih _)

/-- The switch and the occupancy of the seats stand. -/
theorem SwitchKept.of_same (intercom : t.intercom = s.intercom)
    (same : ∀ q, (t.seat q).vacant = (s.seat q).vacant) : SwitchKept s t where
  gates law := by
    rw [GateLaw, intercom, law]
    exact (gatesOf_congr same _ _).symm
  orderly := by
    have occupied : Occupied t = Occupied s := funext fun q =>
      propext (not_congr (by simpa [SeatRecord.vacant] using same q))
    rw [intercom, occupied]
    exact ⟨id, id⟩

theorem Frame.switchKept {ps : List Part} (h : Frame ps s t) (seats : Part.seats ∉ ps := by decide)
    (intercom : Part.intercom ∉ ps := by decide) : SwitchKept s t :=
  .of_same (h .intercom intercom) fun q => by rw [seat_of_seats (h .seats seats)]

theorem QueueOnly.switchKept (h : QueueOnly s t) : SwitchKept s t := h.frame.switchKept

/-- A switch with the gates that follow it (R120). -/
def gated (i : Intercom) (v : PerSeat SeatRecord) : Intercom :=
  { i with gates := gatesOf i.state i.target v }

/-- The gates have followed a transition of the switch. -/
theorem SwitchKept.of_gated (intercom : t.intercom = gated j t.seats)
    (orderly : Orderly (Occupied s) (Occupied t) s.intercom j) : SwitchKept s t where
  gates _ := by rw [GateLaw, intercom]; rfl
  orderly := by rw [intercom]; exact ⟨orderly.timers, orderly.calls⟩

/-! ### Transitions of the switch (R124 to R136) -/

/-- A transition of the switch, of the state `u` in which a press record or nothing has been written. -/
theorem changeIntercom_switchKept {f : Intercom → Intercom} (seats : u.seats = s.seats)
    (orderly : Orderly (Occupied s) (Occupied s) s.intercom (f u.intercom)) :
    SwitchKept s (changeIntercom f u) := by
  have after : (changeIntercom f u).seats = s.seats := (changeIntercom_seats f u).trans seats
  have occupied : Occupied (changeIntercom f u) = Occupied s :=
    funext fun q => by rw [Occupied, Occupied, seat_of_seats after]
  refine .of_gated ?_ (by rw [occupied]; exact orderly)
  rw [changeIntercom_intercom, changeIntercom_seats]
  rfl

/-- A press that is recorded frees no seat to call that was not. -/
theorem setPress_orderly (k : PressKey) (n : Nat) {occupied : Seat → Prop} :
    Orderly occupied occupied i (setPress k (some n) i) := by
  cases k with
  | driver => exact ⟨id, id⟩
  | seat q =>
    refine ⟨id, fun calls => calls.of_hushed rfl (fun p may => ?_) (.inl rfl)⟩
    obtain ⟨occupied, unmuted, held⟩ := may
    refine ⟨occupied, unmuted, ?_⟩
    simp only [setPress, PerSeat.get_set]
    split
    · rfl
    · exact held

theorem setPress_switchKept (k : PressKey) (n : Nat) (s : State) :
    SwitchKept s (s.setIntercom (setPress k (some n) s.intercom)) where
  gates law := by cases k <;> exact law
  orderly := setPress_orderly k n

theorem takePress_switchKept (k : PressKey) (s : State) : SwitchKept s (takePress k s) := by
  have held := setPress_switchKept k lapseTime s
  unfold takePress
  cases k with
  | driver => exact held.trans (changeIntercom_switchKept rfl (driverPress_orderly _ _))
  | seat q =>
    dsimp only
    split
    · exact held
    · next counts =>
      split
      · exact held.trans (send_only _ _ _).switchKept
      · next unmuted =>
        refine held.trans (changeIntercom_switchKept rfl (seatPress_orderly _ _ ⟨?_, ?_, ?_⟩))
        · intro vacant
          exact counts (by rw [vacant_eq_true vacant]; rfl)
        · simpa using unmuted
        · simp [setPress]

theorem takeRelease_switchKept (k : PressKey) (s : State) : SwitchKept s (takeRelease k s) := by
  unfold takeRelease
  refine .ite ?_ (.refl s)
  cases k with
  | driver =>
    have written : SwitchKept s (s.setIntercom { s.intercom with driverPress := none }) := ⟨id, ⟨id, id⟩⟩
    exact written.trans (changeIntercom_switchKept rfl (driverRelease_orderly _ _))
  | seat q => exact changeIntercom_switchKept rfl ((seatRelease_leaves _ q _).orderly fun _ _ => id)

theorem guardExpires_switchKept (s : State) : SwitchKept s (guardExpires s) := by
  unfold guardExpires
  split
  · next running => exact changeIntercom_switchKept rfl (guardEnds_orderly _ running)
  · exact .refl s

theorem talkLimitExpires_switchKept (s : State) : SwitchKept s (talkLimitExpires s) := by
  unfold talkLimitExpires
  split
  · split
    · exact changeIntercom_switchKept rfl (cutOff_orderly _ _ _)
    · exact .refl s
  · exact .refl s

theorem muteSeat_switchKept (guardTime : Nat) (q : Seat) (s : State) :
    SwitchKept s (changeIntercom (muteSeat guardTime q) s) :=
  changeIntercom_switchKept rfl ((muteSeat_leaves guardTime q _).orderly fun _ _ => id)

/-- A seat that is no longer muted may call again. -/
theorem unmuteSeat_switchKept (q : Seat) (s : State) :
    SwitchKept s (changeIntercom (fun i => { i with mute := i.mute.set q false }) s) := by
  refine changeIntercom_switchKept rfl ⟨id, fun calls => calls.of_hushed rfl (fun p may => ?_) (.inl rfl)⟩
  obtain ⟨occupied, unmuted, held⟩ := may
  refine ⟨occupied, ?_, held⟩
  simp only [PerSeat.get_set]
  split
  · rfl
  · exact unmuted

/-! ### A seat's change (R40, R133) -/

/-- A record written that leaves its seat VACANT or occupied. -/
theorem setSeat_switchKept {r : SeatRecord} (kept : r.vacant = (s.seat q).vacant) :
    SwitchKept s (s.setSeat q r) := by
  refine .of_same rfl fun p => ?_
  by_cases same : p = q
  · rw [same, State.setSeat_seat_self, kept]
  · rw [State.setSeat_seat_of_ne s r same]

theorem vacant_of_state {r r' : SeatRecord} (same : r'.state = r.state) : r'.vacant = r.vacant := by
  rw [SeatRecord.vacant, SeatRecord.vacant, same]

theorem setSeats_switchKept {v : PerSeat SeatRecord} (same : ∀ q, (v.get q).state = (s.seat q).state) :
    SwitchKept s (s.setSeats v) :=
  .of_same rfl fun q => vacant_of_state (same q)

theorem changeSeat_seat_of_ne {p : Seat} (r : SeatRecord) (apart : p ≠ q) :
    (changeSeat q r s).seat p = s.seat p := by
  rw [State.seat, changeSeat_seats, PerSeat.get_set_of_ne _ _ apart, State.seat]

/-- The switch hears of a seat's change what it reads of it. -/
theorem changeSeat_switchKept (q : Seat) (r : SeatRecord) (s : State) : SwitchKept s (changeSeat q r s) := by
  have others : ∀ p, p ≠ q → Occupied s p → Occupied (changeSeat q r s) p := fun p apart occupied => by
    rw [Occupied, changeSeat_seat_of_ne r apart]
    exact occupied
  by_cases kept : r.vacant = (s.seat q).vacant
  · refine (setSeat_switchKept kept).trans (.of_same ?_ fun p => ?_)
    · rw [changeSeat_intercom, occupancyNotice_of_kept ((written_vacant q r s).trans kept)]
      rfl
    · rw [State.seat, changeSeat_seats]
      rfl
  · by_cases was : (s.seat q).state = .vacant
    · have now : r.state ≠ .vacant := fun now => kept (vacant_of_state (now.trans was.symm))
      refine .of_gated (j := s.intercom) ?_ ⟨id, fun calls => calls.of_hushed rfl (fun p may => ?_) (.inl rfl)⟩
      · rw [changeSeat_intercom_of_hired was now, changeSeat_seats]
        rfl
      · obtain ⟨occupied, may⟩ := may
        exact ⟨others p (fun same => occupied (same ▸ was)) occupied, may⟩
    · have now : r.state = .vacant := by
        by_contra now
        exact kept ((vacant_eq_false now).trans (vacant_eq_false was).symm)
      refine .of_gated ?_ ((seatEmptied_leaves s.tariff.guardTime q s.intercom).orderly others)
      rw [changeSeat_intercom_of_emptied was now, changeSeat_seats]
      rfl

theorem closeSeat_switchKept (q : Seat) (e : TripEnd) (s : State) : SwitchKept s (closeSeat q e s) := by
  rw [closeSeat_eq]
  have taken : SwitchKept s (closeTaken q e s) :=
    (takeTrip_frame _ _ s).switchKept.trans (payersAtClose_frame _ _ _).switchKept
  exact (taken.trans (changeSeat_switchKept q _ _)).trans (compareDisplay_only _ _).switchKept

theorem closeIfPaid_switchKept (q : Seat) (s : State) : SwitchKept s (closeIfPaid q s) :=
  .ite (closeSeat_switchKept q _ s) (.refl s)

theorem enterPaying_switchKept (q : Seat) (s : State) : SwitchKept s (enterPaying q s) :=
  .ite (changeSeat_switchKept q _ s) (.refl s)

theorem leavePaying_switchKept (q : Seat) (s : State) : SwitchKept s (leavePaying q s) :=
  .ite (changeSeat_switchKept q _ s) (.refl s)

theorem creditCard_switchKept (q : Seat) (p : Payment) (s : State) : SwitchKept s (creditCard q p s) :=
  .ite ((changeSeat_switchKept q _ s).trans (closeIfPaid_switchKept q _)) (.refl s)

/-- A payment entry, an extra or a waiver leaves the seat's state. -/
theorem paid_switchKept {r : SeatRecord} (same : r.state = (s.seat q).state) :
    SwitchKept s (closeIfPaid q (s.setSeat q r)) :=
  (setSeat_switchKept (vacant_of_state same)).trans (closeIfPaid_switchKept q _)

theorem creditAccount_switchKept (q : Seat) (p : Payment) (s : State) :
    SwitchKept s (creditAccount q p s) := .ite (paid_switchKept rfl) (.refl s)

/-! ### Charges (R98 to R114) -/

theorem settle_switchKept (q : Seat) (i : Fin 8) (p : Payer) (id : Nat) (s : State) :
    SwitchKept s (settle q i p id s) :=
  (settlePayer_frame _ _ s).switchKept.trans (creditAccount_switchKept _ _ _)

theorem startCharge_switchKept (q : Seat) (i : Fin 8) (p : Payer) (reader : Nat) (s : State) :
    SwitchKept s (startCharge q i p reader s) :=
  ((((setTags_frame s _).switchKept.trans (send_only _ _ _).switchKept).trans
    (setCharge_frame q _ _ _).switchKept).trans (beginCharge_frame i q _).switchKept).trans
      (enterPaying_switchKept q _)

theorem passSeat_switchKept (q : Seat) (fuel : Nat) (s : State) : SwitchKept s (passSeat q fuel s) := by
  induction fuel generalizing s with
  | zero => exact .refl s
  | succ n ih =>
    unfold passSeat
    split
    · exact .refl s
    · split
      · exact startCharge_switchKept _ _ _ _ s
      · exact (settle_switchKept _ _ _ _ s).trans (ih _)

theorem chargePass_switchKept (s : State) : SwitchKept s (chargePass s) :=
  foldl_switchKept (fun u q => passSeat_switchKept q passFuel u) allSeats s

theorem passCompare_switchKept (s : State) : SwitchKept s (compareDisplays (chargePass s)) :=
  (chargePass_switchKept s).trans (compareDisplays_only _).switchKept

theorem passAndCompare_switchKept (s : State) : SwitchKept s (passAndCompare s) :=
  (chargePass_switchKept s).trans (compareIfChanged_only _ _).switchKept

/-- A charge that has ended, by whatever end, returns its seat to DUE, and a pass is run. -/
theorem endedCharge_switchKept (q : Seat) (c : Charge) (n : Nat) (full : Bool) (s : State) :
    SwitchKept s (compareDisplays (chargePass (leavePaying q (endCharge c.index n full s)))) :=
  ((endCharge_frame _ _ _ s).switchKept.trans (leavePaying_switchKept q _)).trans (passCompare_switchKept _)

theorem endWithoutResult_switchKept (q : Seat) (s : State) : SwitchKept s (endWithoutResult q s) := by
  unfold endWithoutResult
  split
  · exact (((setCharge_frame q _ _ s).switchKept.trans (setTags_frame _ _).switchKept).trans
      (send_only _ _ _).switchKept).trans (endedCharge_switchKept _ _ _ _ _)
  · exact .refl s

theorem readerSilent_switchKept (reader : Nat) (s : State) : SwitchKept s (readerSilent reader s) := by
  unfold readerSilent
  split
  · exact endWithoutResult_switchKept _ s
  · exact .refl s

theorem approve_switchKept (q : Seat) (c : Charge) (e : Tag) (amount tip : Nat) (s : State) :
    SwitchKept s (approve q c e amount tip s) := by
  unfold approve
  dsimp only
  refine SwitchKept.trans ?_ (passCompare_switchKept _)
  refine SwitchKept.trans ?_ (.ite (creditCard_switchKept _ _ _) (leavePaying_switchKept _ _))
  refine SwitchKept.trans ?_ (endCharge_frame _ _ _ _).switchKept
  exact (SwitchKept.ite (send_only _ _ s).switchKept (.refl s)).trans (setCharge_frame _ _ _ _).switchKept

theorem decline_switchKept (q : Seat) (c : Charge) (s : State) : SwitchKept s (decline q c s) :=
  (setCharge_frame q _ _ s).switchKept.trans (endedCharge_switchKept _ _ _ _ _)

theorem lateResult_switchKept (e : Tag) (approved : Bool) (s : State) :
    SwitchKept s (lateResult e approved s) := by
  have voided : SwitchKept s (countVoid (send e.reader (.void e.tag) s)) :=
    (send_only _ _ s).switchKept.trans (setAccounts_frame _ _).switchKept
  exact (SwitchKept.ite voided (.refl s)).trans (setTags_frame _ _).switchKept

theorem takeResult_switchKept (src tag outcome amount tip : Nat) (s : State) :
    SwitchKept s (takeResult src tag outcome amount tip s) := by
  have raised : SwitchKept s (raiseCause .source src s) := (raiseCause_frame _ _ s).switchKept
  unfold takeResult
  refine .ite (.refl s) ?_
  split
  · unfold chargeAnswer
    split
    · exact .ite (.ite (approve_switchKept _ _ _ _ _ s) (decline_switchKept _ _ s)) raised
    · exact .refl s
  · split
    · exact .ite (lateResult_switchKept _ _ s) raised
    · exact .refl s

/-! ### Console commands -/

/-- A trip that closes with a record written just before. -/
theorem closeWritten_switchKept {r : SeatRecord} (e : TripEnd) (same : r.state = (s.seat q).state) :
    SwitchKept s (compareDisplays (closeSeat q e (s.setSeat q r))) :=
  ((setSeat_switchKept (vacant_of_state same)).trans (closeSeat_switchKept q e _)).trans
    (compareDisplays_only _).switchKept

theorem splitExtra_switchKept (k : ExtraKind) (n : Nat) (s : State) :
    SwitchKept s (compareIfChanged s (s.setSeats (splitSeats s.seats k n))) :=
  (setSeats_switchKept fun q => by rw [splitSeats_get]; rfl).trans (compareIfChanged_only _ _).switchKept

theorem addExtra_switchKept (q : Seat) (k : ExtraKind) (n : Nat) (s : State) :
    SwitchKept s (addExtra q k n s) := by
  have added : SwitchKept s (s.setSeat q (applyExtra k n (s.seat q))) :=
    setSeat_switchKept (vacant_of_state rfl)
  exact (SwitchKept.ite (added.trans (chargePass_switchKept _)) added).trans
    (compareIfChanged_only s _).switchKept

theorem creditCash_switchKept (q : Seat) (p : Payment) (s : State) : SwitchKept s (creditCash q p s) := by
  have paid : SwitchKept s (closeIfPaid q (s.setSeat q (addPayment p (s.seat q)))) := paid_switchKept rfl
  exact (paid.trans (.ite (chargePass_switchKept _) (.refl _))).trans
    (compareDisplays_only _).switchKept

theorem performed_switchKept {src : Nat} {c : Command} (h : Performed src c s t) : SwitchKept s t := by
  cases c with
  | hire seat pool =>
    obtain ⟨q, p, -, rfl⟩ := h
    exact (changeSeat_switchKept q _ s).trans (compareDisplays_only _).switchKept
  | stop seat =>
    rcases h with rfl | ⟨q, -, e⟩
    · exact .refl _
    · rw [e]
      exact ((changeSeat_switchKept q _ s).trans (closeIfPaid_switchKept q _)).trans (passCompare_switchKept _)
  | resume seat =>
    obtain ⟨q, -, rfl⟩ := h
    exact (changeSeat_switchKept q _ s).trans (compareDisplays_only _).switchKept
  | cancel seat => obtain ⟨q, -, -, rfl⟩ := h; exact closeWritten_switchKept _ rfl
  | addExtra seat kind amount => obtain ⟨q, k, n, -, rfl⟩ := h; exact addExtra_switchKept q k n s
  | splitExtra kind amount => obtain ⟨k, n, rfl⟩ := h; exact splitExtra_switchKept k n s
  | cash seat tendered tip => obtain ⟨q, _, _, -, rfl⟩ := h; exact creditCash_switchKept q _ s
  | waive seat => obtain ⟨q, -, rfl⟩ := h; exact closeWritten_switchKept _ rfl
  | accountMap scope account limit tips =>
    obtain ⟨i, _, _, _, _, -, -, rfl⟩ := h
    exact (setPayers_frame s _).switchKept.trans (passAndCompare_switchKept _)
  | unmap index =>
    obtain ⟨i, _, -, -, rfl⟩ := h
    exact (setPayers_frame s _).switchKept.trans (passAndCompare_switchKept _)
  | flush =>
    rcases h with rfl | rfl
    · exact (setPayers_frame s _).switchKept
    · exact (setPayers_frame s _).switchKept.trans (passAndCompare_switchKept _)
  | abortCharge seat => obtain ⟨q, -, rfl⟩ := h; exact endWithoutResult_switchKept q s
  | intercomMute seat on =>
    rcases h with ⟨q, -, rfl⟩ | ⟨q, rfl⟩
    · exact muteSeat_switchKept _ q s
    · exact unmuteSeat_switchKept q s
  | intercomTarget target => obtain ⟨x, rfl⟩ := h; exact changeIntercom_switchKept rfl ⟨id, id⟩
  | reset | readTotals | readTrip | probeSeat | probeIndex | readHold | setClock | setBand | shiftOpen
    | shiftClose | signMode | holdTrigger | clearCause | holdRelease =>
    exact (performed_frame h).switchKept (by simp only [commandParts]; decide)
      (by simp only [commandParts]; decide)

theorem perform_switchKept (src : Nat) (c : Command) (s : State) : SwitchKept s (perform src c s).1 := by
  rcases perform_cases src c s with e | h
  · rw [e]
    exact .refl s
  · exact performed_switchKept h

theorem takeEntry_switchKept (v : Option Bool) (e : FifoEntry) (s : State) :
    SwitchKept s (takeEntry v e s) := by
  refine SwitchKept.trans ?_ (answerCommand_frame e _).switchKept
  unfold performDecoded
  split
  · exact (withService_frame_any v _ s).switchKept.trans (perform_switchKept _ _ _)
  · exact .refl s

theorem takeCommands_switchKept (v : Option Bool) (s : State) : SwitchKept s (takeCommands v s) :=
  drain_induct (P := SwitchKept s)
    (fun e _ u h _ _ => (h.trans (setLine_frame u _).switchKept).trans (takeEntry_switchKept v e _)) _ s
    (.refl s)

theorem arrive_switchKept (e : FifoEntry) (s : State) : SwitchKept s (arrive e s) :=
  .ite (setLine_frame s _).switchKept
    ((enqueue_only _ s).switchKept.trans (.ite (setDraws_frame _ _).switchKept (.refl _)))

theorem consoleRow_switchKept (v : Option Bool) (seq : Byte) (c : Command) (s : State) :
    SwitchKept s (consoleRow v seq c s) := by
  unfold consoleRow
  split
  · split
    · exact (arrive_switchKept _ s).trans (takeCommands_switchKept v _)
    · exact .refl s
  · exact .refl s

/-! ### Events -/

theorem deliverFare_switchKept (dp : Nat) (s : State) : SwitchKept s (deliverFare dp s) := by
  have accrued : SwitchKept s (s.setSeats (s.seats.map
      (accrueSeat s.tariff s.band.selected s.hold.held dp (riders s.seats)))) :=
    setSeats_switchKept fun q => by rw [PerSeat.get_map]; exact (accrueSeat_metered _ _ _ _ _ _).state
  exact accrued.trans (compareDisplays_only _).switchKept

theorem expireInterval_switchKept (s : State) : SwitchKept s (expireInterval s) := by
  rw [expireInterval_eq]
  exact .ite (((takeCount_effect s).frame.switchKept.trans (deliverFare_switchKept _ _)).trans
    (tellCount_effect _ _).frame.switchKept) (.refl s)

theorem hear_switchKept (e : Station) (s : State) : SwitchKept s (hear e s) := by
  have heard := (setTimer_effect e.addr (some presenceTime) s).frame.switchKept
  refine .ite heard (heard.trans ?_)
  unfold presentNotice
  split
  · exact passAndCompare_switchKept _
  · split
    · exact (setDisplay_only _ _).switchKept.trans (compareDisplay_only _ _).switchKept
    · exact .refl _
  all_goals exact .refl _

theorem silentNotice_switchKept (e : Station) (s : State) : SwitchKept s (silentNotice e s) := by
  unfold silentNotice
  split
  · exact readerSilent_switchKept _ s
  · split
    · exact takeRelease_switchKept _ s
    · exact .refl s
  · exact takeRelease_switchKept _ s
  · exact (setMotion_frame s _).switchKept
  all_goals exact .refl s

theorem presenceExpires_switchKept (addr : Nat) (s : State) : SwitchKept s (presenceExpires addr s) := by
  unfold presenceExpires
  split
  · exact .ite ((setTimer_effect _ _ s).frame.switchKept.trans (silentNotice_switchKept _ _)) (.refl s)
  · exact .refl s

theorem presentCard_switchKept (reader : Nat) (sc : Scope) (ref limit : Nat) (s : State) :
    SwitchKept s (presentCard reader sc ref limit s) := by
  have reply : ∀ code index, SwitchKept s (cardReply reader code index s) :=
    fun _ _ => (send_only _ _ s).switchKept
  unfold presentCard
  refine .ite (reply _ _) (.ite (reply _ _) ?_)
  split
  · exact reply _ _
  · refine .ite (reply _ _) ?_
    split
    · exact reply _ _
    · exact ((setPayers_frame s _).switchKept.trans (send_only _ _ _).switchKept).trans
        (passAndCompare_switchKept _)

theorem deliverTalk_switchKept (e : Station) (held : Byte) (s : State) :
    SwitchKept s (deliverTalk e held s) := by
  unfold deliverTalk takeTalk
  split
  · split
    · exact takePress_switchKept _ s
    · exact takeRelease_switchKept _ s
    · exact .refl s
  · exact .refl s

theorem deliver_switchKept (e : Station) (kind : Nat) (payload : List Byte) (s : State) :
    SwitchKept s (deliver e kind payload s) := by
  unfold deliver
  split
  · exact arrive_switchKept _ s
  · exact deliverTalk_switchKept e _ s
  · unfold deliverCard
    split
    · exact presentCard_switchKept _ _ _ _ s
    · exact .refl s
  · exact takeResult_switchKept _ _ _ _ _ s
  · exact (navSpeed_effect _ _ s).frame.switchKept.trans (setSign_frame _ _).switchKept
  · exact (raiseCause_frame _ _ s).switchKept.trans (setMonitor_frame _ _).switchKept
  · exact .refl s

theorem receiveFrame_switchKept (v : Option Bool) (f : RxFrame) (s : State) :
    SwitchKept s (receiveFrame v f s) := by
  have taken : SwitchKept s (takeFrame f s) := by
    unfold takeFrame
    split
    · exact (hear_switchKept _ s).trans (deliver_switchKept _ _ _ _)
    · exact (raiseCause_frame _ _ s).switchKept
  have overheard : SwitchKept s (overhear f s) := by
    unfold overhear
    split
    · exact hear_switchKept _ s
    · exact .refl s
  exact .ite ((SwitchKept.ite taken overheard).trans (takeCommands_switchKept v _)) (.refl s)

theorem receiveBytes_switchKept (bytes : List Byte) (s : State) : SwitchKept s (receiveBytes bytes s) := by
  unfold receiveBytes
  split
  · exact receiveFrame_switchKept none _ s
  · exact .refl s

theorem transmissionFails_switchKept (s : State) : SwitchKept s (transmissionFails s) := by
  unfold transmissionFails
  split
  · exact .refl s
  · exact ((setLine_frame s _).switchKept.trans (discardNotice_only _ _).switchKept).trans
      (takeCommands_switchKept none _)

theorem transmissionEnds_switchKept (s : State) : Follows SwitchKept s (transmissionEnds s) := by
  unfold transmissionEnds
  split
  · exact .runs (.refl s)
  · have sent : SwitchKept s (s.setLine { s.line with transmitting := none }) := (setLine_frame s _).switchKept
    dsimp only
    split
    · unfold answerSent
      split
      · exact .starts _ (setLine_frame s _).mono rfl
      · exact .runs ((sent.trans (setLine_frame _ _).switchKept).trans (takeCommands_switchKept none _))
    · exact .runs sent

theorem pulseLevel_switchKept (l : Level) (s : State) : SwitchKept s (pulseLevel l s) := by
  have pin : SwitchKept s (s.setPins { s.pins with pulse := l }) := (setPins_frame s _).switchKept
  unfold pulseLevel
  dsimp only
  split
  · exact pin
  · exact pin.trans (setMotion_frame _ _).switchKept

theorem event_switchKept {c : Instr} (event : Laws.commandOf c = none) (h : exec c s = .next t) :
    Follows SwitchKept s t := by
  have taken : ∀ {u : State}, SwitchKept s u → Follows SwitchKept s (takeCommands none u) :=
    fun x => .runs (x.trans (takeCommands_switchKept none _))
  have supply := supply_follows (R := SwitchKept) (c := c) (s := s) (t := t) (fun _ f => f.switchKept)
  cases c <;> cases h
  case pgoodRise | pgoodFall | rstAssert | rstRelease | vbakLoss | imageReadTimeout | loadCompletion =>
    exact supply (by simp) rfl
  case resetTimerExpiry =>
    unfold resetExpires
    split
    · exact .starts s (.refl _ s) rfl
    · exact .runs (.refl s)
  case clockTick => exact .runs ((setClock_frame s _).switchKept.trans (passMinute_frame _).switchKept)
  case minuteBoundary => exact .runs (passMinute_frame s).switchKept
  case pulseChange l => exact .runs (pulseLevel_switchKept l s)
  case settledEdge => exact .runs (.ite (setMotion_frame s _).switchKept (.refl s))
  case intervalExpiry => exact taken (expireInterval_switchKept s)
  case tamperChange => exact .runs ((setPins_frame s _).switchKept.trans (setTamperFilter_frame _ _).switchKept)
  case tamperSettled => exact taken (settleTamper_effect s).frame.switchKept
  case lineIdle others => exact .runs (contend_frame others s).switchKept
  case transmissionComplete => exact transmissionEnds_switchKept s
  case transmissionAbandoned => exact .runs (transmissionFails_switchKept s)
  case frameDiscarded bytes => exact .runs (receiveBytes_switchKept bytes s)
  case presenceTimeout a => exact taken (presenceExpires_switchKept a.toNat s)
  case statusTimerExpiry =>
    exact .runs (.ite ((queueStatus_only s).switchKept.trans (takeCommands_switchKept none _)) (.refl s))
  case chargeTimerExpiry q => exact taken (endWithoutResult_switchKept q s)
  case pressLapse k => exact taken (takeRelease_switchKept k s)
  case guardExpiry => exact taken (guardExpires_switchKept s)
  case talkLimitExpiry => exact taken (talkLimitExpires_switchKept s)
  case lampPeriodBoundary sense => exact taken (lampBoundary_effect sense s).frame.switchKept
  case frameToOtherStation | command | talk | cardPresented | chargeResult | navReport | faultReport
      | heartbeat => exact .runs (receiveFrame_switchKept _ _ s)
  all_goals cases event

/-- What every command of the table does to the switch, unless it stops, starts or loads the main domain. -/
theorem exec_switchKept {c : Instr} (h : exec c s = .next t) : Follows SwitchKept s t := by
  rcases row_or_event c with ⟨service, seq, x, rfl⟩ | event
  · rw [exec_rowOf] at h
    cases h
    exact .runs (consoleRow_switchKept _ seq x s)
  · exact event_switchKept event h

/-! ### Load completion, stops and starts (R1 to R5, R57, R138) -/

theorem warmStartSeat_switchKept (s : State) (q : Seat) : SwitchKept s (warmStartSeat s q) := by
  unfold warmStartSeat
  dsimp only
  split
  · exact (changeSeat_switchKept q _ s).trans (closeIfPaid_switchKept q _)
  · next rests =>
    refine setSeat_switchKept (vacant_of_state ?_)
    cases state : (s.seat q).state with
    | vacant | due => simp [warmSeat, state]
    | hired | paying => simp [openFare, state] at rests

theorem retainedWork_switchKept (s : State) : SwitchKept s (retainedWork s) := by
  have seats : ∀ u, SwitchKept u (warmStartSeats u) := foldl_switchKept warmStartSeat_switchKept allSeats
  have trips : ∀ u, SwitchKept u (resumeTrips u) := fun u =>
    ((seats u).trans (.ite (raiseCause_frame _ _ _).switchKept (.refl _))).trans (retireSlots_frame _).switchKept
  have monitor : ∀ u, SwitchKept u (monitorStartWork u) := fun u => (monitorStartWork_frame u).switchKept
  have drawn := (setDraws_frame s (s.draws + 1)).switchKept
  unfold retainedWork warmWork
  split
  · exact monitor s
  · exact .ite (.ite ((drawn.trans (monitor _)).trans (trips _)) ((drawn.trans (trips _)).trans (monitor _)))
      ((seats s).trans (monitor _))

theorem startWork_switchKept (l : Loaded) (s : State) : SwitchKept s (startWork l s) :=
  ((((putInForce_frame l s).switchKept.trans (intercomStartWork_frame _).switchKept).trans
    (retainedWork_switchKept _)).trans (computeSign_frame _).switchKept).trans (queueStatus_frame _).switchKept

theorem beginStart_intercom (s : State) : (beginStart s).intercom = intercomStart := by
  cases marker : s.markerValid with
  | true => rw [beginStart_of_valid marker]; rfl
  | false => rw [beginStart_of_failed marker]; rfl

theorem stopMain_intercom (s : State) : (stopMain s).intercom = intercomStart := by
  rw [stopMain_eq]
  rfl

/-- A law of the switch, which holds of the switch at a start, reads nothing but the switch and the seats, and is
kept by every change of the running part. -/
structure SwitchLaw (law : State → Prop) : Prop where
  start : ∀ {s : State}, s.intercom = intercomStart → law s
  kept : ∀ {s t : State}, SwitchKept s t → law s → law t

theorem SwitchLaw.keptByStep {law : State → Prop} (h : SwitchLaw law) : KeptByStep law := by
  refine keptByStep_of (fun s v => h.kept (.of_same rfl fun _ => rfl)) fun c s t before e => ?_
  cases exec_switchKept e with
  | runs kept => exact h.kept kept before
  | stops u _ e => subst e; exact h.start (stopMain_intercom u)
  | starts u _ e => subst e; exact h.start (beginStart_intercom u)
  | loads bytes _ e => subst e; exact h.kept (startWork_switchKept _ s) before
  | backup e => subst e; exact h.kept (setMarkerValid_frame s false).switchKept before

theorem gateLaw_switchLaw : SwitchLaw GateLaw where
  start switch := by rw [GateLaw, switch]; rfl
  kept := SwitchKept.gates

theorem talkTimerLaw_switchLaw : SwitchLaw TalkTimerLaw where
  start switch := by rw [talkTimerLaw_iff, switch]; simp [TimersInOrder, intercomStart]
  kept kept := kept.orderly.timers

theorem callLaw_switchLaw : SwitchLaw CallLaw where
  start switch := by rw [callLaw_iff, switch]; simp [CallsInOrder, intercomStart]
  kept kept := kept.orderly.calls

theorem gateTableLaw_switchLaw : SwitchLaw GateTableLaw where
  start switch := (gateTableLaw_iff _).2 (gateLaw_switchLaw.start switch)
  kept kept table := (gateTableLaw_iff _).2 (kept.gates ((gateTableLaw_iff _).1 table))

/-- An open microphone is the talker's, who may speak (R120). -/
theorem microphoneLaw_of (gates : GateLaw s) (calls : CallLaw s) : MicrophoneLaw s := by
  have talker : ∀ q, s.intercom.gates.smic.get q = true → s.intercom.state = .seatTalk q := fun q mic => by
    rw [gates] at mic
    exact (gatesOf_smic _ _ _ q).1 mic
  refine ⟨fun q mic => ?_, fun q p first second => ?_⟩
  · have talks := talker q mic
    obtain ⟨-, -, speaks, -⟩ := calls
    obtain ⟨-, occupied, unmuted, -⟩ := speaks q talks
    refine ⟨?_, talks, occupied, unmuted⟩
    rw [gates, gatesOf_dmic, talks]
    rfl
  · have same := (talker q first).symm.trans (talker p second)
    cases same
    rfl

/-- Settles O8: every change of the running part is a transition of the switch with its gates, a seat's change that the
switch hears of, or nothing that it reads; a stop and a start leave it idle. -/
theorem stepKeepsIntercom : Obligations.StepKeepsIntercom := by
  refine ⟨⟨gateLaw_switchLaw.keptByStep, talkTimerLaw_switchLaw.keptByStep⟩, gateTableLaw_switchLaw.keptByStep,
    fun s t table calls e => ?_, callLaw_switchLaw.keptByStep⟩
  exact microphoneLaw_of ((gateTableLaw_iff t).1 (gateTableLaw_switchLaw.keptByStep s t table e))
    (callLaw_switchLaw.keptByStep s t calls e)

end Sys2Proof.Machine

/-! PROOFS. Presses and releases at the intercom: a panel's TALK, the lapse of a press record and a panel that turns SILENT, in every
state of the switch (R120 to R129, R132, R137). -/

namespace Sys2Proof.Machine

-- One theorem at a time: the memory limit of the check counts the stack of every thread.
set_option Elab.async false

variable {s t u : State} {q : Seat} {i : Intercom} {e : Station} {h : Header} {k : PressKey}

/-! ### The rows (R122, R193 to R195) -/

/-- A panel that is heard changes nothing but the roster and what is queued for its display. -/
theorem hear_panel (panel : e.cls ≠ .reader) (s : State) : QueueOnly (heardAgain e s) (hear e s) := by
  by_cases silent : e.timer = none
  · rw [hear_silent silent]
    unfold presentNotice
    split
    · next reader => exact absurd reader panel
    · split
      · exact (setDisplay_only _ _).trans (compareDisplay_only _ _)
      · exact .refl _
    all_goals exact .refl _
  · rw [hear_present silent]
    exact .refl _

theorem compareDisplay_length_le (s : State) (q : Seat) :
    (compareDisplay s q).line.queue.length ≤ s.line.queue.length + 1 := by
  unfold compareDisplay
  dsimp only
  split
  · exact Nat.le_succ _
  · split
    · exact Nat.le_succ _
    · exact send_length_le _ _ _

theorem hear_panel_length_le (panel : e.cls ≠ .reader) (s : State) :
    (hear e s).line.queue.length ≤ s.line.queue.length + 1 := by
  by_cases silent : e.timer = none
  · rw [hear_silent silent]
    unfold presentNotice
    split
    · next reader => exact absurd reader panel
    · split
      · exact compareDisplay_length_le _ _
      · exact Nat.le_succ _
    all_goals exact Nat.le_succ _
  · rw [hear_present silent]
    exact Nat.le_succ _

theorem pressKeyOf_seatPanel (panel : e.cls = .seatPanel) (bound : seatOfNumber e.binding = some q) :
    pressKeyOf e = some (.seat q) := by
  simp [pressKeyOf, panel, bound]

theorem pressKeyOf_driverPanel (panel : e.cls = .driverPanel) : pressKeyOf e = some .driver := by
  simp [pressKeyOf, panel]

/-- Only panels have a press record. -/
theorem panel_of_pressKey (key : pressKeyOf e = some k) : e.cls = .driverPanel ∨ e.cls = .seatPanel := by
  unfold pressKeyOf at key
  split at key
  · exact .inl ‹_›
  · exact .inr ‹_›
  all_goals cases key

theorem not_reader_of_pressKey (key : pressKeyOf e = some k) : e.cls ≠ .reader := by
  rcases panel_of_pressKey key with panel | panel <;> simp [panel]

/-- A panel's TALK is heard and taken at its press record. -/
theorem exec_talk (sent : Sent s e 1 h) (key : pressKeyOf e = some k) (held : Byte) :
    exec (.talk h [held]) s = .next (takeTalk k held (hear e s)) := by
  have allowed : kindAllowed e.cls 20 = true := (kindAllowed_iff _ _).2 (by simp [panel_of_pressKey key])
  have taken : receiveKind none 20 h [held] s = takeCommands none (deliverTalk e held (hear e s)) :=
    receiveKind_of_sent (kind := 20) sent (by simp) allowed rfl (heartbeatOk_of_other _ (by decide) _ _) none
  have fifo := ((deliverTalk_effect e held _).fifo.trans (hear_effect e s).fifo).trans sent.quiet
  refine congrArg Host.Outcome.next ((taken.trans (takeCommands_of_empty fifo)).trans ?_)
  simp [deliverTalk, key]

theorem exec_talk_press (sent : Sent s e 1 h) (key : pressKeyOf e = some k) :
    exec (.talk h [1]) s = .next (takePress k (hear e s)) := exec_talk sent key 1

theorem exec_talk_release (sent : Sent s e 1 h) (key : pressKeyOf e = some k) :
    exec (.talk h [0]) s = .next (takeRelease k (hear e s)) := exec_talk sent key 0

theorem exec_pressLapse (quiet : s.line.fifo = []) (k : PressKey) :
    exec (.pressLapse k) s = .next (takeRelease k s) :=
  congrArg Host.Outcome.next (takeCommands_of_empty ((takeRelease_effect k s).fifo.trans quiet))

theorem exec_presenceTimeout (quiet : s.line.fifo = []) {station : BitVec 6}
    (listed : stationAt s.line.roster station.toNat = some e) (present : e.timer ≠ none) :
    exec (.presenceTimeout station) s = .next (silentNotice e (setTimer station.toNat none s)) := by
  have expired : exec (.presenceTimeout station) s = .next (presenceExpires station.toNat s) :=
    congrArg Host.Outcome.next
      (takeCommands_of_empty ((presenceExpires_effect station.toNat s).fifo.trans quiet))
  rw [expired, presenceExpires_present listed present]

theorem silentNotice_seatPanel (panel : e.cls = .seatPanel) (bound : seatOfNumber e.binding = some q)
    (s : State) : silentNotice e s = takeRelease (.seat q) s := by
  simp [silentNotice, panel, bound]

/-! ### The press records (R122, R126, R132) -/

theorem changeIntercom_gated (f : Intercom → Intercom) (s : State) :
    (changeIntercom f s).intercom = gated (f s.intercom) s.seats := changeIntercom_intercom f s

theorem takePress_driver_intercom (s : State) :
    (takePress .driver s).intercom
      = gated (driverPress s.tariff.guardTime (setPress .driver (some 1500) s.intercom)) s.seats :=
  changeIntercom_gated _ _

theorem takeRelease_driver_intercom (held : s.intercom.driverPress ≠ none) :
    (takeRelease .driver s).intercom
      = gated (driverRelease s.tariff.guardTime (setPress .driver none s.intercom)) s.seats := by
  have released : takeRelease .driver s = changeIntercom (driverRelease s.tariff.guardTime)
      (s.setIntercom (setPress .driver none s.intercom)) := if_pos (Option.isSome_iff_ne_none.2 held)
  rw [released]
  exact changeIntercom_gated _ _

theorem takeRelease_seat_intercom (held : s.intercom.seatPress.get q ≠ none) :
    (takeRelease (.seat q) s).intercom
      = gated (seatRelease s.tariff.guardTime q (setPress (.seat q) none s.intercom)) s.seats := by
  have released : takeRelease (.seat q) s = changeIntercom (seatRelease s.tariff.guardTime q)
      (s.setIntercom (setPress (.seat q) none s.intercom)) := if_pos (Option.isSome_iff_ne_none.2 held)
  rw [released]
  exact changeIntercom_gated _ _

theorem takeRelease_fare (k : PressKey) (s : State) : FareOnly s (takeRelease k s) := by
  unfold takeRelease
  split
  · have written := setIntercom_fare s (setPress k none s.intercom)
    cases k with
    | driver => exact written.trans (changeIntercom_fare _ _)
    | seat q => exact written.trans (changeIntercom_fare _ _)
  · exact .refl s

theorem takePress_seat_ignored
    (ignored : (s.seat q).state = .vacant ∨ s.intercom.needsRelease.get q = true) :
    takePress (.seat q) s = s.setIntercom (setPress (.seat q) (some 1500) s.intercom) := by
  refine if_pos (Bool.or_eq_true_iff.2 (ignored.imp_left fun vacant => ?_))
  exact vacant_eq_true vacant

/-- A press that needs no release, of a seat that is not VACANT. -/
theorem takePress_seat_of_clear (occupied : (s.seat q).state ≠ .vacant)
    (clear : s.intercom.needsRelease.get q = false) :
    takePress (.seat q) s =
      if s.intercom.mute.get q then sendIntercom (s.setIntercom (setPress (.seat q) (some 1500) s.intercom))
      else changeIntercom (seatPress s.tariff.guardTime s.tariff.talkLimit q)
        (s.setIntercom (setPress (.seat q) (some 1500) s.intercom)) := by
  refine if_neg fun ignored => ?_
  rcases Bool.or_eq_true_iff.1 ignored with vacant | needs
  · exact occupied (of_decide_eq_true vacant)
  · exact Bool.false_ne_true (clear.symm.trans needs)

theorem takePress_seat_muted (occupied : (s.seat q).state ≠ .vacant)
    (clear : s.intercom.needsRelease.get q = false) (muted : s.intercom.mute.get q = true) :
    takePress (.seat q) s = sendIntercom (s.setIntercom (setPress (.seat q) (some 1500) s.intercom)) := by
  rw [takePress_seat_of_clear occupied clear, if_pos muted]

theorem takePress_seat_intercom (occupied : (s.seat q).state ≠ .vacant)
    (clear : s.intercom.needsRelease.get q = false) (unmuted : s.intercom.mute.get q = false) :
    (takePress (.seat q) s).intercom =
      gated (seatPress s.tariff.guardTime s.tariff.talkLimit q
        (setPress (.seat q) (some 1500) s.intercom)) s.seats := by
  rw [takePress_seat_of_clear occupied clear, if_neg (by simp [unmuted])]
  exact changeIntercom_gated _ _

/-! ### The driver, by the state of the switch (R124, R125) -/

theorem driverPress_of_idle (guardTime : Nat) (idle : i.state = .idle) :
    driverPress guardTime i = { i with state := .driverTalk } := by
  simp [driverPress, idle]

theorem driverPress_of_driverTalk (guardTime : Nat) (talks : i.state = .driverTalk) :
    driverPress guardTime i = i := by
  simp [driverPress, talks]

theorem driverPress_of_seatTalk (guardTime : Nat) (talks : i.state = .seatTalk q) :
    driverPress guardTime i = { i with
      state := .guard, guardTimer := some guardTime, talkTimer := none, pendingDriver := true,
      needsRelease := i.needsRelease.set q true } := by
  simp [driverPress, cutOff, startGuard, talks]

theorem driverPress_of_guard (guardTime : Nat) (guard : i.state = .guard) :
    driverPress guardTime i = { i with
      pendingDriver := true,
      guardTimer := if i.pendingDriver = true then i.guardTimer else some guardTime } := by
  simp only [driverPress, guard]
  split
  · next pending => rw [← pending, ← guard]
  · rfl

/-- A driver press leaves its record, the call queue and the target. -/
theorem driverPress_keeps (guardTime : Nat) (i : Intercom) :
    (driverPress guardTime i).driverPress = i.driverPress ∧
      (driverPress guardTime i).queue = i.queue ∧ (driverPress guardTime i).target = i.target := by
  cases state : i.state with
  | idle => rw [driverPress_of_idle _ state]; exact ⟨rfl, rfl, rfl⟩
  | driverTalk => rw [driverPress_of_driverTalk _ state]; exact ⟨rfl, rfl, rfl⟩
  | seatTalk q => rw [driverPress_of_seatTalk _ state]; exact ⟨rfl, rfl, rfl⟩
  | guard => rw [driverPress_of_guard _ state]; exact ⟨rfl, rfl, rfl⟩

theorem driverRelease_of_driverTalk (guardTime : Nat) (talks : i.state = .driverTalk) :
    driverRelease guardTime i = startGuard guardTime i := if_pos talks

theorem driverRelease_of_other (guardTime : Nat) (other : i.state ≠ .driverTalk) :
    driverRelease guardTime i = i := if_neg other

/-- Settles O46: a press by the state of the switch; a release while the driver talks, and at any other time. -/
theorem driverPressAndRelease : Obligations.DriverPressAndRelease := by
  intro s e h sent panel
  have key := pressKeyOf_driverPanel panel
  have heard := hear_panel (not_reader_of_pressKey key) s
  have intercom : (hear e s).intercom = s.intercom := heard.intercom
  have tariff : (hear e s).tariff = s.tariff := heard.tariff
  have seats : (hear e s).seats = s.seats := heard.seats
  refine ⟨⟨_, exec_talk_press sent key, ?_⟩, ⟨_, exec_talk_release sent key, ?_⟩,
    fun held => ⟨_, exec_pressLapse sent.quiet .driver, ?_⟩⟩
  · rw [takePress_driver_intercom, intercom, tariff, seats]
    obtain ⟨record, queue, target⟩ :=
      driverPress_keeps s.tariff.guardTime (setPress .driver (some 1500) s.intercom)
    refine ⟨record, congrArg (gatesOf _ · s.seats) target, queue, fun idle => ?_, fun talks => ?_,
      fun q talks => ?_, fun guard => ?_⟩
    · rw [driverPress_of_idle (i := setPress .driver (some 1500) s.intercom) _ idle]
      rfl
    · rw [driverPress_of_driverTalk (i := setPress .driver (some 1500) s.intercom) _ talks]
      exact talks
    · rw [driverPress_of_seatTalk (i := setPress .driver (some 1500) s.intercom) _ talks]
      exact ⟨rfl, rfl, rfl, rfl, rfl⟩
    · rw [driverPress_of_guard (i := setPress .driver (some 1500) s.intercom) _ guard]
      exact ⟨guard, rfl, rfl⟩
  · by_cases free : s.intercom.driverPress = none
    · rw [takeRelease_stopped (k := .driver) (by rw [intercom]; exact free), intercom]
      exact ⟨free, rfl, rfl, fun held => absurd free held, fun _ => ⟨rfl, rfl⟩⟩
    rw [takeRelease_driver_intercom (by rw [intercom]; exact free), intercom, tariff, seats]
    by_cases talks : s.intercom.state = .driverTalk
    · rw [driverRelease_of_driverTalk (i := setPress .driver none s.intercom) _ talks]
      exact ⟨rfl, rfl, rfl, fun _ _ => ⟨rfl, rfl, rfl⟩, fun other => other.elim (absurd · free) (absurd talks)⟩
    · rw [driverRelease_of_other (i := setPress .driver none s.intercom) _ talks]
      exact ⟨rfl, rfl, rfl, fun _ talk => absurd talk talks, fun _ => ⟨rfl, rfl⟩⟩
  · rw [takeRelease_driver_intercom held]
    refine ⟨fun talks => ?_, fun other => ?_⟩
    · rw [driverRelease_of_driverTalk (i := setPress .driver none s.intercom) _ talks]
      rfl
    · rw [driverRelease_of_other (i := setPress .driver none s.intercom) _ other]
      rfl

/-! ### A seat's press, by the state of the switch (R126) -/

theorem seatPress_of_idle (guardTime limit : Nat) (idle : i.state = .idle) :
    seatPress guardTime limit q i = startTalk limit q i := by
  simp [seatPress, idle]

theorem seatPress_of_talking (guardTime limit : Nat) (talks : i.state = .seatTalk q) :
    seatPress guardTime limit q i = i := by
  simp [seatPress, talks]

theorem seatPress_of_guard (guardTime limit : Nat) (guard : i.state = .guard) :
    seatPress guardTime limit q i = { joinCalls q i with
      guardTimer := if i.queue = [] ∧ i.pendingDriver = false then some guardTime else i.guardTimer } := by
  simp only [seatPress, guard, Bool.not_eq_true']
  split
  · rfl
  · rw [joinCalls_eq]

/-- While another speaks, or in GUARD, a seat joins the call queue. -/
theorem seatPress_of_waiting (guardTime limit : Nat)
    (waits : i.state = .driverTalk ∨ i.state = .guard ∨ ∃ p : Seat, p ≠ q ∧ i.state = .seatTalk p) :
    (seatPress guardTime limit q i).state = i.state ∧
      (seatPress guardTime limit q i).queue = if q ∈ i.queue then i.queue else i.queue ++ [q] := by
  rcases waits with driver | guard | ⟨p, apart, talks⟩
  · simp [seatPress, driver, joinCalls_eq]
  · rw [seatPress_of_guard _ _ guard, joinCalls_eq]
    exact ⟨rfl, rfl⟩
  · simp [seatPress, talks, apart, joinCalls_eq]

/-- A press that counts leaves the press records and the target. -/
theorem seatPress_keeps (guardTime limit : Nat) (q : Seat) (i : Intercom) :
    (seatPress guardTime limit q i).seatPress = i.seatPress ∧
      (seatPress guardTime limit q i).target = i.target := by
  cases state : i.state with
  | idle => rw [seatPress_of_idle _ _ state]; exact ⟨rfl, rfl⟩
  | driverTalk => simp [seatPress, state, joinCalls_eq]
  | seatTalk p =>
    simp only [seatPress, state, joinCalls_eq]
    split <;> exact ⟨rfl, rfl⟩
  | guard => rw [seatPress_of_guard _ _ state, joinCalls_eq]; exact ⟨rfl, rfl⟩

/-- A press that does not count only holds the record. -/
theorem takePress_seat_uncounted
    (uncounted : (s.seat q).state = .vacant ∨ s.intercom.needsRelease.get q = true ∨ s.intercom.mute.get q = true) :
    (takePress (.seat q) s).intercom = setPress (.seat q) (some 1500) s.intercom := by
  by_cases ignored : (s.seat q).state = .vacant ∨ s.intercom.needsRelease.get q = true
  · rw [takePress_seat_ignored ignored]
    rfl
  · obtain ⟨occupied, clear⟩ := not_or.1 ignored
    rw [takePress_seat_muted occupied (by simpa using clear)
      ((uncounted.resolve_left occupied).resolve_left clear)]
    exact (send_only _ _ _).intercom

theorem seat_press_counts : Claims.SeatPressCounts := by
  intro s e h q sent panel bound
  have key := pressKeyOf_seatPanel panel bound
  have notReader := not_reader_of_pressKey key
  have heard := hear_panel notReader s
  have intercom : (hear e s).intercom = s.intercom := heard.intercom
  have tariff : (hear e s).tariff = s.tariff := heard.tariff
  have seats : (hear e s).seats = s.seats := heard.seats
  have seat : (hear e s).seat q = s.seat q := seat_of_seats seats q
  refine ⟨_, exec_talk_press sent key, ?_, fun uncounted => ?_, fun present ignored => ?_,
    fun occupied clear muted room => ?_, fun occupied clear unmuted => ?_⟩
  · by_cases counts : (s.seat q).state ≠ .vacant ∧ s.intercom.needsRelease.get q = false ∧
        s.intercom.mute.get q = false
    · obtain ⟨occupied, clear, unmuted⟩ := counts
      rw [takePress_seat_intercom (by rwa [seat]) (by rwa [intercom]) (by rwa [intercom]), intercom]
      exact (seatPress_keeps _ _ q _).1
    · rw [takePress_seat_uncounted (by rw [seat, intercom]; simpa [or_iff_not_imp_left] using counts), intercom]
      rfl
  · rw [takePress_seat_uncounted (by rwa [seat, intercom]), intercom]
    rfl
  · rw [takePress_seat_ignored (by rwa [seat, intercom]), hear_present present]
    rfl
  · rw [takePress_seat_muted (by rwa [seat]) (by rwa [intercom]) (by rwa [intercom]), intercom]
    have length := hear_panel_length_le notReader s
    refine mem_enqueue_self
      (f := ⟨broadcast, .intercomState ⟨s.intercom.state, s.intercom.queue, s.intercom.mute⟩, false⟩) ?_
    change (hear e s).line.queue.length < 16
    omega
  · rw [takePress_seat_intercom (by rwa [seat]) (by rwa [intercom]) (by rwa [intercom]), intercom, tariff, seats]
    obtain ⟨-, target⟩ := seatPress_keeps s.tariff.guardTime s.tariff.talkLimit q
      (setPress (.seat q) (some 1500) s.intercom)
    refine ⟨congrArg (gatesOf _ · s.seats) target, fun idle => ?_, fun talks => ?_,
      fun waits => seatPress_of_waiting (i := setPress (.seat q) (some 1500) s.intercom) _ _ waits, fun guard => ?_⟩
    · rw [seatPress_of_idle (i := setPress (.seat q) (some 1500) s.intercom) _ _ idle]
      exact ⟨rfl, rfl, rfl⟩
    · rw [seatPress_of_talking (i := setPress (.seat q) (some 1500) s.intercom) _ _ talks]
      exact ⟨talks, rfl⟩
    · rw [seatPress_of_guard (i := setPress (.seat q) (some 1500) s.intercom) _ _ guard]
      rfl

/-! ### A seat's release (R127) -/

theorem seatRelease_of_talking (guardTime : Nat) (talks : i.state = .seatTalk q) :
    seatRelease guardTime q i = { startGuard guardTime i with
      needsRelease := i.needsRelease.set q false, queue := i.queue.filter (fun p => p ≠ q) } := by
  simp [seatRelease_eq, startGuard, talks]

theorem seatRelease_of_silent (guardTime : Nat) (silent : i.state ≠ .seatTalk q) :
    seatRelease guardTime q i = { i with
      needsRelease := i.needsRelease.set q false, queue := i.queue.filter (fun p => p ≠ q) } := by
  simp [seatRelease_eq, silent]

theorem seat_release_ends_call : Claims.SeatReleaseEndsCall := by
  intro s q quiet held i released
  have ends : ∀ u : State, u.intercom = s.intercom → u.tariff = s.tariff →
      released (takeRelease (.seat q) u) := fun u intercom tariff => by
    have leaves := takeRelease_seat_intercom (s := u) (q := q) (by rw [intercom]; exact held)
    rw [intercom, tariff] at leaves
    dsimp only [released]
    by_cases talks : s.intercom.state = .seatTalk q
    · rw [leaves, seatRelease_of_talking (i := setPress (.seat q) none s.intercom) _ talks]
      exact ⟨rfl, rfl, rfl, fun _ => ⟨rfl, rfl, rfl, rfl⟩, fun silent => absurd talks silent⟩
    · rw [leaves, seatRelease_of_silent (i := setPress (.seat q) none s.intercom) _ talks]
      exact ⟨rfl, rfl, rfl, fun talk => absurd talk talks, fun _ => ⟨rfl, rfl, rfl⟩⟩
  refine ⟨⟨_, exec_pressLapse quiet (.seat q), ends s rfl rfl⟩, fun e h sent panel bound => ?_,
    fun station e listed panel bound present => ?_⟩
  · have key := pressKeyOf_seatPanel panel bound
    have heard := hear_panel (not_reader_of_pressKey key) s
    exact ⟨_, exec_talk_release sent key, ends _ heard.intercom heard.tariff⟩
  · refine ⟨_, exec_presenceTimeout quiet listed present, ?_⟩
    rw [silentNotice_seatPanel panel bound]
    exact ⟨ends _ rfl rfl, (takeRelease_fare _ _).roster⟩

/-- Settles O47: a press that counts by the state of the switch, one that does not, and a release, however it comes. -/
theorem seatPressAndRelease : Obligations.SeatPressAndRelease := ⟨seat_press_counts, seat_release_ends_call⟩

end Sys2Proof.Machine

/-! PROOFS. A change of the switch whose INTERCOM_STATE the full transmit queue discards: a TALK overheard from a SILENT reader runs a
charge-start pass, and the pass closes a seat (R98, R133, R137, R175, R176, R191, R195, R200). -/

namespace Sys2Proof.Machine

-- One theorem at a time: the memory limit of the check counts the stack of every thread.
set_option Elab.async false

/-- The last passenger of a CLOSING shift owes 1, which an account would pay, and is muted; the roster lists a CONSOLE
and a SILENT reader, and three frames wait in the transmit queue. -/
def lastDueUnpaid : State :=
  { State.reset with
    start := { loaded := true, imageTimer := none, kind := .cold },
    seats := (seatsOf vacantSeat).set .one { vacantSeat with state := .due, fare := 1 },
    accounts := { accountsCold with shift := { accountsCold.shift with state := .closing } },
    payers := (indexesOf none).set 0 (some
      { kind := .account 1, scope := .seat .one, limit := 1, spent := 0, tipsAllowed := false,
        charging := none }),
    intercom := { intercomStart with mute := (seatsOf false).set .one true },
    line := { lineStart with
      roster := [⟨1, .console, 0, none⟩, ⟨2, .reader, 1, none⟩],
      queue := List.replicate 3 ⟨2, .void 1, false⟩ } }

/-- The header of a frame from the reader to a station that is not the CF-14. -/
def elsewhere : Header := { cls := 1, source := 2, dest := 3 }

/-- The reader's return lets the account pay; the seat closes and its mute is cleared, but the report's pages, which the end
of the shift queues first, leave the INTERCOM_STATE no place. -/
theorem overheard_talk_discards_report : ∃ t, exec (.talk elsewhere [1]) lastDueUnpaid = .next t ∧
    t.intercom.mute.get .one = false ∧ t.line.queue.length = queuePlaces ∧
    ∀ f ∈ t.line.queue, f.body.kind = 11 ∨ f.body.kind = 35 :=
  ⟨_, rfl, by decide +kernel, by decide +kernel, by decide +kernel⟩

/-- The third claim fails: the switch's change is not reported. -/
theorem not_switchReportsItsChanges : ¬ Claims.SwitchReportsItsChanges := by
  intro reports
  obtain ⟨t, e, unmuted, -, others⟩ := overheard_talk_discards_report
  obtain ⟨reported, -⟩ := reports lastDueUnpaid t (.talk elsewhere [1]) rfl (by decide) trivial e
  have changed : ¬(t.intercom.state = lastDueUnpaid.intercom.state ∧
      t.intercom.queue = lastDueUnpaid.intercom.queue ∧
      t.intercom.mute = lastDueUnpaid.intercom.mute) := fun ⟨_, _, mute⟩ => by
    rw [mute] at unmuted
    cases unmuted
  rcases others _ (reported changed) with void | report
  · cases void
  · cases report

/-- Refutes O48: a TALK that the CF-14 overhears can close a seat, and a full transmit queue may then discard the
INTERCOM_STATE of that change. -/
theorem not_guardLimitMuteAndTarget : ¬ Obligations.GuardLimitMuteAndTarget :=
  fun ⟨_, _, reports⟩ => not_switchReportsItsChanges reports

end Sys2Proof.Machine

/-! PROOFS. The roof sign and the first cause: what the sign state reads of the state, and what the operations of the hold
monitor, the shift and the seats leave of the buffered patterns and of the first-cause pointer (R143 to R145, R155 to R157,
R161). -/

namespace Sys2Proof.Machine

-- One theorem at a time: the memory limit of the check counts the stack of every thread.
set_option Elab.async false

variable {s t u : State} {q : Seat} {v w : PerSeat SeatRecord}

/-! ### What the sign state reads of the seats (R143, R144) -/

/-- Every record of `w` has the state and the exclusive flag of its record of `v`. -/
def SameTrips (v w : PerSeat SeatRecord) : Prop :=
  ∀ q, (w.get q).state = (v.get q).state ∧ (w.get q).exclusive = (v.get q).exclusive

theorem SameTrips.of_eq (h : w = v) : SameTrips v w := fun _ => h ▸ ⟨rfl, rfl⟩

theorem SameTrips.set {r : SeatRecord} (state : r.state = (v.get q).state)
    (exclusive : r.exclusive = (v.get q).exclusive) : SameTrips v (v.set q r) := by
  intro p
  rw [PerSeat.get_set]
  split
  · next same => exact same ▸ ⟨state, exclusive⟩
  · exact ⟨rfl, rfl⟩

theorem SameTrips.vacant (h : SameTrips v w) (q : Seat) : (w.get q).vacant = (v.get q).vacant :=
  vacant_of_state (h q).1

theorem SameTrips.allVacant (h : SameTrips v w) : allVacant w = allVacant v := by
  rw [Bool.eq_iff_iff, allVacant_iff, allVacant_iff]
  exact forall_congr' fun q => by rw [(h q).1]

theorem SameTrips.exclusiveOccupied (h : SameTrips v w) : exclusiveOccupied w = exclusiveOccupied v := by
  rw [Bool.eq_iff_iff, exclusiveOccupied_iff, exclusiveOccupied_iff]
  exact exists_congr fun q => by rw [(h q).1, (h q).2]

theorem SameTrips.vacantCount (h : SameTrips v w) : w.count (·.vacant) = v.count (·.vacant) := by
  have one := h.vacant .one
  have two := h.vacant .two
  have three := h.vacant .three
  have four := h.vacant .four
  simp only [PerSeat.get] at one two three four
  simp only [PerSeat.count, one, two, three, four]

theorem SameTrips.freeSeats (h : SameTrips v w) (pool : Bool) : freeSeats pool w = freeSeats pool v := by
  rw [Machine.freeSeats, Machine.freeSeats, h.exclusiveOccupied, h.vacantCount, h.allVacant]

theorem SameTrips.signPatterns (h : SameTrips v w) (held : Bool) (shift : ShiftState) (mode : SignMode)
    (pool : Bool) : signPatterns held shift mode pool w = signPatterns held shift mode pool v := by
  unfold Machine.signPatterns
  rw [h.freeSeats, h.allVacant]

/-! ### Buffers that are current (R144, R145) -/

/-- The buffered patterns are the sign state of the inputs as they stand. -/
def SignCurrent (s : State) : Prop := ∀ c : Channel,
  (s.sign.lamps.get c).buffer =
    (signPatterns s.hold.held s.accounts.shift.state s.sign.mode s.sign.pool s.seats).get c

theorem signLaw_iff (s : State) : SignLaw s ↔ (s.start.loaded = true → SignCurrent s) := Iff.rfl

theorem computeSign_current (s : State) : SignCurrent (computeSign s) := computeSign_buffer s

/-- `t` has the inputs of the sign state and the buffers that `s` has. -/
structure SameSign (s t : State) : Prop where
  held : t.hold.held = s.hold.held
  shift : t.accounts.shift.state = s.accounts.shift.state
  mode : t.sign.mode = s.sign.mode
  pool : t.sign.pool = s.sign.pool
  seats : SameTrips s.seats t.seats
  buffer : ∀ c, (t.sign.lamps.get c).buffer = (s.sign.lamps.get c).buffer

theorem SameSign.current (h : SameSign s t) (current : SignCurrent s) : SignCurrent t := by
  intro c
  rw [h.buffer, current c, h.held, h.shift, h.mode, h.pool, h.seats.signPatterns]

/-! ### The pointer (R157) -/

theorem PointerLaw.of_hold (h : PointerLaw s) (same : t.hold = s.hold) : PointerLaw t := by
  rw [PointerLaw, same]
  exact h

/-- A status set leaves the pointer at a set status. -/
theorem PointerLaw.set_status (h : PointerLaw s) (c : Cause) :
    PointerLaw (s.setHold { s.hold with status := s.hold.status.set c true }) := by
  intro d first
  change (s.hold.status.set c true).get d = true
  rw [PerCause.get_set]
  split
  · rfl
  · exact h d first

/-- A pointer set to a cause whose status is set. -/
theorem pointerLaw_of_first {c : Cause} (pointer : s.hold.pointer = some c)
    (status : s.hold.status.get c = true) : PointerLaw s := by
  intro d first
  rw [pointer] at first
  cases first
  exact status

theorem PointerLaw.clearStatus (h : PointerLaw s) (c : Cause) : PointerLaw (clearStatus c s) := by
  intro d first
  change (if s.hold.pointer = some c then none else s.hold.pointer) = some d at first
  split at first
  · cases first
  · next other =>
    have apart : d ≠ c := fun same => other (first.trans (congrArg some same))
    change (s.hold.status.set c false).get d = true
    rw [PerCause.get_set, if_neg apart]
    exact h d first

/-! ### Changes that keep both -/

/-- `t` follows from `s` by a change that is no start, no stop and no load completion: a first-cause pointer at a
set status is so again, and buffers that were current are. -/
structure SignKept (s t : State) : Prop where
  start : t.start = s.start
  pointer : PointerLaw s → PointerLaw t
  sign : SignCurrent s → SignCurrent t

theorem SignKept.refl (s : State) : SignKept s s := ⟨rfl, id, id⟩

theorem SignKept.trans (h : SignKept s t) (k : SignKept t u) : SignKept s u :=
  ⟨k.start.trans h.start, k.pointer ∘ h.pointer, k.sign ∘ h.sign⟩

theorem SignKept.ite {c : Prop} [Decidable c] (h : SignKept s t) (k : SignKept s u) :
    SignKept s (if c then t else u) := by
  split <;> assumption

theorem foldl_signKept {α : Type} {f : State → α → State} (h : ∀ u a, SignKept u (f u a)) (l : List α)
    (s : State) : SignKept s (l.foldl f s) := by
  induction l generalizing s with
  | nil => exact .refl s
  | cons a l ih => exact (h s a).trans (ih _)

/-- The parts that the two laws read. -/
def signInputs : List Part := [.start, .hold, .accounts, .seats, .sign]

theorem Frame.signKept {ps : List Part} (h : Frame ps s t) (apart : ∀ p ∈ signInputs, p ∉ ps := by decide) :
    SignKept s t := by
  have same : ∀ p ∈ signInputs, SamePart s t p := fun p input => h p (apart p input)
  have hold : t.hold = s.hold := same .hold (by decide)
  have accounts : t.accounts = s.accounts := same .accounts (by decide)
  have seats : t.seats = s.seats := same .seats (by decide)
  have sign : t.sign = s.sign := same .sign (by decide)
  refine ⟨same .start (by decide), fun law => law.of_hold hold, SameSign.current ⟨?_, ?_, ?_, ?_, ?_, ?_⟩⟩
  · rw [hold]
  · rw [accounts]
  · rw [sign]
  · rw [sign]
  · exact .of_eq seats
  · exact fun c => by rw [sign]

theorem QueueOnly.signKept (h : QueueOnly s t) : SignKept s t := h.frame.signKept

/-- A computation of the sign state, after a change of its inputs. -/
theorem computed_signKept (start : u.start = s.start) (pointer : PointerLaw s → PointerLaw u) :
    SignKept s (computeSign u) := ⟨start, pointer, fun _ => computeSign_current u⟩

/-! ### The hold monitor (R155, R156, R161, R162) -/

/-- The monitor's records change, and HELD stands. -/
theorem setHold_signKept {h : Hold} (held : h.held = s.hold.held)
    (pointer : PointerLaw s → PointerLaw (s.setHold h)) : SignKept s (s.setHold h) :=
  ⟨rfl, pointer, SameSign.current ⟨held, rfl, rfl, rfl, .of_eq rfl, fun _ => rfl⟩⟩

theorem setStatus_signKept (c : Cause) (s : State) :
    SignKept s (s.setHold { s.hold with status := s.hold.status.set c true }) :=
  setHold_signKept rfl fun law => law.set_status c

theorem clearStatus_signKept (c : Cause) (s : State) : SignKept s (clearStatus c s) :=
  setHold_signKept rfl fun law => law.clearStatus c

/-- The accounts change, and the shift state stands. -/
theorem setAccounts_signKept {a : Accounts} (state : a.shift.state = s.accounts.shift.state) :
    SignKept s (s.setAccounts a) :=
  ⟨rfl, id, SameSign.current ⟨rfl, state, rfl, rfl, .of_eq rfl, fun _ => rfl⟩⟩

theorem countHold_signKept (s : State) : SignKept s (countHold s) :=
  .ite (.refl s) (setAccounts_signKept rfl)

/-- An entry to HELD names its cause first. -/
theorem enterHeld_signKept {c : Cause} (status : s.hold.status.get c = true) (src : Nat) :
    SignKept s (enterHeld c src s) := by
  refine SignKept.trans (computed_signKept ?_ fun _ => ?_) (countHold_signKept _)
  · rw [(queueStatus_only _).start, (send_only _ _ _).start]
    rfl
  · refine pointerLaw_of_first (c := c) ?_ ?_ <;> rw [(queueStatus_only _).hold, (send_only _ _ _).hold]
    · rfl
    · exact status

theorem raiseCause_signKept (c : Cause) (src : Nat) (s : State) : SignKept s (raiseCause c src s) := by
  have marked : SignKept s (markRaised c src s) :=
    (setStatus_signKept c s).trans (setMonitor_frame _ _).signKept
  have status : (markRaised c src s).hold.status.get c = true := PerCause.get_set_self _ c true
  refine .ite marked (.ite (marked.trans (enterHeld_signKept status src)) (.ite (marked.trans ?_) marked))
  exact setHold_signKept rfl fun _ => pointerLaw_of_first (c := c) rfl status

theorem reportCondition_signKept (c : Cause) (b : Bool) (s : State) : SignKept s (reportCondition c b s) :=
  (reportCondition_frame c b s).signKept

theorem releaseHold_signKept (s : State) : SignKept s (releaseHold s) := by
  refine computed_signKept ?_ fun law => ?_
  · rw [(queueStatus_only _).start, (send_only _ _ _).start]
    rfl
  · refine PointerLaw.of_hold (s := s.setHold { s.hold with held := false }) law ?_
    rw [(queueStatus_only _).hold, (send_only _ _ _).hold]

theorem tamperEffect_signKept (b : Bool) (s : State) : SignKept s (tamperEffect b s) := by
  have raised := (raiseCause_signKept .tamper s.tariff.own s).trans (reportCondition_signKept .tamper true _)
  exact .ite (.ite raised (reportCondition_signKept _ _ s)) (.ite (setStatus_signKept _ s) (.refl s))

/-! ### Shift and seats (R40, R52, R169, R178) -/

theorem changeShift_signKept (sh : Shift) (s : State) : SignKept s (changeShift sh s) :=
  (computed_signKept (s := s) (u := setShift s sh) rfl id).trans (queueStatus_only _).signKept

theorem closeShift_signKept (s : State) : SignKept s (closeShift s) :=
  (changeShift_signKept _ s).trans (queueReport_only _).signKept

theorem startClosing_signKept (s : State) : SignKept s (startClosing s) := changeShift_signKept _ s

theorem afterTrip_signKept (others : Bool) (s : State) : SignKept s (afterTrip others s) := by
  unfold afterTrip
  dsimp only
  split
  · exact .refl s
  · exact .ite (.refl s) (closeShift_signKept s)
  · exact .ite (.ite (startClosing_signKept s) ((startClosing_signKept s).trans (closeShift_signKept _)))
      (.refl s)

theorem takeTrip_signKept (x : Trip) (others : Bool) (s : State) : SignKept s (takeTrip x others s) :=
  (setAccounts_signKept (a := recordTrip x s.accounts s.tariff.identity) rfl).trans (afterTrip_signKept others _)

theorem changeSeat_signKept (q : Seat) (r : SeatRecord) (s : State) : SignKept s (changeSeat q r s) :=
  ((computed_signKept (s := s) (u := s.setSeat q r) rfl id).trans (occupancyNotice_frame q _ _).signKept).trans
    (queueStatus_only _).signKept

/-- The records change, and no seat's state nor its exclusive flag. -/
theorem setSeats_signKept (same : SameTrips s.seats v) : SignKept s (s.setSeats v) :=
  ⟨rfl, id, SameSign.current ⟨rfl, rfl, rfl, rfl, same, fun _ => rfl⟩⟩

theorem setSeat_signKept {r : SeatRecord} (state : r.state = (s.seat q).state)
    (exclusive : r.exclusive = (s.seat q).exclusive) : SignKept s (s.setSeat q r) :=
  setSeats_signKept (.set state exclusive)

/-- The sign driver changes, and the mode, the flag and the buffers stand. -/
theorem setSign_signKept {x : Sign} (mode : x.mode = s.sign.mode) (pool : x.pool = s.sign.pool)
    (buffer : ∀ c, (x.lamps.get c).buffer = (s.sign.lamps.get c).buffer) : SignKept s (s.setSign x) :=
  ⟨rfl, id, SameSign.current ⟨rfl, rfl, mode, pool, .of_eq rfl, buffer⟩⟩

theorem closeSeat_signKept (q : Seat) (e : TripEnd) (s : State) : SignKept s (closeSeat q e s) := by
  rw [closeSeat_eq]
  have taken : SignKept s (closeTaken q e s) :=
    (takeTrip_signKept _ _ s).trans (payersAtClose_frame _ _ _).signKept
  exact (taken.trans (changeSeat_signKept q _ _)).trans (compareDisplay_only _ _).signKept

theorem closeIfPaid_signKept (q : Seat) (s : State) : SignKept s (closeIfPaid q s) :=
  .ite (closeSeat_signKept q _ s) (.refl s)

end Sys2Proof.Machine

/-! PROOFS. Every command of the table keeps the first-cause pointer at a set status and the sign's buffers current: a seat's
payments and charges, the console's commands, the events, and load completion (R38 to R52, R98 to R114, R141 to R150, R154
to R167, R187 to R201). -/

namespace Sys2Proof.Machine

-- One theorem at a time: the memory limit of the check counts the stack of every thread.
set_option Elab.async false

variable {s t u : State} {q : Seat}

/-! ### Payments and charges (R48 to R52, R98 to R114) -/

theorem enterPaying_signKept (q : Seat) (s : State) : SignKept s (enterPaying q s) :=
  .ite (changeSeat_signKept q _ s) (.refl s)

theorem leavePaying_signKept (q : Seat) (s : State) : SignKept s (leavePaying q s) :=
  .ite (changeSeat_signKept q _ s) (.refl s)

/-- A payment entry leaves the seat's state and its exclusive flag. -/
theorem paid_signKept (q : Seat) (p : Payment) (s : State) :
    SignKept s (closeIfPaid q (s.setSeat q (addPayment p (s.seat q)))) :=
  (setSeat_signKept (r := addPayment p (s.seat q)) rfl rfl).trans (closeIfPaid_signKept q _)

theorem creditCard_signKept (q : Seat) (p : Payment) (s : State) : SignKept s (creditCard q p s) :=
  .ite ((changeSeat_signKept q _ s).trans (closeIfPaid_signKept q _)) (.refl s)

theorem settle_signKept (q : Seat) (i : Fin 8) (p : Payer) (id : Nat) (s : State) :
    SignKept s (settle q i p id s) :=
  (settlePayer_frame _ _ s).signKept.trans (.ite (paid_signKept q _ _) (.refl _))

theorem startCharge_signKept (q : Seat) (i : Fin 8) (p : Payer) (reader : Nat) (s : State) :
    SignKept s (startCharge q i p reader s) :=
  ((((setTags_frame s _).signKept.trans (send_only _ _ _).signKept).trans
    (setCharge_frame q _ _ _).signKept).trans (beginCharge_frame i q _).signKept).trans
      (enterPaying_signKept q _)

theorem passSeat_signKept (q : Seat) (fuel : Nat) (s : State) : SignKept s (passSeat q fuel s) := by
  induction fuel generalizing s with
  | zero => exact .refl s
  | succ n ih =>
    unfold passSeat
    split
    · exact .refl s
    · split
      · exact startCharge_signKept _ _ _ _ s
      · exact (settle_signKept _ _ _ _ s).trans (ih _)

theorem chargePass_signKept (s : State) : SignKept s (chargePass s) :=
  foldl_signKept (fun u q => passSeat_signKept q passFuel u) allSeats s

theorem passCompare_signKept (s : State) : SignKept s (compareDisplays (chargePass s)) :=
  (chargePass_signKept s).trans (compareDisplays_only _).signKept

theorem passAndCompare_signKept (s : State) : SignKept s (passAndCompare s) :=
  (chargePass_signKept s).trans (compareIfChanged_only _ _).signKept

/-- A charge that has ended without a credit returns its seat to DUE, and a pass is run. -/
theorem endedCharge_signKept (q : Seat) (c : Charge) (n : Nat) (full : Bool) (s : State) :
    SignKept s (compareDisplays (chargePass (leavePaying q (endCharge c.index n full s)))) :=
  ((endCharge_frame _ _ _ s).signKept.trans (leavePaying_signKept q _)).trans (passCompare_signKept _)

theorem endWithoutResult_signKept (q : Seat) (s : State) : SignKept s (endWithoutResult q s) := by
  unfold endWithoutResult
  split
  · exact (((setCharge_frame q _ _ s).signKept.trans (setTags_frame _ _).signKept).trans
      (send_only _ _ _).signKept).trans (endedCharge_signKept _ _ _ _ _)
  · exact .refl s

theorem readerSilent_signKept (reader : Nat) (s : State) : SignKept s (readerSilent reader s) := by
  unfold readerSilent
  split
  · exact endWithoutResult_signKept _ s
  · exact .refl s

theorem approve_signKept (q : Seat) (c : Charge) (e : Tag) (amount tip : Nat) (s : State) :
    SignKept s (approve q c e amount tip s) := by
  unfold approve
  dsimp only
  refine SignKept.trans ?_ (passCompare_signKept _)
  refine SignKept.trans ?_ (.ite (creditCard_signKept _ _ _) (leavePaying_signKept _ _))
  refine SignKept.trans ?_ (endCharge_frame _ _ _ _).signKept
  exact (SignKept.ite (send_only _ _ s).signKept (.refl s)).trans (setCharge_frame _ _ _ _).signKept

theorem decline_signKept (q : Seat) (c : Charge) (s : State) : SignKept s (decline q c s) :=
  (setCharge_frame q _ _ s).signKept.trans (endedCharge_signKept _ _ _ _ _)

/-- A void is counted in the totals. -/
theorem lateResult_signKept (e : Tag) (approved : Bool) (s : State) :
    SignKept s (lateResult e approved s) := by
  have voided : SignKept s (countVoid (send e.reader (.void e.tag) s)) :=
    (send_only _ _ s).signKept.trans (setAccounts_signKept rfl)
  exact (SignKept.ite voided (.refl s)).trans (setTags_frame _ _).signKept

theorem takeResult_signKept (src tag outcome amount tip : Nat) (s : State) :
    SignKept s (takeResult src tag outcome amount tip s) := by
  have raised := raiseCause_signKept .source src s
  unfold takeResult
  refine .ite (.refl s) ?_
  split
  · unfold chargeAnswer
    split
    · exact .ite (.ite (approve_signKept _ _ _ _ _ s) (decline_signKept _ _ s)) raised
    · exact .refl s
  · split
    · exact .ite (lateResult_signKept _ _ s) raised
    · exact .refl s

/-! ### Console commands -/

/-- A trip that closes with a record written just before. -/
theorem closeWritten_signKept {r : SeatRecord} (e : TripEnd) (state : r.state = (s.seat q).state)
    (exclusive : r.exclusive = (s.seat q).exclusive) :
    SignKept s (compareDisplays (closeSeat q e (s.setSeat q r))) :=
  ((setSeat_signKept state exclusive).trans (closeSeat_signKept q e _)).trans
    (compareDisplays_only _).signKept

theorem splitExtra_signKept (k : ExtraKind) (n : Nat) (s : State) :
    SignKept s (compareIfChanged s (s.setSeats (splitSeats s.seats k n))) :=
  (setSeats_signKept fun q => by rw [splitSeats_get]; exact ⟨rfl, rfl⟩).trans
    (compareIfChanged_only _ _).signKept

theorem addExtra_signKept (q : Seat) (k : ExtraKind) (n : Nat) (s : State) :
    SignKept s (addExtra q k n s) := by
  have added : SignKept s (s.setSeat q (applyExtra k n (s.seat q))) := setSeat_signKept rfl rfl
  exact (SignKept.ite (added.trans (chargePass_signKept _)) added).trans (compareIfChanged_only s _).signKept

theorem creditCash_signKept (q : Seat) (p : Payment) (s : State) : SignKept s (creditCash q p s) :=
  ((paid_signKept q p s).trans (.ite (chargePass_signKept _) (.refl _))).trans
    (compareDisplays_only _).signKept

theorem performed_signKept {src : Nat} {c : Command} (h : Performed src c s t) : SignKept s t := by
  cases c with
  | shiftOpen driver => obtain ⟨-, rfl⟩ := h; exact changeShift_signKept _ s
  | shiftClose =>
    obtain ⟨-, ⟨-, rfl⟩ | ⟨-, rfl⟩⟩ := h
    · exact closeShift_signKept s
    · exact startClosing_signKept s
  | hire seat pool =>
    obtain ⟨q, p, -, rfl⟩ := h
    exact (changeSeat_signKept q _ s).trans (compareDisplays_only _).signKept
  | stop seat =>
    rcases h with rfl | ⟨q, -, e⟩
    · exact .refl _
    · rw [e]
      exact ((changeSeat_signKept q _ s).trans (closeIfPaid_signKept q _)).trans (passCompare_signKept _)
  | resume seat =>
    obtain ⟨q, -, rfl⟩ := h
    exact (changeSeat_signKept q _ s).trans (compareDisplays_only _).signKept
  | cancel seat => obtain ⟨q, -, -, rfl⟩ := h; exact closeWritten_signKept _ rfl rfl
  | addExtra seat kind amount => obtain ⟨q, k, n, -, rfl⟩ := h; exact addExtra_signKept q k n s
  | splitExtra kind amount => obtain ⟨k, n, rfl⟩ := h; exact splitExtra_signKept k n s
  | cash seat tendered tip => obtain ⟨q, _, _, -, rfl⟩ := h; exact creditCash_signKept q _ s
  | waive seat => obtain ⟨q, -, rfl⟩ := h; exact closeWritten_signKept _ rfl rfl
  | accountMap scope account limit tips =>
    obtain ⟨i, _, _, _, _, -, -, rfl⟩ := h
    exact (setPayers_frame s _).signKept.trans (passAndCompare_signKept _)
  | unmap index =>
    obtain ⟨i, _, -, -, rfl⟩ := h
    exact (setPayers_frame s _).signKept.trans (passAndCompare_signKept _)
  | flush =>
    rcases h with rfl | rfl
    · exact (setPayers_frame s _).signKept
    · exact (setPayers_frame s _).signKept.trans (passAndCompare_signKept _)
  | abortCharge seat => obtain ⟨q, -, rfl⟩ := h; exact endWithoutResult_signKept q s
  | signMode mode pool => obtain ⟨m, p, rfl⟩ := h; exact computed_signKept rfl id
  | holdTrigger => obtain rfl := h; exact raiseCause_signKept _ _ s
  | clearCause cause => obtain ⟨c, -, rfl⟩ := h; exact clearStatus_signKept c s
  | holdRelease => obtain ⟨-, -, rfl⟩ := h; exact releaseHold_signKept s
  | reset | readTotals | readTrip | probeSeat | probeIndex | readHold | setClock | setBand | intercomMute
    | intercomTarget => exact (performed_frame h).signKept (by simp only [commandParts]; decide)

theorem perform_signKept (src : Nat) (c : Command) (s : State) : SignKept s (perform src c s).1 := by
  rcases perform_cases src c s with e | h
  · rw [e]
    exact .refl s
  · exact performed_signKept h

theorem takeEntry_signKept (v : Option Bool) (e : FifoEntry) (s : State) : SignKept s (takeEntry v e s) := by
  refine SignKept.trans ?_ (answerCommand_frame e _).signKept
  unfold performDecoded
  split
  · exact (withService_frame_any v _ s).signKept.trans (perform_signKept _ _ _)
  · exact .refl s

theorem takeCommands_signKept (v : Option Bool) (s : State) : SignKept s (takeCommands v s) :=
  drain_induct (P := SignKept s)
    (fun e _ u h _ _ => (h.trans (setLine_frame u _).signKept).trans (takeEntry_signKept v e _)) _ s (.refl s)

theorem arrive_signKept (e : FifoEntry) (s : State) : SignKept s (arrive e s) :=
  .ite (setLine_frame s _).signKept
    ((enqueue_only _ s).signKept.trans (.ite (setDraws_frame _ _).signKept (.refl _)))

theorem consoleRow_signKept (v : Option Bool) (seq : Byte) (c : Command) (s : State) :
    SignKept s (consoleRow v seq c s) := by
  unfold consoleRow
  split
  · split
    · exact (arrive_signKept _ s).trans (takeCommands_signKept v _)
    · exact .refl s
  · exact .refl s

/-! ### An interval and a lamp period (R26, R59, R141, R148 to R150) -/

/-- A meter turns neither a seat's state nor its exclusive flag. -/
theorem deliverFare_signKept (dp : Nat) (s : State) : SignKept s (deliverFare dp s) := by
  refine SignKept.trans (setSeats_signKept fun q => ?_) (compareDisplays_only _).signKept
  rw [PerSeat.get_map]
  have metered := accrueSeat_metered s.tariff s.band.selected dp (riders s.seats) s.hold.held (s.seats.get q)
  exact ⟨metered.state, metered.exclusive⟩

theorem takeCount_signKept (s : State) : SignKept s (takeCount s) := by
  have reset : SignKept s (s.setMotion { s.motion with counter := 0 }) := (setMotion_frame s _).signKept
  exact .ite (reset.trans (raiseCause_signKept _ _ _)) reset

theorem tellCount_signKept (dp : Nat) (s : State) : SignKept s (tellCount dp s) := by
  have told : SignKept s (updateSpeed dp (deliverDistance dp s)) :=
    (setAccounts_signKept (s := s) (a := (deliverDistance dp s).accounts) rfl).trans (setMotion_frame _ _).signKept
  exact .ite ((told.trans (setMotion_frame _ _).signKept).trans (reportCondition_signKept _ _ _)) told

theorem expireInterval_signKept (s : State) : SignKept s (expireInterval s) := by
  rw [expireInterval_eq]
  exact .ite (((takeCount_signKept s).trans (deliverFare_signKept _ _)).trans (tellCount_signKept _ _))
    (.refl s)

theorem sampleLamp_buffer (lit : Bool) (l : Lamp) : (sampleLamp lit l).buffer = l.buffer := by
  unfold sampleLamp
  split <;> rfl

theorem sampleLamps_buffer (sense : BitVec 8) (v : PerChannel Lamp) (c : Channel) :
    ((sampleLamps sense v).get c).buffer = (v.get c).buffer := by
  rw [sampleLamps, PerChannel.get_mapIdx]
  split
  · exact sampleLamp_buffer _ _
  · rfl

theorem reportLamps_signKept (before after : PerChannel Lamp) (s : State) :
    SignKept s (reportLamps before after s) := by
  have raised : SignKept s (reportedChannels.foldl (raiseLamp before after) s) :=
    foldl_signKept (fun u _ => .ite ((raiseCause_signKept _ _ u).trans (reportCondition_signKept _ _ _))
      (.refl u)) _ s
  exact .ite (raised.trans (reportCondition_signKept _ _ _)) raised

/-- What becomes current stays buffered. -/
theorem latchLamps_signKept (s : State) : SignKept s (latchLamps s) :=
  setSign_signKept rfl rfl fun c => by rw [PerChannel.get_mapIdx]; rfl

theorem lampBoundary_signKept (sense : BitVec 8) (s : State) : SignKept s (lampBoundary sense s) := by
  have pin : SignKept s (s.setPins { s.pins with sense := sense }) := (setPins_frame s _).signKept
  refine .ite (((pin.trans ?_).trans (reportLamps_signKept _ _ _)).trans (latchLamps_signKept _)) pin
  exact setSign_signKept rfl rfl fun c => sampleLamps_buffer sense _ c

/-! ### Frames and presence (R191 to R195) -/

theorem hear_signKept (e : Station) (s : State) : SignKept s (hear e s) := by
  have heard := (setTimer_effect e.addr (some presenceTime) s).frame.signKept
  refine .ite heard (heard.trans ?_)
  unfold presentNotice
  split
  · exact passAndCompare_signKept _
  · split
    · exact (setDisplay_only _ _).signKept.trans (compareDisplay_only _ _).signKept
    · exact .refl _
  all_goals exact .refl _

theorem silentNotice_signKept (e : Station) (s : State) : SignKept s (silentNotice e s) := by
  unfold silentNotice
  split
  · exact readerSilent_signKept _ s
  · split
    · exact (takeRelease_frame _ s).signKept
    · exact .refl s
  · exact (takeRelease_frame _ s).signKept
  · exact (setMotion_frame s _).signKept
  all_goals exact .refl s

theorem presenceExpires_signKept (addr : Nat) (s : State) : SignKept s (presenceExpires addr s) := by
  unfold presenceExpires
  split
  · exact .ite ((setTimer_effect _ _ s).frame.signKept.trans (silentNotice_signKept _ _)) (.refl s)
  · exact .refl s

theorem presentCard_signKept (reader : Nat) (sc : Scope) (ref limit : Nat) (s : State) :
    SignKept s (presentCard reader sc ref limit s) := by
  have reply : ∀ code index, SignKept s (cardReply reader code index s) :=
    fun _ _ => (send_only _ _ s).signKept
  unfold presentCard
  refine .ite (reply _ _) (.ite (reply _ _) ?_)
  split
  · exact reply _ _
  · refine .ite (reply _ _) ?_
    split
    · exact reply _ _
    · exact ((setPayers_frame s _).signKept.trans (send_only _ _ _).signKept).trans
        (passAndCompare_signKept _)

/-- The speed part of a NAV_REPORT counts, clears or raises PULSE_LOSS (R33, R34). -/
theorem navSpeed_signKept (valid : Bool) (speed : Nat) (s : State) : SignKept s (navSpeed valid speed s) := by
  have count : ∀ n, SignKept s (s.setMotion { s.motion with plausibility := n }) :=
    fun n => (setMotion_frame s _).signKept
  have raised : ∀ u, SignKept u (reportCondition .pulseLoss true (raiseCause .pulseLoss u.tariff.own u)) :=
    fun u => (raiseCause_signKept _ _ u).trans (reportCondition_signKept _ _ _)
  have doubted : SignKept s (doubtPulses s) := .ite (.ite ((count _).trans (raised _)) (count _)) (.refl s)
  exact .ite (count 0) (.ite ((count 0).trans (reportCondition_signKept _ _ _)) (.ite (count 0) doubted))

theorem deliver_signKept (e : Station) (kind : Nat) (payload : List Byte) (s : State) :
    SignKept s (deliver e kind payload s) := by
  unfold deliver
  split
  · exact arrive_signKept _ s
  · exact (deliverTalk_effect e _ s).frame.signKept
  · unfold deliverCard
    split
    · exact presentCard_signKept _ _ _ _ s
    · exact .refl s
  · exact takeResult_signKept _ _ _ _ _ s
  · exact (navSpeed_signKept _ _ s).trans (setSign_signKept rfl rfl fun _ => rfl)
  · exact (raiseCause_signKept _ _ s).trans (setMonitor_frame _ _).signKept
  · exact .refl s

theorem receiveFrame_signKept (v : Option Bool) (f : RxFrame) (s : State) :
    SignKept s (receiveFrame v f s) := by
  have taken : SignKept s (takeFrame f s) := by
    unfold takeFrame
    split
    · exact (hear_signKept _ s).trans (deliver_signKept _ _ _ _)
    · exact raiseCause_signKept _ _ s
  have overheard : SignKept s (overhear f s) := by
    unfold overhear
    split
    · exact hear_signKept _ s
    · exact .refl s
  exact .ite ((SignKept.ite taken overheard).trans (takeCommands_signKept v _)) (.refl s)

theorem receiveBytes_signKept (bytes : List Byte) (s : State) : SignKept s (receiveBytes bytes s) := by
  unfold receiveBytes
  split
  · exact receiveFrame_signKept none _ s
  · exact .refl s

/-! ### Every event -/

theorem transmissionFails_signKept (s : State) : SignKept s (transmissionFails s) := by
  unfold transmissionFails
  split
  · exact .refl s
  · exact ((setLine_frame s _).signKept.trans (discardNotice_only _ _).signKept).trans
      (takeCommands_signKept none _)

theorem transmissionEnds_signKept (s : State) : Follows SignKept s (transmissionEnds s) := by
  unfold transmissionEnds
  split
  · exact .runs (.refl s)
  · have sent : SignKept s (s.setLine { s.line with transmitting := none }) := (setLine_frame s _).signKept
    dsimp only
    split
    · unfold answerSent
      split
      · exact .starts _ (setLine_frame s _).mono rfl
      · exact .runs ((sent.trans (setLine_frame _ _).signKept).trans (takeCommands_signKept none _))
    · exact .runs sent

theorem pulseLevel_signKept (l : Level) (s : State) : SignKept s (pulseLevel l s) := by
  have pin : SignKept s (s.setPins { s.pins with pulse := l }) := (setPins_frame s _).signKept
  unfold pulseLevel
  dsimp only
  split
  · exact pin
  · exact pin.trans (setMotion_frame _ _).signKept

theorem event_signKept {c : Instr} (event : Laws.commandOf c = none) (h : exec c s = .next t) :
    Follows SignKept s t := by
  have taken : ∀ {u : State}, SignKept s u → Follows SignKept s (takeCommands none u) :=
    fun x => .runs (x.trans (takeCommands_signKept none _))
  have supply := supply_follows (R := SignKept) (c := c) (s := s) (t := t) (fun _ f => f.signKept)
  cases c <;> cases h
  case pgoodRise | pgoodFall | rstAssert | rstRelease | vbakLoss | imageReadTimeout | loadCompletion =>
    exact supply (by simp) rfl
  case resetTimerExpiry =>
    unfold resetExpires
    split
    · exact .starts s (.refl _ s) rfl
    · exact .runs (.refl s)
  case clockTick => exact .runs ((setClock_frame s _).signKept.trans (passMinute_frame _).signKept)
  case minuteBoundary => exact .runs (passMinute_frame s).signKept
  case pulseChange l => exact .runs (pulseLevel_signKept l s)
  case settledEdge => exact .runs (.ite (setMotion_frame s _).signKept (.refl s))
  case intervalExpiry => exact taken (expireInterval_signKept s)
  case tamperChange => exact .runs ((setPins_frame s _).signKept.trans (setTamperFilter_frame _ _).signKept)
  case tamperSettled =>
    exact taken (.ite ((setTamperFilter_frame s _).signKept.trans (tamperEffect_signKept _ _)) (.refl s))
  case lineIdle others => exact .runs (contend_frame others s).signKept
  case transmissionComplete => exact transmissionEnds_signKept s
  case transmissionAbandoned => exact .runs (transmissionFails_signKept s)
  case frameDiscarded bytes => exact .runs (receiveBytes_signKept bytes s)
  case presenceTimeout a => exact taken (presenceExpires_signKept a.toNat s)
  case statusTimerExpiry =>
    exact .runs (.ite ((queueStatus_only s).signKept.trans (takeCommands_signKept none _)) (.refl s))
  case chargeTimerExpiry q => exact taken (endWithoutResult_signKept q s)
  case pressLapse k => exact taken (takeRelease_frame k s).signKept
  case guardExpiry => exact taken (guardExpires_frame s).signKept
  case talkLimitExpiry => exact taken (talkLimitExpires_frame s).signKept
  case lampPeriodBoundary sense => exact taken (lampBoundary_signKept sense s)
  case frameToOtherStation | command | talk | cardPresented | chargeResult | navReport | faultReport
      | heartbeat => exact .runs (receiveFrame_signKept _ _ s)
  all_goals cases event

/-- What every command of the table does to the pointer and the buffers, unless it stops, starts or loads the main
domain. -/
theorem exec_signKept {c : Instr} (h : exec c s = .next t) : Follows SignKept s t := by
  rcases row_or_event c with ⟨service, seq, x, rfl⟩ | event
  · rw [exec_rowOf] at h
    cases h
    exact .runs (consoleRow_signKept _ seq x s)
  · exact event_signKept event h

/-! ### Load completion, stops and starts (R1 to R5, R57, R166, R167) -/

/-- A warm start turns a record that it does not announce neither in its state nor in its exclusive flag. -/
theorem warmStartSeat_signKept (s : State) (q : Seat) : SignKept s (warmStartSeat s q) := by
  unfold warmStartSeat
  dsimp only
  split
  · exact (changeSeat_signKept q _ s).trans (closeIfPaid_signKept q _)
  · next rests =>
    cases state : (s.seat q).state with
    | vacant => rw [warmSeat_of_vacant _ state]; exact setSeat_signKept rfl rfl
    | due => rw [warmSeat_of_due _ state]; exact setSeat_signKept rfl rfl
    | hired | paying => simp [openFare, state] at rests

theorem enterIfCalled_signKept (s : State) : SignKept s (enterIfCalled s) := by
  unfold enterIfCalled
  refine .ite (.refl s) ?_
  split
  · next c found =>
    have holds := List.find?_some found
    simp only [holdsNow, Bool.and_eq_true] at holds
    exact enterHeld_signKept holds.1.1 _
  · exact .refl s

theorem monitorStartWork_signKept (s : State) : SignKept s (monitorStartWork s) := by
  have raised : ∀ c u, SignKept u (raiseIfPresent c u) := fun c u => .ite (raiseCause_signKept _ _ u) (.refl u)
  have conditions : SignKept s (startConditions s) := (setMonitor_frame s _).signKept
  exact ((((conditions.trans (.ite (clearStatus_signKept _ _) (.refl _))).trans (raised .config _)).trans
    (raised .clock _)).trans (raised .tamper _)).trans (enterIfCalled_signKept _)

theorem retainedWork_signKept (s : State) : SignKept s (retainedWork s) := by
  have seats : ∀ u, SignKept u (warmStartSeats u) := foldl_signKept warmStartSeat_signKept allSeats
  have trips : ∀ u, SignKept u (resumeTrips u) := fun u =>
    ((seats u).trans (.ite (raiseCause_signKept _ _ _) (.refl _))).trans (retireSlots_frame _).signKept
  have monitor := monitorStartWork_signKept
  have drawn := (setDraws_frame s (s.draws + 1)).signKept
  unfold retainedWork warmWork
  split
  · exact monitor s
  · exact .ite (.ite ((drawn.trans (monitor _)).trans (trips _)) ((drawn.trans (trips _)).trans (monitor _)))
      ((seats s).trans (monitor _))

/-- The image is put in force without the hold monitor's retained records. -/
theorem startWork_pointer (l : Loaded) (law : PointerLaw s) : PointerLaw (startWork l s) := by
  have inForce : PointerLaw (putInForce l s) := law.of_hold (putInForce_frame l s .hold (by decide))
  exact ((intercomStartWork_frame _).signKept.trans (retainedWork_signKept _)).pointer inForce
    |>.of_hold (queueStatus_only _).hold

/-- The last work of a load completion but its STATUS is a computation of the sign state. -/
theorem startWork_current (l : Loaded) (s : State) : SignCurrent (startWork l s) :=
  (queueStatus_only _).signKept.sign (computeSign_current _)

/-- A start keeps the hold monitor's retained records, or sets their initial values. -/
theorem beginStart_pointer (law : PointerLaw s) : PointerLaw (beginStart s) := by
  cases marker : s.markerValid with
  | true =>
    rw [beginStart_of_valid marker]
    exact law
  | false =>
    rw [beginStart_of_failed marker]
    exact fun c first => nomatch first

theorem stepKeepsFirstCause : Claims.StepKeepsFirstCause := by
  refine keptByStep_of (fun _ _ law => law) fun c s t law e => ?_
  cases exec_signKept e with
  | runs kept => exact kept.pointer law
  | stops u pins e => subst e; exact law.of_hold ((stopMain_frame u .hold (by decide)).trans (pins .hold (by decide)))
  | starts u moved e => subst e; exact beginStart_pointer (law.of_hold (moved .hold (by decide)))
  | loads bytes _ e => subst e; exact startWork_pointer _ law
  | backup e => subst e; exact law

/-- The law of a start is empty until load completion, which computes the sign state. -/
theorem stepKeepsSignCurrent : Claims.StepKeepsSignCurrent := by
  refine keptByStep_of (fun _ _ law => law) fun c s t law e => ?_
  rw [signLaw_iff] at law ⊢
  cases exec_signKept e with
  | runs kept => exact fun loaded => kept.sign (law (kept.start ▸ loaded))
  | stops u _ e => subst e; exact fun loaded => nomatch loaded
  | starts u _ e => subst e; exact fun loaded => nomatch loaded
  | loads bytes _ e => subst e; exact fun _ => startWork_current _ s
  | backup e => subst e; exact law

/-- Settles O7: every change of the running part names a raised cause first or leaves the pointer, and computes the sign
state or leaves what it reads. -/
theorem stepKeepsPointerAndSign : Obligations.StepKeepsPointerAndSign :=
  ⟨stepKeepsFirstCause, stepKeepsSignCurrent⟩

end Sys2Proof.Machine

/-! PROOFS. The free-seat count, the sign table row by row, and SIGN_MODE (R142 to R144). -/

namespace Sys2Proof.Machine

-- One theorem at a time: the memory limit of the check counts the stack of every thread.
set_option Elab.async false

variable {s : State} {shift : ShiftState} {mode : SignMode} {pool : Bool} {v : PerSeat SeatRecord}

/-! ### The free-seat count (R143) -/

theorem PerSeat.count_eq_length_filter {α : Type} (p : α → Bool) (v : PerSeat α) :
    v.count p = (allSeats.filter (fun q => p (v.get q))).length := by
  have toNat : ∀ b : Bool, b.toNat = if b then 1 else 0 := by decide
  rw [← List.countP_eq_length_filter]
  simp only [PerSeat.count, toNat, allSeats, List.countP_cons, List.countP_nil, PerSeat.get, Nat.zero_add]
  omega

theorem exists_occupied_iff (v : PerSeat SeatRecord) :
    (!allVacant v) = true ↔ ∃ q, (v.get q).state ≠ .vacant := by
  rw [Bool.not_eq_true', ← Bool.not_eq_true, allVacant_iff, not_forall]

/-- Seats are advertised one by one. -/
theorem freeSeats_of_pool (shared : exclusiveOccupied v = false) :
    freeSeats true v = (allSeats.filter (fun q => (v.get q).state = .vacant)).length := by
  rw [freeSeats, shared]
  exact PerSeat.count_eq_length_filter _ v

/-- The cab is advertised as a whole. -/
theorem freeSeats_of_whole (whole : pool = false ∨ exclusiveOccupied v = true) :
    freeSeats pool v = if allVacant v then 4 else 0 := by
  rw [freeSeats, if_neg]
  rcases whole with off | exclusive
  · simp [off]
  · simp [exclusive]

theorem free_seats_are_counted : Claims.FreeSeatsAreCounted := by
  intro pool v
  dsimp only
  rw [← exclusiveOccupied_iff v]
  refine ⟨fun on shared => ?_, fun whole => ⟨fun vacant => ?_, fun occupied => ?_⟩⟩
  · rw [on]
    exact freeSeats_of_pool (by simpa using shared)
  · rw [freeSeats_of_whole whole, if_pos ((allVacant_iff v).2 vacant)]
  · rw [freeSeats_of_whole whole, if_neg (by simpa using (exists_occupied_iff v).2 occupied)]

/-! ### The rows of the sign table (R144) -/

/-- Every channel OFF. -/
def darkSign : PerChannel Pattern := channelsOf .off

theorem signPatterns_held : signPatterns true shift mode pool v = { darkSign with out := .steady } := rfl

theorem signPatterns_offDuty (off : shift = .closed ∨ mode = .offDuty) :
    signPatterns false shift mode pool v = { darkSign with offduty := .steady } := if_pos off

theorem signPatterns_break (open_ : shift ≠ .closed) :
    signPatterns false shift .brk pool v = { darkSign with offduty := .slow } :=
  if_neg (by simp [open_])

theorem signPatterns_closing :
    signPatterns false .closing .onDuty pool v = { darkSign with hired := steadyIf (!allVacant v) } := rfl

theorem signPatterns_onDuty :
    signPatterns false .opened .onDuty pool v =
      let f := freeSeats pool v
      let occupied := !allVacant v
      { darkSign with
        avail := steadyIf (1 ≤ f), hired := steadyIf occupied,
        bar1 := steadyIf (pool && occupied && 1 ≤ f), bar2 := steadyIf (pool && occupied && 2 ≤ f),
        bar3 := steadyIf (pool && occupied && 3 ≤ f), bar4 := steadyIf (pool && occupied && 4 ≤ f) } := rfl

/-- A channel is STEADY exactly under its condition, and else OFF. -/
theorem steadyIf_of_iff {b : Bool} {lit : Prop} (h : b = true ↔ lit) :
    (lit → steadyIf b = .steady) ∧ (¬lit → steadyIf b = .off) :=
  ⟨fun on => if_pos (h.2 on), fun off => if_neg (off ∘ h.1)⟩

theorem bar_lit_iff (n : Nat) :
    (pool && !allVacant v && decide (n ≤ freeSeats pool v)) = true ↔
      pool = true ∧ (∃ q, (v.get q).state ≠ .vacant) ∧ n ≤ freeSeats pool v := by
  rw [Bool.and_eq_true, Bool.and_eq_true, exists_occupied_iff, decide_eq_true_iff, and_assoc]

theorem sign_state_follows_table : Claims.SignStateFollowsTable := by
  intro held pool shift mode v
  dsimp only
  refine ⟨fun h => ?_, fun h => ⟨fun off => ?_, fun open_ brk => ?_, fun closing duty => ?_,
    fun opened duty => ?_⟩⟩ <;> subst h
  · rw [signPatterns_held]
    exact ⟨rfl, fun c dark => by cases c <;> simp at dark <;> rfl⟩
  · rw [signPatterns_offDuty off]
    exact ⟨rfl, fun c dark => by cases c <;> simp at dark <;> rfl⟩
  · rw [brk, signPatterns_break open_]
    exact ⟨rfl, fun c dark => by cases c <;> simp at dark <;> rfl⟩
  · rw [closing, duty, signPatterns_closing]
    exact ⟨steadyIf_of_iff (exists_occupied_iff v), fun c dark => by cases c <;> simp at dark <;> rfl⟩
  · rw [opened, duty, signPatterns_onDuty]
    exact ⟨steadyIf_of_iff decide_eq_true_iff, steadyIf_of_iff (exists_occupied_iff v),
      steadyIf_of_iff (bar_lit_iff 1), steadyIf_of_iff (bar_lit_iff 2), steadyIf_of_iff (bar_lit_iff 3),
      steadyIf_of_iff (bar_lit_iff 4), fun c dark => by cases c <;> simp at dark <;> rfl⟩

/-! ### SIGN_MODE (R142) -/

theorem modeArg_of_gt {b : Byte} (h : 2 < b.toNat) : modeArg b = none := by
  unfold modeArg
  split
  · next zero => omega
  · next one => omega
  · next two => omega
  · rfl

theorem modeArg_of_value {b : Byte} (h : b.toNat = modeValue mode) : modeArg b = some mode := by
  unfold modeArg
  rw [h]
  cases mode <;> rfl

theorem flagArg_of_value {b : Byte} {p : Bool} (h : b.toNat = p.toNat) : flagArg b = some p := by
  unfold flagArg
  rw [h]
  cases p <;> rfl

theorem signModeCommand_range {mode pool : Byte} (h : 2 < mode.toNat ∨ 1 < pool.toNat) :
    signModeCommand mode pool s = refuse s .range := by
  unfold signModeCommand
  split
  · next m p mode_ flag =>
    rcases h with beyond | beyond
    · exact nomatch (modeArg_of_gt beyond).symm.trans mode_
    · exact nomatch (flagArg_of_gt beyond).symm.trans flag
  · rfl

/-- The sign with a mode and a flag, its buffers computed (R142, R144). -/
def signSet (m : SignMode) (p : Bool) (s : State) : State :=
  computeSign (s.setSign { s.sign with mode := m, pool := p })

theorem signModeCommand_done {mode pool : Byte} {m : SignMode} {p : Bool} (mode_ : mode.toNat = modeValue m)
    (flag : pool.toNat = p.toNat) :
    signModeCommand mode pool s = done (signSet m p s) [byte (freeSeats p s.seats)] := by
  unfold signModeCommand
  rw [modeArg_of_value mode_, flagArg_of_value flag]
  rfl

theorem signSet_lamp (m : SignMode) (p : Bool) (s : State) (c : Channel) :
    (signSet m p s).sign.lamps.get c = { s.sign.lamps.get c with
      buffer := (signPatterns s.hold.held s.accounts.shift.state m p s.seats).get c } :=
  PerChannel.get_mapIdx _ s.sign.lamps c

theorem sign_mode_is_set : Claims.SignModeIsSet := by
  intro s a seq mode pool ready
  have row : ∀ {t code data}, signModeCommand mode pool s = (t, ⟨code, data⟩) →
      exec (.signMode seq mode pool) s = .next (answered a seq (.signMode mode pool) code data t) :=
    fun e => exec_row_of_perform (service := false) (c := .signMode mode pool) ready rfl e
  exact ⟨fun beyond => row (signModeCommand_range beyond), fun m p mode_ flag =>
    ⟨signSet m p s, row (signModeCommand_done mode_ flag), rfl, rfl, rfl, rfl, signSet_lamp m p s⟩⟩

/-- Settles O49: the count is of VACANT seats or of the whole cab, the table's rows are the branches of the sign state, and
SIGN_MODE computes it anew. -/
theorem freeSeatsAndSignMode : Obligations.FreeSeatsAndSignMode :=
  ⟨free_seats_are_counted, sign_state_follows_table, sign_mode_is_set⟩

end Sys2Proof.Machine

/-! PROOFS. SHIFT_OPEN and SHIFT_CLOSE: the checks in their order, the record, and the notices of the change (R144, R169, R173,
R174, R176). -/

namespace Sys2Proof.Machine

-- One theorem at a time: the memory limit of the check counts the stack of every thread.
set_option Elab.async false

variable {s t u : State}

/-! ### The notices of a change of the shift state (R169, R176) -/

/-- `t` follows from `s` by a change of the shift state with its notices: the sign state is computed, and a STATUS of
what then stands is queued (R169). -/
def ShiftNoticed (s t : State) : Prop :=
  (∀ c : Channel, (t.sign.lamps.get c).buffer
    = (signPatterns s.hold.held t.accounts.shift.state s.sign.mode s.sign.pool s.seats).get c) ∧
  (s.line.queue = [] → statusFrame (statusReport t) ∈ t.line.queue)

theorem changeShift_noticed (sh : Shift) (s : State) : ShiftNoticed s (changeShift sh s) := by
  constructor
  · intro c
    rw [changeShift, (queueStatus_only _).sign, (queueStatus_only _).accounts]
    exact computeSign_buffer _ c
  · intro empty
    rw [changeShift, (queueStatus_only _).statusReport]
    refine mem_enqueue_self ?_
    rw [show (computeSign (setShift s sh)).line.queue = [] from empty]
    decide

/-- Frames queued after the notices leave them, while the STATUS stays queued. -/
theorem ShiftNoticed.of_queue (h : ShiftNoticed s t) (queued : QueueOnly t u)
    (status : s.line.queue = [] → ∀ f ∈ t.line.queue, f ∈ u.line.queue) : ShiftNoticed s u := by
  obtain ⟨sign, told⟩ := h
  refine ⟨fun c => ?_, fun empty => ?_⟩
  · rw [queued.sign, queued.accounts]
    exact sign c
  · rw [queued.statusReport]
    exact status empty _ (told empty)

/-- The report's pages join the STATUS in the queue. -/
theorem closeShift_noticed (s : State) : ShiftNoticed s (closeShift s) := by
  refine (changeShift_noticed { s.accounts.shift with
    state := .closed, closeClock := some s.clock.time } s).of_queue (queueReport_only _) fun empty f mem => ?_
  obtain ⟨st, queue⟩ := changeShift_queue { s.accounts.shift with
    state := .closed, closeClock := some s.clock.time } empty
  rw [closeShift, queueReport_queue queue rfl]
  rw [queue] at mem
  exact List.mem_append_right _ mem

/-- The REPORT pages that the close of a shift queues, to the CONSOLE (R176). -/
theorem closeShift_pages {a : Nat} (listed : consoleAddr s.line.roster = some a) (empty : s.line.queue = []) :
    (closeShift s).line.queue.filter isReport = (List.range 13).map fun n =>
      { dest := a, answer := false,
        body := .report s.accounts.shift.number n (totalsPage (closeShift s).accounts n) } := by
  rw [(reported_of_closeShift empty).pages, reportFrames_console listed]
  refine List.map_congr_left fun n _ => ?_
  rw [reportFrame, closeShift_accounts]

/-! ### The commands -/

/-- SHIFT_CLOSE ends the shift at once with every seat VACANT, and else turns it CLOSING (R174). -/
theorem shiftCloseCommand_opened (opened : s.accounts.shift.state = .opened) :
    shiftCloseCommand s =
      if allVacant s.seats then done (closeShift s) [0] else done (startClosing s) [2] := by
  rw [shiftCloseCommand, if_neg (not_not_intro opened)]
  dsimp only
  split
  · rw [closeShift_accounts]
    rfl
  · rw [startClosing_accounts]
    rfl

/-- Settles O36: each refusal is a branch of its command, an opening is one change of the shift, and a close is one with
the report behind it. -/
theorem shiftOpensAndCloses : Obligations.ShiftOpensAndCloses := by
  intro s a seq driver ready
  have opens : ∀ {t code data}, shiftOpenCommand driver s = (t, ⟨code, data⟩) →
      exec (.shiftOpen seq driver) s = .next (answered a seq (.shiftOpen driver) code data t) :=
    fun e => exec_row_of_perform (service := false) (c := .shiftOpen driver) ready rfl e
  have closes : ∀ {t code data}, shiftCloseCommand s = (t, ⟨code, data⟩) →
      exec (.shiftClose seq) s = .next (answered a seq .shiftClose code data t) :=
    fun e => exec_row_of_perform (service := false) (c := .shiftClose) ready rfl e
  refine ⟨fun beyond => opens ?_, fun within => ⟨fun other => opens ?_, fun closed =>
      ⟨fun lost => opens ?_, fun valid => ⟨_, opens ?_, changeShift_noticed _ s, changeShift_accounts _ s⟩⟩⟩,
    fun other => closes ?_, fun opened =>
      ⟨fun vacant => ⟨closeShift s, closes ?_, closeShift_noticed s, closeShift_pages ready.listed,
        closeShift_accounts s⟩,
      fun occupied => ⟨startClosing s, closes ?_, changeShift_noticed _ s, startClosing_accounts s⟩⟩⟩
  · rw [shiftOpenCommand, if_pos beyond]
    rfl
  · rw [shiftOpenCommand, if_neg (by omega), if_pos other]
    rfl
  · rw [shiftOpenCommand, if_neg (by omega), if_neg (not_not_intro closed), if_pos (by rw [lost]; rfl)]
    rfl
  · rw [shiftOpenCommand, if_neg (by omega), if_neg (not_not_intro closed), if_neg (by rw [valid]; decide)]
    rfl
  · rw [shiftCloseCommand, if_pos other]
    rfl
  · rw [shiftCloseCommand_opened opened, if_pos ((allVacant_iff _).2 vacant)]
    rfl
  · rw [shiftCloseCommand_opened opened, if_neg (by simpa using (exists_occupied_iff _).2 occupied)]
    rfl

end Sys2Proof.Machine

/-! PROOFS. A lamp period boundary: the samples, the LAMP cause, and the patterns that become current (R139 to R141, R147 to
R150). -/

namespace Sys2Proof.Machine

-- One theorem at a time: the memory limit of the check counts the stack of every thread.
set_option Elab.async false

variable {s : State} {x y z : Sign} {before after : PerChannel Lamp}

/-! ### Samples (R148, R149) -/

/-- A third dark sample in a row sets the fault. -/
theorem sampleLamp_dark (l : Lamp) :
    sampleLamp false l = { l with
      dark := min 3 (l.dark + 1), good := 0, fault := l.fault || decide (2 ≤ l.dark) } := by
  have third : min 3 (l.dark + 1) = 3 ↔ 2 ≤ l.dark := by omega
  simp only [sampleLamp, heldAdd, faultSamples, third, Bool.false_eq_true, if_false]
  by_cases late : 2 ≤ l.dark <;> simp [late]

/-- A third good sample in a row clears the fault. -/
theorem sampleLamp_good (l : Lamp) :
    sampleLamp true l = { l with
      dark := 0, good := min 3 (l.good + 1), fault := l.fault && decide (l.good < 2) } := by
  have third : min 3 (l.good + 1) = 3 ↔ ¬l.good < 2 := by omega
  simp only [sampleLamp, heldAdd, faultSamples, third, if_true]
  by_cases early : l.good < 2 <;> simp [early]

theorem sampleLamps_get (sense : BitVec 8) (v : PerChannel Lamp) (c : Channel) :
    (sampleLamps sense v).get c =
      if (v.get c).on then sampleLamp (sense.getLsbD c.number) (v.get c) else v.get c :=
  PerChannel.get_mapIdx _ v c

/-! ### What a raise leaves of the sign (R144, R155) -/

/-- `y` is `x` but for the buffered patterns. -/
structure Rebuffered (x y : Sign) : Prop where
  blink : y.blink = x.blink
  level : y.level = x.level
  lamp : ∀ c, y.lamps.get c = { x.lamps.get c with buffer := (y.lamps.get c).buffer }

theorem Rebuffered.of_eq (h : y = x) : Rebuffered x y := by
  subst h
  exact ⟨rfl, rfl, fun _ => rfl⟩

theorem Rebuffered.trans (h : Rebuffered x y) (k : Rebuffered y z) : Rebuffered x z := by
  refine ⟨k.blink.trans h.blink, k.level.trans h.level, fun c => ?_⟩
  rw [k.lamp c, h.lamp c]

theorem Rebuffered.ite {c : Prop} [Decidable c] {t u : State} (h : Rebuffered x t.sign) (k : Rebuffered x u.sign) :
    Rebuffered x (if c then t else u).sign := by
  split <;> assumption

theorem computeSign_rebuffered (s : State) : Rebuffered s.sign (computeSign s).sign := by
  refine ⟨rfl, rfl, fun c => ?_⟩
  have lamp : (computeSign s).sign.lamps.get c = _ := PerChannel.get_mapIdx _ s.sign.lamps c
  rw [lamp]

theorem enterHeld_rebuffered (c : Cause) (src : Nat) (s : State) :
    Rebuffered s.sign (enterHeld c src s).sign := by
  obtain ⟨-, -, counted, -⟩ := countHold_frame (computeSign (queueStatus (send broadcast
    (.holdEvent false (some c) (some c) src) (s.setHold { s.hold with
      held := true, count := heldAdd max24 s.hold.count 1, pointer := some c,
      trigger := { cause := some c, source := src, time := s.clock.time, valid := s.clock.valid,
                   number := heldAdd max24 s.hold.count 1 } }))))
  refine Rebuffered.trans (.trans (.of_eq ?_) (computeSign_rebuffered _)) (.of_eq counted)
  rw [(queueStatus_only _).sign, (send_only _ _ _).sign]
  rfl

theorem raiseCause_rebuffered (c : Cause) (src : Nat) (s : State) :
    Rebuffered s.sign (raiseCause c src s).sign :=
  .ite (.of_eq rfl) (.ite (enterHeld_rebuffered c src (markRaised c src s)) (.ite (.of_eq rfl) (.of_eq rfl)))

theorem raiseLamp_rebuffered (before after : PerChannel Lamp) (s : State) (c : Channel) :
    Rebuffered s.sign (raiseLamp before after s c).sign := .ite (raiseCause_rebuffered _ _ s) (.of_eq rfl)

theorem reportLamps_rebuffered (before after : PerChannel Lamp) (s : State) :
    Rebuffered s.sign (reportLamps before after s).sign := by
  have raised : Rebuffered s.sign (reportedChannels.foldl (raiseLamp before after) s).sign :=
    ((raiseLamp_rebuffered _ _ s .avail).trans (raiseLamp_rebuffered _ _ _ .hired)).trans
      (raiseLamp_rebuffered _ _ _ .out)
  exact .ite raised raised

/-! ### The LAMP cause (R150) -/

/-- LAMP has been raised, with its condition present. -/
def LampTold (s : State) : Prop := s.hold.status.lamp = true ∧ s.monitor.condition.lamp = true

theorem raiseLamp_of_set {c : Channel} (h : faultSet before after c = true) (s : State) :
    LampTold (raiseLamp before after s c) := by
  rw [raiseLamp, if_pos h]
  refine ⟨?_, rfl⟩
  change (raiseCause .lamp s.tariff.own s).hold.status.lamp = true
  rw [raiseCause_status]
  rfl

theorem raiseLamp_of_unset {c : Channel} (h : faultSet before after c = false) (s : State) :
    raiseLamp before after s c = s := if_neg (by rw [h]; decide)

theorem LampTold.foldl (h : LampTold s) (l : List Channel) :
    LampTold (l.foldl (raiseLamp before after) s) := by
  induction l generalizing s with
  | nil => exact h
  | cons c l ih =>
    refine ih ?_
    cases set : faultSet before after c with
    | true => exact raiseLamp_of_set set s
    | false => rw [raiseLamp_of_unset set]; exact h

theorem foldl_raiseLamp_of_set {l : List Channel} (h : ∃ c ∈ l, faultSet before after c = true) (s : State) :
    LampTold (l.foldl (raiseLamp before after) s) := by
  induction l generalizing s with
  | nil =>
    obtain ⟨c, mem, -⟩ := h
    cases mem
  | cons d l ih =>
    obtain ⟨c, mem, set⟩ := h
    rcases List.mem_cons.1 mem with rfl | mem
    · exact (raiseLamp_of_set set s).foldl l
    · exact ih ⟨c, mem, set⟩ _

theorem foldl_raiseLamp_of_unset {l : List Channel} (h : ∀ c ∈ l, faultSet before after c = false) (s : State) :
    l.foldl (raiseLamp before after) s = s := by
  induction l with
  | nil => rfl
  | cons c l ih =>
    rw [List.foldl_cons, raiseLamp_of_unset (h c List.mem_cons_self)]
    exact ih fun d mem => h d (List.mem_cons_of_mem c mem)

/-- A fault that comes to a reported channel raises LAMP. -/
theorem reportLamps_of_set
    (h : ∃ c ∈ reportedChannels, (before.get c).fault = false ∧ (after.get c).fault = true) (s : State) :
    LampTold (reportLamps before after s) := by
  obtain ⟨c, mem, was, now⟩ := h
  have faulty : reportedChannels.any (fun c => (after.get c).fault) = true :=
    List.any_eq_true.2 ⟨c, mem, now⟩
  rw [reportLamps, faulty, Bool.not_true, Bool.and_false]
  exact foldl_raiseLamp_of_set ⟨c, mem, by simp [faultSet, was, now]⟩ s

/-- The last fault that goes from the reported channels makes the condition absent. -/
theorem reportLamps_of_cleared
    (h : ∃ c ∈ reportedChannels, (before.get c).fault = true ∧ (after.get c).fault = false)
    (good : ∀ c ∈ reportedChannels, (after.get c).fault = false) (s : State) :
    (reportLamps before after s).monitor.condition.lamp = false := by
  obtain ⟨c, mem, was, now⟩ := h
  have cleared : reportedChannels.any (faultCleared before after) = true :=
    List.any_eq_true.2 ⟨c, mem, by simp [faultCleared, was, now]⟩
  have none_ : reportedChannels.any (fun c => (after.get c).fault) = false :=
    List.any_eq_false.2 fun c mem => by simp [good c mem]
  rw [reportLamps, cleared, none_]
  rfl

/-- Nothing is reported while the reported channels' faults stand. -/
theorem reportLamps_of_same (same : ∀ c ∈ reportedChannels, (after.get c).fault = (before.get c).fault)
    (s : State) : reportLamps before after s = s := by
  have unset : ∀ c ∈ reportedChannels, faultSet before after c = false := fun c mem => by
    simp [faultSet, same c mem]
  have uncleared : reportedChannels.any (faultCleared before after) = false :=
    List.any_eq_false.2 fun c mem => by simp [faultCleared, same c mem]
  rw [reportLamps, foldl_raiseLamp_of_unset unset, uncleared]
  rfl

/-! ### The boundary (R140, R141, R147) -/

/-- The state with the samples of the period just ended, before the monitor is told of them. -/
def sampledState (sense : BitVec 8) (s : State) : State :=
  (s.setPins { s.pins with sense := sense }).setSign { s.sign with lamps := sampleLamps sense s.sign.lamps }

/-- The state after the monitor is told, before the patterns become current. -/
def reportedState (sense : BitVec 8) (s : State) : State :=
  reportLamps s.sign.lamps (sampleLamps sense s.sign.lamps) (sampledState sense s)

theorem lampBoundary_running (running : s.sign.timebase ≠ none) (sense : BitVec 8) :
    lampBoundary sense s = latchLamps (reportedState sense s) :=
  if_pos (Option.isSome_iff_ne_none.2 running)

theorem reportedState_pins (sense : BitVec 8) (s : State) :
    (reportedState sense s).pins = { s.pins with sense := sense } :=
  (reportLamps_effect _ _ _).frame .pins (by decide)

theorem reportedState_tariff (sense : BitVec 8) (s : State) : (reportedState sense s).tariff = s.tariff :=
  (reportLamps_effect _ _ _).frame .tariff (by decide)

theorem reportedState_sign (sense : BitVec 8) (s : State) :
    Rebuffered { s.sign with lamps := sampleLamps sense s.sign.lamps } (reportedState sense s).sign :=
  reportLamps_rebuffered _ _ (sampledState sense s)

theorem latched_blink (sense : BitVec 8) (s : State) :
    (latchLamps (reportedState sense s)).sign.blink = (s.sign.blink + 4) % 1000 :=
  congrArg nextBlink (reportedState_sign sense s).blink

/-- A channel after the boundary: its sampled record, latched with some buffer. -/
theorem latched_lamp (sense : BitVec 8) (s : State) (c : Channel) :
    ∃ p, (latchLamps (reportedState sense s)).sign.lamps.get c =
      latchLamp ((s.sign.blink + 4) % 1000) (levelDuty s.tariff s.sign.level)
        { (sampleLamps sense s.sign.lamps).get c with buffer := p } := by
  have sign := reportedState_sign sense s
  refine ⟨((reportedState sense s).sign.lamps.get c).buffer, (PerChannel.get_mapIdx _ _ c).trans ?_⟩
  rw [reportedState_tariff, sign.blink, sign.level, sign.lamp c]
  rfl

theorem latched_fault (sense : BitVec 8) (s : State) (c : Channel) :
    ((latchLamps (reportedState sense s)).sign.lamps.get c).fault =
      ((sampleLamps sense s.sign.lamps).get c).fault := by
  obtain ⟨p, lamp⟩ := latched_lamp sense s c
  rw [lamp]
  rfl

/-- Settles O50: the samples are assessed, LAMP is reported, which touches nothing of the sign but the buffers, and the
buffers become current. -/
theorem lampBoundarySamplesAndLatches : Obligations.LampBoundarySamplesAndLatches := by
  intro s sense empty running
  refine ⟨latchLamps (reportedState sense s), ?_, reportedState_pins sense s, latched_blink sense s,
    fun c => ?_, ?_, ?_, ?_⟩
  · refine congrArg Host.Outcome.next ?_
    rw [takeCommands_of_empty ((lampBoundary_effect sense s).fifo.trans empty), lampBoundary_running running]
  · obtain ⟨p, lamp⟩ := latched_lamp sense s c
    dsimp only
    rw [lamp, latched_blink]
    refine ⟨rfl, rfl, fun off => ?_, fun steady => ?_, fun slow => ?_, fun fast => ?_, ?_, fun dark => ?_,
      fun on dark => ?_, fun on good => ?_⟩
    · exact congrArg (onPeriod _) off
    · exact congrArg (onPeriod _) steady
    · exact congrArg (onPeriod _) slow
    · exact congrArg (onPeriod _) fast
    · cases s.sign.level <;> rfl
    · rw [sampleLamps_get, if_neg (by rw [dark]; decide)]
      exact ⟨rfl, rfl, rfl⟩
    · rw [sampleLamps_get, if_pos on, dark, sampleLamp_dark]
      exact ⟨rfl, rfl, rfl⟩
    · rw [sampleLamps_get, if_pos on, good, sampleLamp_good]
      exact ⟨rfl, rfl, rfl⟩
  · simp only [latched_fault]
    exact fun set => reportLamps_of_set set _
  · simp only [latched_fault]
    exact fun cleared good => reportLamps_of_cleared cleared good _
  · simp only [latched_fault]
    intro same
    have still : reportedState sense s = sampledState sense s := reportLamps_of_same same _
    rw [still]
    exact ⟨rfl, rfl⟩

end Sys2Proof.Machine

/-! PROOFS. The hold monitor: a raise in each of its forms, the entry to HELD and the release with their notices, the
hold's three commands that write, and the TAMPER input (R155 to R158, R160 to R162, R181, R201). -/

namespace Sys2Proof.Machine

-- One theorem at a time: the memory limit of the check counts the stack of every thread.
set_option Elab.async false

variable {s : State} {c : Cause} {b : TxBody}

/-! ### The notices of an entry and of a release (R156, R162) -/

/-- A change between RUNNING and HELD is told: its HOLD_EVENT, then the STATUS, then the sign state. -/
def announceHold (b : TxBody) (s : State) : State := computeSign (queueStatus (send broadcast b s))

/-- The STATUS reads nothing that a computation of the sign state changes. -/
theorem statusReport_computeSign (s : State) : statusReport (computeSign s) = statusReport s := rfl

/-- The notices change the transmit queue, its marks and the sign alone. -/
theorem announceHold_eq (b : TxBody) (s : State) :
    ∃ t, QueueOnly s t ∧ announceHold b s = computeSign t :=
  ⟨_, (send_only _ b s).trans (queueStatus_only _), rfl⟩

theorem announceHold_hold (b : TxBody) (s : State) : (announceHold b s).hold = s.hold := by
  obtain ⟨t, only, eq⟩ := announceHold_eq b s
  rw [eq]
  exact only.hold

theorem announceHold_accounts (b : TxBody) (s : State) : (announceHold b s).accounts = s.accounts := by
  obtain ⟨t, only, eq⟩ := announceHold_eq b s
  rw [eq]
  exact only.accounts

theorem announceHold_buffer (b : TxBody) (s : State) (x : Channel) :
    ((announceHold b s).sign.lamps.get x).buffer =
      (signPatterns s.hold.held s.accounts.shift.state s.sign.mode s.sign.pool s.seats).get x := by
  obtain ⟨t, only, eq⟩ := announceHold_eq b s
  rw [eq, computeSign_buffer, only.hold, only.accounts, only.sign, only.seats]

/-- The HOLD_EVENT finds room, and the STATUS does not take its place. -/
theorem announceHold_event (top : b.cls = 0) (room : s.line.queue.length < 16) :
    { dest := broadcast, answer := false, body := b } ∈ (announceHold b s).line.queue := by
  change _ ∈ (queueStatus (send broadcast b s)).line.queue
  rw [queueStatus_queue]
  exact mem_queued_of_top (mem_enqueue_self room) top

/-- Behind its HOLD_EVENT the STATUS finds room, and says what stands after the sign state is computed. -/
theorem announceHold_status (top : b.cls = 0) (room : s.line.queue.length < 15) :
    statusFrame (statusReport (announceHold b s)) ∈ (announceHold b s).line.queue := by
  have sent : (send broadcast b s).line.queue.length < queuePlaces := by
    rw [send, enqueue_room (key_of_top top) (by unfold queuePlaces; omega)]
    change (insertByClass _ s.line.queue).length < 16
    rw [insertByClass_length]
    omega
  rw [announceHold, statusReport_computeSign, (queueStatus_only _).statusReport]
  exact mem_enqueue_self sent

/-! ### The entry to HELD (R156, R181) -/

/-- The hold state that an entry sets. -/
def enteredHold (c : Cause) (src : Nat) (s : State) : Hold :=
  { s.hold with
    held := true, count := heldAdd max24 s.hold.count 1, pointer := some c,
    trigger := { cause := some c, source := src, time := s.clock.time, valid := s.clock.valid,
                 number := heldAdd max24 s.hold.count 1 } }

/-- An entry tells of the hold that it sets, and the shift counts it. -/
theorem enterHeld_eq (c : Cause) (src : Nat) (s : State) :
    enterHeld c src s = countHold (announceHold (.holdEvent false (some c) (some c) src)
      (s.setHold (enteredHold c src s))) := rfl

theorem countHold_line (s : State) : (countHold s).line = s.line := by
  obtain ⟨-, -, -, line⟩ := countHold_frame s
  exact line

theorem countHold_sign (s : State) : (countHold s).sign = s.sign := by
  obtain ⟨-, -, sign, -⟩ := countHold_frame s
  exact sign

theorem countHold_holds (s : State) :
    (countHold s).accounts.shift.totals.holds =
      if s.accounts.shift.state = .closed then s.accounts.shift.totals.holds
      else min max16 (s.accounts.shift.totals.holds + 1) := by
  unfold countHold
  dsimp only
  split <;> rfl

/-- The STATUS reads nothing of the shift's count of holds. -/
theorem statusReport_countHold (s : State) : statusReport (countHold s) = statusReport s := by
  unfold countHold
  dsimp only
  split <;> rfl

theorem enterHeld_event {src : Nat} (room : s.line.queue.length < 16) :
    entryFrame c src ∈ (enterHeld c src s).line.queue := by
  rw [enterHeld_eq, countHold_line]
  exact announceHold_event (s := s.setHold _) rfl room

theorem enterHeld_status {src : Nat} (room : s.line.queue.length < 15) :
    statusFrame (statusReport (enterHeld c src s)) ∈ (enterHeld c src s).line.queue := by
  rw [enterHeld_eq, statusReport_countHold, countHold_line]
  exact announceHold_status (s := s.setHold _) rfl room

theorem enterHeld_holds (c : Cause) (src : Nat) (s : State) :
    (enterHeld c src s).accounts.shift.totals.holds =
      if s.accounts.shift.state = .closed then s.accounts.shift.totals.holds
      else min max16 (s.accounts.shift.totals.holds + 1) := by
  rw [enterHeld_eq, countHold_holds, announceHold_accounts]
  rfl

theorem enterHeld_buffer (c : Cause) (src : Nat) (s : State) (x : Channel) :
    ((enterHeld c src s).sign.lamps.get x).buffer = if x = .out then .steady else .off := by
  rw [enterHeld_eq, countHold_sign, announceHold_buffer, show (s.setHold (enteredHold c src s)).hold.held = true from rfl,
    signPatterns_held]
  cases x <;> rfl

/-! ### A raise (R155) -/

theorem raiseCause_masked (masked : s.monitor.masked.get c = true) (src : Nat) :
    raiseCause c src s = markRaised c src s := if_pos masked

/-- An unmasked raise that does not enter HELD sets a pointer that names no cause. -/
theorem raiseCause_unmasked (unmasked : s.monitor.masked.get c = false)
    (quiet : s.monitor.note.get c = true ∨ s.hold.held = true) (src : Nat) :
    raiseCause c src s =
      if s.hold.pointer = none then
        (markRaised c src s).setHold { (markRaised c src s).hold with pointer := some c }
      else markRaised c src s := by
  have masks : (markRaised c src s).monitor.masked.get c = false := unmasked
  have stays : (!(markRaised c src s).monitor.note.get c && !(markRaised c src s).hold.held) = false := by
    change (!s.monitor.note.get c && !s.hold.held) = false
    rcases quiet with note | held
    · rw [note]
      rfl
    · rw [held]
      exact Bool.and_false _
  unfold raiseCause
  dsimp only
  rw [masks, stays]
  rfl

theorem raise_sets_status_and_may_hold : Claims.RaiseSetsStatusAndMayHold := by
  intro s c src
  refine ⟨raiseCause_monitor c src s, fun masked => ?_, fun unmasked => ⟨fun severe running => ?_, fun quiet => ?_⟩⟩
  · rw [raiseCause_masked masked]
    rfl
  · rw [raiseCause_enters ⟨unmasked, severe⟩ running]
    refine ⟨enterHeld_hold c src _, fun room => ?_, fun room => ?_, enterHeld_holds c src _,
      enterHeld_buffer c src _⟩
    · exact enterHeld_event (s := markRaised c src s) room
    · exact enterHeld_status (s := markRaised c src s) room
  · rw [raiseCause_unmasked unmasked quiet]
    refine ⟨fun unset => ?_, fun set => ?_, ?_⟩
    · rw [if_pos unset]
      rfl
    · rw [if_neg set]
      rfl
    · split <;> exact ⟨rfl, rfl, rfl⟩

/-! ### CLEAR_CAUSE (R161) -/

theorem causeArg_of_gt {b : Byte} (h : 9 < b.toNat) : causeArg b = none :=
  List.getElem?_eq_none (by change 10 ≤ b.toNat; omega)

theorem causeArg_of_number {b : Byte} (h : b.toNat = c.number) : causeArg b = some c := by
  rw [causeArg, h]
  cases c <;> rfl

/-- CLEAR_CAUSE of a cause, its checks in their order. -/
theorem clearCauseCommand_eq {b : Byte} (h : b.toNat = c.number) (s : State) :
    clearCauseCommand b s =
      if c = .config then refuse s .state
      else if s.monitor.condition.get c then refuse s .cond
      else if c = .tamper ∧ !s.pins.service then refuse s .state
      else done (clearStatus c s) [] := by
  rw [clearCauseCommand, causeArg_of_number h]

/-- CLEAR_CAUSE's row takes in the SERVICE level that it carries. -/
theorem exec_clearCause {a : Nat} {seq cause : Byte} {service : Bool} {t : State} {code : ResultCode}
    (ready : ConsoleReady s a)
    (e : clearCauseCommand cause (s.setPins { s.pins with service := service }) = (t, ⟨code, []⟩)) :
    exec (.clearCause service seq cause) s = .next (answered a seq (.clearCause cause) code [] t) := by
  refine (exec_rowOf_ready (service := service) (c := .clearCause cause) ready).trans ?_
  rw [show rowLevel service (.clearCause cause) = some service from rfl, withService_read rfl]
  change Host.Outcome.next (answered a seq (.clearCause cause) (clearCauseCommand cause _).2.code
    (clearCauseCommand cause _).2.data (clearCauseCommand cause _).1) = _
  rw [e]

/-! ### HOLD_RELEASE (R162) -/

/-- A cause holds the part exactly if its status is set, unmasked and of severity HOLD. -/
theorem any_holdsNow_iff (s : State) :
    allCauses.any (holdsNow s) = true ↔
      ∃ c, s.hold.status.get c = true ∧ s.monitor.masked.get c = false ∧ s.monitor.note.get c = false := by
  simp only [List.any_eq_true, mem_allCauses, true_and, holdsNow_iff, Calls]

theorem holdReleaseCommand_running (running : s.hold.held = false) :
    holdReleaseCommand s = refuse s .state := by
  rw [holdReleaseCommand, running]
  rfl

/-- HOLD_RELEASE of a held part. -/
theorem holdReleaseCommand_held (held : s.hold.held = true) :
    holdReleaseCommand s =
      if allCauses.any (holdsNow s) then refuse s .cause else done (releaseHold s) [] := by
  rw [holdReleaseCommand, held]
  rfl

/-- A release tells of a hold that stands but for HELD itself. -/
theorem releaseHold_eq (s : State) :
    releaseHold s = announceHold
      (.holdEvent true s.hold.trigger.cause s.hold.pointer s.hold.trigger.source)
      (s.setHold { s.hold with held := false }) := rfl

theorem hold_is_triggered_cleared_released : Claims.HoldIsTriggeredClearedReleased := by
  intro s a seq cause service ready
  have releaseRow := fun {t : State} {code : ResultCode} (e : holdReleaseCommand s = (t, ⟨code, []⟩)) =>
    exec_row_of_perform (service := false) (seq := seq) (c := .holdRelease) ready rfl e
  refine ⟨exec_row_of_perform (service := false) (c := .holdTrigger) ready rfl rfl,
    fun beyond => exec_clearCause ready ?_,
    fun c number => ⟨fun config => exec_clearCause ready ?_, fun other =>
      ⟨fun present => exec_clearCause ready ?_, fun absent =>
        ⟨fun tamper locked => exec_clearCause ready ?_, fun allowed => exec_clearCause ready ?_⟩⟩⟩,
    fun running => releaseRow (holdReleaseCommand_running running),
    fun held => ⟨fun holding => releaseRow ?_, fun free => ?_⟩⟩
  · rw [clearCauseCommand, causeArg_of_gt beyond]
    rfl
  · rw [clearCauseCommand_eq number, if_pos config]
    rfl
  · rw [clearCauseCommand_eq number, if_neg other, if_pos (by exact present)]
    rfl
  · rw [clearCauseCommand_eq number, if_neg other, if_neg (by simp [absent]), if_pos (by simp [tamper, locked])]
    rfl
  · rw [clearCauseCommand_eq number, if_neg other, if_neg (by simp [absent]), if_neg ?_]
    · rfl
    · rintro ⟨tamper, locked⟩
      rcases allowed with apart | open_
      · exact apart tamper
      · exact absurd locked (by simp [open_])
  · rw [holdReleaseCommand_held held, if_pos ((any_holdsNow_iff s).2 holding)]
    rfl
  · have none_ : ¬ allCauses.any (holdsNow s) = true := by
      rw [any_holdsNow_iff]
      rintro ⟨c, status, unmasked, severe⟩
      exact absurd (free c status unmasked) (by simp [severe])
    refine ⟨releaseHold s, releaseRow ?_, ?_, fun room => ?_, fun room => ?_, fun x => ?_⟩
    · rw [holdReleaseCommand_held held, if_neg none_]
      rfl
    · rw [releaseHold_eq, announceHold_hold]
      rfl
    · exact announceHold_event (s := s.setHold _) rfl room
    · exact announceHold_status (s := s.setHold _) rfl room
    · rw [releaseHold_eq, announceHold_buffer]
      rfl

/-- Settles O51: a raise in its forms, with what the entry tells, and the checks of the hold's commands. -/
theorem holdIsRaisedAndReleased : Obligations.HoldIsRaisedAndReleased :=
  ⟨raise_sets_status_and_may_hold, hold_is_triggered_cleared_released⟩

/-! ### The TAMPER input (R158) -/

theorem settleTamper_still (still : s.tamperFilter.changing = false) : settleTamper s = s := by
  rw [settleTamper, still]
  rfl

/-- A change under way settles at the input's level, which then takes effect. -/
theorem settleTamper_changing (changing : s.tamperFilter.changing = true) :
    settleTamper s =
      tamperEffect s.pins.tamper (s.setTamperFilter { settled := s.pins.tamper, changing := false }) :=
  if_pos changing

theorem tamperEffect_loaded (loaded : s.start.loaded = true) (asserted : Bool) :
    tamperEffect asserted s =
      if asserted then reportCondition .tamper true (raiseCause .tamper s.tariff.own s)
      else reportCondition .tamper false s := if_pos loaded

theorem tamperEffect_unloaded (unloaded : s.start.loaded = false) (asserted : Bool) :
    tamperEffect asserted s =
      if asserted then s.setHold { s.hold with status := s.hold.status.set .tamper true } else s := by
  rw [tamperEffect, unloaded]
  rfl

/-- While no command waits, the row is the settling alone. -/
theorem exec_tamperSettled (quiet : s.line.fifo = []) : exec .tamperSettled s = .next (settleTamper s) :=
  congrArg Host.Outcome.next (takeCommands_of_empty ((settleTamper_effect s).fifo.trans quiet))

/-- Settles O52: a settling with no change under way is idle, and one with a change under way is split by load
completion and by the level. -/
theorem tamperIsFilteredAndRaised : Obligations.TamperIsFilteredAndRaised := by
  intro s level
  refine ⟨rfl, fun quiet => ?_⟩
  dsimp only
  rw [exec_tamperSettled quiet]
  refine ⟨fun still => congrArg _ (settleTamper_still still), fun changing => ?_⟩
  rw [settleTamper_changing changing]
  refine ⟨fun loaded asserted => ?_, fun loaded released => ?_, fun unloaded asserted => ?_,
    fun unloaded released => ?_⟩
  · rw [asserted, tamperEffect_loaded]
    · rfl
    · exact loaded
  · rw [released, tamperEffect_loaded]
    · rfl
    · exact loaded
  · rw [asserted, tamperEffect_unloaded]
    · rfl
    · exact unloaded
  · rw [released, tamperEffect_unloaded]
    · rfl
    · exact unloaded

end Sys2Proof.Machine

/-! PROOFS. The transmit queue and the line: where a new frame goes, what a discard tells, how the head is sent and ended,
and the tables of kinds, keys and arbitration (R188, R189, R197 to R201). -/

namespace Sys2Proof.Machine

-- One theorem at a time: the memory limit of the check counts the stack of every thread.
set_option Elab.async false

variable {s : State} {f g : TxFrame}

/-! ### A frame's place in the queue (R198 to R200) -/

/-- A queued frame has the coalescing key of a new one. -/
def Keyed (f : TxFrame) (q : List TxFrame) : Prop := f.body.key ≠ none ∧ ∃ g ∈ q, g.body.key = f.body.key

theorem keyed_iff (f : TxFrame) (q : List TxFrame) :
    (f.body.key.isSome && q.any (fun g => g.body.key = f.body.key)) = true ↔ Keyed f q := by
  simp only [Keyed, Bool.and_eq_true, Option.isSome_iff_ne_none, List.any_eq_true, decide_eq_true_eq]

theorem enqueue_of_keyed (h : Keyed f s.line.queue) :
    enqueue f s = setQueue s (replaceKey f s.line.queue) := if_pos ((keyed_iff f _).2 h)

theorem enqueue_of_unkeyed (h : ¬Keyed f s.line.queue) : enqueue f s = joinQueue f s :=
  if_neg (mt (keyed_iff f _).1 h)

/-- In a queue in order of class, a frame's place is behind the frames of its class and the more urgent ones. -/
theorem insertByClass_eq_filter {q : List TxFrame}
    (h : q.Pairwise (fun f g => f.body.cls ≤ g.body.cls)) :
    insertByClass f q =
      q.filter (fun g => g.body.cls ≤ f.body.cls) ++ f :: q.filter (fun g => f.body.cls < g.body.cls) := by
  induction q with
  | nil => rfl
  | cons g gs ih =>
    obtain ⟨least, rest⟩ := List.pairwise_cons.1 h
    rw [insertByClass]
    split
    · next le =>
      rw [ih rest, List.filter_cons_of_pos (by simpa using le), List.filter_cons_of_neg (by simpa using le)]
      rfl
    · next gt =>
      have behind : ∀ x ∈ g :: gs, f.body.cls < x.body.cls := by
        intro x hx
        rcases List.mem_cons.1 hx with rfl | old
        · omega
        · have := least x old
          omega
      rw [List.filter_eq_nil_iff.2 fun x hx => by simpa using behind x hx,
        List.filter_eq_self.2 fun x hx => by simpa using behind x hx]
      rfl

theorem joinQueue_room (room : s.line.queue.length < queuePlaces) :
    joinQueue f s = setQueue s (insertByClass f s.line.queue) := if_pos room

/-- In a full queue the youngest frame of the highest class gives way to a more urgent one. -/
theorem joinQueue_full {rest : List TxFrame} (queue : s.line.queue = rest ++ [g])
    (full : s.line.queue.length = queuePlaces) :
    joinQueue f s =
      if f.body.cls < g.body.cls then discardNotice g (setQueue s (insertByClass f rest))
      else discardNotice f s := by
  rw [joinQueue, if_neg (by omega), queue, List.getLast?_concat, List.dropLast_concat]

/-! ### Discards (R188, R200) -/

/-- A discarded SEAT_DISPLAY makes its seat's display copy invalid. -/
theorem discardNotice_seatDisplay {q : Seat} {d : Display} (h : f.body = .seatDisplay q d) (s : State) :
    discardNotice f s = s.setDisplay (s.display.set q none) := by
  rw [discardNotice, h]

/-- A discarded RESULT whose answer is pending clears the mark. -/
theorem discardNotice_answer (h : ∃ seq code command data, f.body = .result seq code command data)
    (pending : f.answer = true) (s : State) :
    discardNotice f s = s.setLine { s.line with answerPending := false } := by
  obtain ⟨seq, code, command, data, body⟩ := h
  rw [discardNotice, body]
  exact if_pos pending

/-- Any other frame gives no notice. -/
theorem discardNotice_other (display : ∀ q d, f.body ≠ .seatDisplay q d)
    (result : ∀ seq code command data, f.body ≠ .result seq code command data) (s : State) :
    discardNotice f s = s := by
  unfold discardNotice
  split
  · next q d body => exact absurd body (display q d)
  · next seq code command data body => exact absurd body (result seq code command data)
  · rfl

theorem discardNotice_tells (f : TxFrame) (s : State) :
    (∀ (q : Seat) (d : Display), f.body = .seatDisplay q d →
      (discardNotice f s).display = s.display.set q none) ∧
    ((∃ seq code command data, f.body = .result seq code command data) → f.answer = true →
      (discardNotice f s).line.answerPending = false) := by
  refine ⟨fun q d display => ?_, fun result pending => ?_⟩
  · rw [discardNotice_seatDisplay display]
    rfl
  · rw [discardNotice_answer result pending]
    rfl

theorem queue_takes_frame_by_rule : Claims.QueueTakesFrameByRule := by
  intro s f ⟨_, classes, _⟩
  refine ⟨fun keyed => ?_, fun unkeyed room => ?_, fun unkeyed rest g queue full => ?_⟩
  · rw [enqueue_of_keyed keyed]
    obtain ⟨-, g, mem, same⟩ := keyed
    exact ⟨rfl, List.mem_map.2 ⟨g, mem, if_pos same⟩, rfl, rfl⟩
  · dsimp only
    rw [enqueue_of_unkeyed unkeyed, joinQueue_room room]
    exact ⟨insertByClass_eq_filter classes, rfl, rfl⟩
  · rw [enqueue_of_unkeyed unkeyed, joinQueue_full queue full]
    split
    · refine ⟨?_, discardNotice_tells g _⟩
      rw [discardNotice_queue]
      rw [queue] at classes
      exact insertByClass_eq_filter (classes.sublist (List.sublist_append_left rest [g]))
    · exact ⟨discardNotice_queue f s, discardNotice_tells f s⟩

/-! ### The line (R188, R201) -/

theorem winsLine_iff (own : Nat) (f : TxFrame) (others : List Contender) :
    winsLine own f others = true ↔ ∀ x ∈ others,
      arbitration f.body.cls f.body.kind own ≤ arbitration x.cls.toNat x.kind.toNat x.source.toNat := by
  simp only [winsLine, List.all_eq_true, decide_eq_true_eq]

/-- At the idle line of a running part the head of the queue contends. -/
theorem contend_head {rest : List TxFrame} (loaded : s.start.loaded = true)
    (idle : s.line.transmitting = none) (queue : s.line.queue = f :: rest) (others : List Contender) :
    contend others s =
      if winsLine s.tariff.own f others then
        s.setLine { s.line with queue := rest, transmitting := some f }
      else s := by
  rw [contend, idle, queue, loaded]
  rfl

theorem contend_still (h : s.line.queue = [] ∨ s.line.transmitting ≠ none) (others : List Contender) :
    contend others s = s := by
  unfold contend
  split
  · next idle queue =>
    rcases h with empty | busy
    · exact nomatch empty.symm.trans queue
    · exact absurd idle busy
  · rfl

theorem transmissionEnds_none (idle : s.line.transmitting = none) : transmissionEnds s = s := by
  rw [transmissionEnds, idle]

theorem transmissionFails_none (idle : s.line.transmitting = none) : transmissionFails s = s := by
  rw [transmissionFails, idle]

/-- A frame other than the pending RESULT ends, and nothing else happens. -/
theorem transmissionEnds_quiet (sending : s.line.transmitting = some f) (other : f.answer = false) :
    transmissionEnds s = s.setLine { s.line with transmitting := none } := by
  rw [transmissionEnds, sending]
  dsimp only
  rw [other]
  rfl

/-- The end of the pending RESULT clears the mark, and commands are taken (R197). -/
theorem transmissionEnds_answer (sending : s.line.transmitting = some f) (pending : f.answer = true)
    (free : s.line.resetTimer = none) :
    transmissionEnds s =
      takeCommands none (s.setLine { s.line with transmitting := none, answerPending := false }) := by
  rw [transmissionEnds, sending]
  dsimp only
  rw [pending, answerSent, State.setLine_line, free]
  rfl

/-- While no command waits, an abandoned frame gives the notice of a discard. -/
theorem transmissionFails_some (sending : s.line.transmitting = some f) (quiet : s.line.fifo = []) :
    transmissionFails s = discardNotice f (s.setLine { s.line with transmitting := none }) := by
  rw [transmissionFails, sending]
  exact takeCommands_of_empty ((discardNotice_only f _).fifo.trans quiet)

theorem statusExpires_running (running : s.line.statusTimer ≠ none) (quiet : s.line.fifo = []) :
    statusExpires s = queueStatus s := by
  rw [statusExpires, if_pos (Option.isSome_iff_ne_none.2 running)]
  exact takeCommands_of_empty ((queueStatus_only s).fifo.trans quiet)

theorem line_sends_head_of_queue : Claims.LineSendsHeadOfQueue := by
  intro s
  refine ⟨fun others f rest loaded idle queue => ⟨fun wins => ?_, fun loses => ?_⟩,
    fun others still => congrArg _ (contend_still still others),
    fun idle => ⟨congrArg _ (transmissionEnds_none idle), congrArg _ (transmissionFails_none idle)⟩,
    fun f sending quiet => ⟨fun other => congrArg _ (transmissionEnds_quiet sending other),
      fun pending free => congrArg Host.Outcome.next ?_, fun q d display => congrArg Host.Outcome.next ?_,
      fun seq code command data result pending => congrArg Host.Outcome.next ?_,
      fun display result => congrArg Host.Outcome.next ?_⟩,
    fun quiet running => congrArg _ (statusExpires_running running quiet)⟩
  · refine congrArg Host.Outcome.next ((contend_head loaded idle queue others).trans (if_pos ?_))
    exact (winsLine_iff _ f others).2 wins
  · refine congrArg Host.Outcome.next ((contend_head loaded idle queue others).trans (if_neg ?_))
    rw [winsLine_iff]
    intro wins
    obtain ⟨x, mem, lower⟩ := loses
    exact absurd (wins x mem) (by omega)
  · rw [transmissionEnds_answer sending pending free]
    exact takeCommands_of_empty quiet
  · rw [transmissionFails_some sending quiet, discardNotice_seatDisplay display]
    rfl
  · rw [transmissionFails_some sending quiet, discardNotice_answer ⟨_, _, _, _, result⟩ pending]
    rfl
  · rw [transmissionFails_some sending quiet, discardNotice_other display result]

/-! ### The next command (R197) -/

/-- A command taken out of the FIFO is performed and answered. -/
theorem takeEntry_command (v : Option Bool) (a : Nat) (seq : Byte) (c : Command) (s : State) :
    takeEntry v { source := a, payload := commandPayload seq c } s =
      answered a seq c (perform a c (withService v c s)).2.code (perform a c (withService v c s)).2.data
        (perform a c (withService v c s)).1 := by
  have full : ¬(commandPayload seq c).length < 2 := by
    have := (commandPayload_length seq c).1
    omega
  simp only [takeEntry, decodeCommand_commandPayload, performDecoded, answerCommand, drawEcho, if_neg full]
  rfl

theorem completion_takes_next_command : Claims.CompletionTakesNextCommand := by
  intro s f a seq c sending pending free loaded waiting
  dsimp only
  refine congrArg Host.Outcome.next ?_
  rw [transmissionEnds_answer sending pending free]
  have able : canTake (s.setLine { s.line with
      transmitting := none, answerPending := false, fifo := [] }) = true := by
    simp [canTake, loaded, free]
  have taken := takeCommands_arrive (v := none) (e := { source := a, payload := commandPayload seq c }) rfl able
  rw [arrive_of_empty _ rfl] at taken
  refine Eq.trans (congrArg (takeCommands none) ?_) (taken.trans (takeEntry_command none a seq c _))
  rw [State.setLine_line, ← waiting]
  rfl

/-! ### Kinds, keys and arbitration (R188, R189, R199) -/

theorem sent_kinds_are_listed : Claims.SentKindsAreListed := by
  intro q d r x trigger pointer source tag amount tip index shift page seq command code data released
  exact ⟨⟨rfl, rfl⟩, ⟨rfl, rfl⟩, ⟨rfl, rfl⟩, ⟨rfl, rfl⟩, ⟨rfl, rfl⟩, ⟨rfl, rfl⟩, ⟨rfl, rfl⟩, ⟨rfl, rfl⟩,
    ⟨rfl, rfl⟩, ⟨rfl, rfl⟩, ⟨rfl, rfl⟩⟩

theorem key_status_iff (b : TxBody) : b.key = some .status ↔ ∃ x, b = .status x := by
  cases b <;> simp [TxBody.key]

theorem key_seatDisplay_iff (b : TxBody) (q : Seat) :
    b.key = some (.seatDisplay q) ↔ ∃ d, b = .seatDisplay q d := by
  cases b <;> simp [TxBody.key]

theorem key_intercomState_iff (b : TxBody) : b.key = some .intercomState ↔ ∃ x, b = .intercomState x := by
  cases b <;> simp [TxBody.key]

theorem shared_key_iff (b c : TxBody) :
    (b.key ≠ none ∧ b.key = c.key) ↔
      (∃ x y, b = .status x ∧ c = .status y) ∨
      (∃ q d e, b = .seatDisplay q d ∧ c = .seatDisplay q e) ∨
      (∃ x y, b = .intercomState x ∧ c = .intercomState y) := by
  constructor
  · rintro ⟨keyed, same⟩
    match key : b.key with
    | none => exact absurd key keyed
    | some .status =>
      obtain ⟨x, hx⟩ := (key_status_iff b).1 key
      obtain ⟨y, hy⟩ := (key_status_iff c).1 (same.symm.trans key)
      exact .inl ⟨x, y, hx, hy⟩
    | some (.seatDisplay q) =>
      obtain ⟨d, hd⟩ := (key_seatDisplay_iff b q).1 key
      obtain ⟨e, he⟩ := (key_seatDisplay_iff c q).1 (same.symm.trans key)
      exact .inr (.inl ⟨q, d, e, hd, he⟩)
    | some .intercomState =>
      obtain ⟨x, hx⟩ := (key_intercomState_iff b).1 key
      obtain ⟨y, hy⟩ := (key_intercomState_iff c).1 (same.symm.trans key)
      exact .inr (.inr ⟨x, y, hx, hy⟩)
  · rintro (⟨x, y, rfl, rfl⟩ | ⟨q, d, e, rfl, rfl⟩ | ⟨x, y, rfl, rfl⟩) <;> exact ⟨nofun, rfl⟩

/-- The class is compared first, then the kind, then the source, where the two last fit their six bits. -/
theorem arbitration_lt_iff {cls kind source cls' kind' source' : Nat} (hk : kind < 64) (hs : source < 64)
    (hk' : kind' < 64) (hs' : source' < 64) :
    arbitration cls kind source < arbitration cls' kind' source' ↔
      cls < cls' ∨ cls = cls' ∧ (kind < kind' ∨ kind = kind' ∧ source < source') := by
  unfold arbitration
  omega

/-- Settles O58: a frame's place, the line's events, the next command at the end of a RESULT, and the tables. -/
theorem transmitQueueAndLine : Obligations.TransmitQueueAndLine :=
  ⟨queue_takes_frame_by_rule, line_sends_head_of_queue, completion_takes_next_command, sent_kinds_are_listed,
    shared_key_iff, fun _ _ _ _ _ _ => arbitration_lt_iff⟩

end Sys2Proof.Machine
